-- ==== Sys2Proof/Word.lean ====
section
/-! DEFINITION. The word types of the model and the descriptor of a register's bit field. -/

namespace Sys2Proof

/-- A 32-bit register, configuration word, lane word or exchange word. -/
abbrev Word := BitVec 32

/-- A byte of a mailbox area, of the staging area or of a record. -/
abbrev Byte := BitVec 8

/-- A sparse memory: pairs of address and content, addresses strictly rising, no content equal to zero. An address
that is not listed holds zero. -/
abbrev Cells (w : Nat) := List (Nat × BitVec w)

/-- A bit field of a register: the register's place in the register file, its lowest bit and its width. -/
structure Fld where
  off : Nat
  lo : Nat
  w : Nat
  deriving DecidableEq, Repr

end Sys2Proof
end

