-- ==== Sys2Proof/Syntax.lean ====
section
/-! DEFINITION. The commands of the block: one constructor of `Instr` for each row of spec/opcode_table.json, in the
table's order, and the types of their operands. A command is an access of a host, a message, a signal at a ball, an
instruction a press issues, or the end of something that takes time (notes/assumptions/2.md). -/

namespace Sys2Proof

/-- A memory word of a press that goes bad in the sp that ends: the press; the memory, 0 state, 1 coefficient, 2 program; its lane
and its address as `ECC_UNC_INFO` gives it; in one bit, or in two (R75). -/
structure ScrubHit where
  p : Fin 4
  mem : Fin 3
  lane : Fin 32
  addr : BitVec 16
  two : Bool
  deriving DecidableEq, Repr


/-- A message a PTP instance receives (R49): Announce with its grandmaster, its clockClass and whether the best master
clock algorithm chooses it, Sync or Follow_Up with the phase error and the steering the servo then reaches,
Delay_Req, Delay_Resp, and management GET of one of four datasets and SET. -/
inductive PtpMsg where
  | announce (gm : BitVec 64) (clockClass : Byte) (best : Bool)
  | sync (perr steer : Word)
  | followUp (perr steer : Word)
  | delayReq
  | delayResp
  | managementGet (dataset : Fin 4)
  | managementSet
  deriving DecidableEq, Repr

/-- A message a PTP instance sends at its interval (R49, R50). -/
inductive PtpSend where
  | announce
  | sync
  | delayReq
  deriving DecidableEq, Repr


/-- A hardware upset in a press, as it strikes while an instruction issues: bits of a register of a lane entry flip (lanes 32
and 33 are the check lanes), bits of the result that the instruction forms in a lane entry flip, or a memory word goes bad:
memory 0 state, 1 coefficient, 2 program, at its address as `ECC_UNC_INFO` gives it, in one bit or in two (R73, R75). What
follows from it, the press finds (log entry 40). -/
inductive Upset where
  | vreg (j : Fin 34) (r : Fin 16) (x : Word)
  | pointer (j : Fin 34) (n : Fin 8) (x : BitVec 15)
  | cpointer (j : Fin 34) (m : Fin 4) (x : BitVec 11)
  | acc (j : Fin 34) (k : Fin 4) (x : BitVec 96)
  | srch (j : Fin 34) (x : Word)
  | result (j : Fin 34) (x : Word)
  | memory (mem : Fin 3) (lane : Fin 32) (addr : BitVec 16) (two : Bool)
  deriving DecidableEq, Repr

/-- The common fields of an issued instruction (R96), the press that issues it, and the upsets that strike it. -/
structure Issue where
  p : Fin 4
  pe : Bool
  psel : Fin 4
  pinv : Bool
  upsets : List Upset
  deriving DecidableEq, Repr

/-- An X operand (R99): a vector register, lane state memory through a pointer set, or an exchange word. -/
inductive XOp where
  | v (r : Fin 16)
  | mem (n : Fin 8) (disp : BitVec 8) (pm : Bool)
  | ex (a : BitVec 14)
  deriving DecidableEq, Repr

/-- A C operand (R99): a vector register, or coefficient memory through a coefficient pointer. -/
inductive COp where
  | v (r : Fin 16)
  | coef (m : Fin 4) (disp : BitVec 8) (cpm : Bool)
  deriving DecidableEq, Repr

/-- The operation of `MLOG` (R102). -/
inductive LogOp where
  | and
  | or
  | xor
  | andNot
  deriving DecidableEq, Repr

/-- The relation of `FCMP` (R102). -/
inductive Rel where
  | eq
  | ne
  | lt
  | le
  | gt
  | ge
  deriving DecidableEq, Repr


/-- A buffer descriptor that the node reads at TAIL of a ring (R459): address, length and flags. -/
structure Desc where
  addr : BitVec 64
  len : Word
  flags : BitVec 16
  deriving DecidableEq, Repr

/-- A posted playback buffer: its descriptor, its bytes, and whether its fetch is not complete in time (R219, R460). -/
structure PlayBuf where
  desc : Desc
  data : List Byte
  late : Bool
  deriving DecidableEq, Repr

/-- A frame as it arrives at a port: its bytes without the FCS, whether the FCS or the coding fails inside it, whether the
receive FIFO is full, and what the PCS saw since the last frame: code violations, corrected and uncorrectable RS-FEC
codewords, and an entry into the high bit-error-rate state (R235, R249); and the ENG cycle in which it has arrived. -/
structure RxFrame where
  bytes : List Byte
  bad : Bool
  fifoFull : Bool
  symErr : Byte
  fecCorr : Byte
  fecUncorr : Byte
  hiBer : Bool
  cycle : Fin 10240
  deriving DecidableEq, Repr


/-- What the checks of R235 see of a frame that a command gives already taken apart: its port, its length with the FCS, its destination
address, its VLAN tag's VID, whether its FCS or coding fails, whether the receive FIFO is full, and what fails of its IPv4 and transport
headers: the header check, a fragment, the checksum. -/
structure RxHead where
  port : Fin 4
  len : BitVec 14
  dst : BitVec 48
  vid : Option (BitVec 12)
  bad : Bool
  full : Bool
  hdrErr : Bool
  frag : Bool
  csumErr : Bool
  deriving DecidableEq, Repr

/-- An upset of the slot-word FIFO of a serial port: overrun or underrun, in the input or the output direction, at a slot of
the frame (R306). -/
structure SapUpset where
  overrun : Bool
  out : Bool
  slot : Fin 32
  deriving DecidableEq, Repr

/-- What a power-stage channel's converters and balls give in a switching period: the ball volts of v, i and p at the switching
rate as floats; where an sp's values complete in it, those at 96 kHz; new offsets of the background tracking; whether
`AMPn_OC_N` is asserted at its start; and, on an observer, whether the group enable is asserted and `AMPn_PWMA` toggled
(R325, R329, R330, R337). -/
structure PwmSense where
  v : Word
  i : Word
  p : Word
  slow : Option (Word × Word × Word)
  track : Option (Word × Word)
  oc : Bool
  seen : Bool
  deriving DecidableEq, Repr

/-- What the start diagnostics measure on a channel in the impedance phase, or in a passive test: the magnitudes of the demodulated ball
volts of v and of i, as floats (R334, R338). -/
structure DiagObs where
  v : Word
  i : Word
  deriving DecidableEq, Repr

/-- What a calibration measures: the two gain and offset corrections, and the loop trim (R329). -/
structure CalResult where
  vGain : Word
  vOfs : Word
  iGain : Word
  iOfs : Word
  trim : Word
  deriving DecidableEq, Repr

/-- A paired-quantity record (R360): a direct write of a window with its BAR2 offset; a converter ratio, with its anchor's
stamp where it carries one; a slip or anchor of a SYNC port (1 drop, 2 repeat, 3 anchor); a sense readback. -/
inductive PqRec where
  | direct (edge : Bool) (ofs : BitVec 24) (w : Word) (order : BitVec 16)
  | ratio (port : Fin 16) (ratio : Word) (anchor : Option (BitVec 64 × BitVec 16))
  | sync (port : Fin 16) (kind : Fin 4) (stamp : BitVec 64) (frac : BitVec 16)
  | sense (ch : Fin 16) (w0 w1 w2 w3 : Word)
  deriving DecidableEq, Repr

/-- A received pair-link frame (R357): how it arrived, its source, header, payload and TAG. -/
structure PairFrame where
  head : RxHead
  src : BitVec 48
  version : Byte
  pairId : Word
  seq : Word
  sctrLo : Word
  payload : List Byte
  tag : List Byte
  deriving DecidableEq, Repr

/-- A received Omzor message (R363), and how its datagram arrived. -/
structure OmMsg where
  head : RxHead
  version : Byte
  session : Word
  seq : BitVec 64
  sctr : BitVec 64
  pairId : Word
  node : Byte
  payload : List Byte
  tag : List Byte
  deriving DecidableEq, Repr

/-- The two ends of a session (R557): the pair link, this node's witness, or, on the witness, a supervised node 2 k + node. -/
inductive Link where
  | pair
  | witness
  | node (j : Fin 64)
  deriving DecidableEq, Repr

/-- The frames of a received handshake message, in the order of its parts (R557). -/
inductive HsFrames where
  | pair (l : List PairFrame)
  | omzor (l : List OmMsg)
  deriving DecidableEq, Repr

/-- A handshake message: sent by this node, or received (R557). -/
inductive Hs where
  | send
  | receive (f : HsFrames)
  deriving DecidableEq, Repr

/-- FINISH: sent with the SESSION and the switch boundary's SCTR low word that this node names, or received (R557). -/
inductive HsFinish where
  | send (session switch : Word)
  | receive (f : HsFrames)
  deriving DecidableEq, Repr

/-- A burst that a master requests of a target of the bus matrix: the master as R466 numbers it, the FAB cycle of its request,
counted from that of the access beside which it is given, the address and the 16-byte beats (R467). -/
structure BusReq where
  master : Fin 8
  at_ : Nat
  addr : Nat
  beats : Nat
  deriving DecidableEq, Repr

/-- Where an access goes: BAR0, BAR2, or, for a master inside the node, a target of the bus matrix, both numbered as
R466 lists them from 0; `rivals` are the requests that contend with it for the target (R467). -/
inductive Space where
  | bar0
  | bar2
  | matrix (master target : Fin 8) (rivals : List BusReq)
  deriving DecidableEq, Repr

/-- How a two-wire transfer ends on the bus (R505, R512, R513): every byte acknowledged, with the bytes read and the PEC received;
an address byte, the one of the read if `second`, or a
write byte after `acked` write bytes, not acknowledged; arbitration lost in a byte and bit, or during a STOP or
repeated START; the bus not free for 100 ms. -/
inductive TwEnd where
  | ok (rd : List Byte) (pec : Byte)
  | nackAddr (second : Bool)
  | nackData (acked : Fin 64)
  | arbLost (byte : Fin 64) (bit : Fin 9)
  | arbCond (byte : Fin 64)
  | notFree
  deriving DecidableEq, Repr

/-- The strap levels as a start samples them: BOOTSEL[1:0], TEST_EN and the address straps of the two-wire target (R573). -/
structure Straps where
  bootsel : Fin 4
  testEn : Bool
  addr : Fin 4
  deriving DecidableEq, Repr

/-- What a rail fault is of (R526): a rail, in the order of R522, with its reading in mV; or a fall of `SEQ_PG[g]`, with the
reading of a rail of that group. -/
inductive RailEnd where
  | rail (k : Fin 10) (mv : BitVec 16)
  | pg (g : Fin 6) (mv : BitVec 16)
  deriving DecidableEq, Repr

/-- The commands. -/
inductive Instr where
  /-- the sp boundary comes, `hits` being the memory words that went bad in the sp that ends (R15, R75) -/
  | spBoundary (hits : List ScrubHit)
  /-- no sp heartbeat within 1,024 ENG cycles after the expected boundary (R21) -/
  | spHeartbeatTimeout
  /-- `NOP` (R103) -/
  | nop (h : Issue)
  /-- `VLI` (R103) -/
  | vli (h : Issue) (d : Fin 16) (imm : Word)
  /-- `MOV` (R103) -/
  | mov (h : Issue) (d a : Fin 16)
  /-- `LANEID` (R103) -/
  | laneid (h : Issue) (d : Fin 16)
  /-- `PSET` (R103) -/
  | pset (h : Issue) (n : Fin 8) (base : BitVec 15) (len ofs : BitVec 16)
  /-- `PPOS` (R103) -/
  | ppos (h : Issue) (n : Fin 8) (value : BitVec 15)
  /-- `CSET` (R103) -/
  | cset (h : Issue) (n : Fin 4) (cptr : BitVec 11) (cofs : BitVec 12)
  /-- `MSET` (R103) -/
  | mset (h : Issue) (pd : Fin 4) (imm : Word)
  /-- `MLOG` (R103) -/
  | mlog (h : Issue) (pd pa pb : Fin 4) (op : LogOp)
  /-- `SRINIT` (R103): `minimum` is MODE -/
  | srinit (h : Issue) (minimum : Bool)
  /-- `RDS` (R103): `index` is SEL -/
  | rds (h : Issue) (d : Fin 16) (index : Bool)
  /-- `REP` (R117) -/
  | rep (h : Issue) (count : BitVec 16)
  /-- `END` (R117) -/
  | repEnd (h : Issue)
  /-- `FADD` (R104) -/
  | fadd (h : Issue) (d a b : Fin 16)
  /-- `FSUB` (R104) -/
  | fsub (h : Issue) (d a b : Fin 16)
  /-- `FMUL` (R104) -/
  | fmul (h : Issue) (d a b : Fin 16)
  /-- `FMA` (R104) -/
  | fma (h : Issue) (d a b c : Fin 16)
  /-- `FABS` (R104) -/
  | fabs (h : Issue) (d a : Fin 16)
  /-- `FNEG` (R104) -/
  | fneg (h : Issue) (d a : Fin 16)
  /-- `FMIN` (R104) -/
  | fmin (h : Issue) (d a b : Fin 16)
  /-- `FMAX` (R104) -/
  | fmax (h : Issue) (d a b : Fin 16)
  /-- `FCMP` (R104) -/
  | fcmp (h : Issue) (pd : Fin 4) (a b : Fin 16) (rel : Rel)
  /-- `FSEL` (R104) -/
  | fsel (h : Issue) (d a b : Fin 16) (pd : Fin 4)
  /-- `LOG2A` (R81) -/
  | log2a (h : Issue) (d a : Fin 16)
  /-- `EXP2A` (R81) -/
  | exp2a (h : Issue) (d a : Fin 16)
  /-- `RCPA` (R81) -/
  | rcpa (h : Issue) (d a : Fin 16)
  /-- `RSQA` (R81) -/
  | rsqa (h : Issue) (d a : Fin 16)
  /-- `MAC` (R105) -/
  | mac (h : Issue) (la : Fin 4) (x : XOp) (c : COp)
  /-- `XMAC` (R105) -/
  | xmac (h : Issue) (la : Fin 4) (x : XOp) (m : Fin 4) (disp : BitVec 8) (cpm : Bool)
  /-- `AADD` (R105) -/
  | aadd (h : Issue) (la : Fin 4) (x : XOp)
  /-- `ACLR` (R85) -/
  | aclr (h : Issue) (la : Fin 4)
  /-- `ARD` (R85) -/
  | ard (h : Issue) (d : Fin 16) (la : Fin 4)
  /-- `AINS` (R107) -/
  | ains (h : Issue) (la seg : Fin 4) (a b : Fin 16)
  /-- `MINX` (R108) -/
  | minx (h : Issue) (x : XOp) (imm : BitVec 16) (istep lstep : BitVec 6)
  /-- `MAXX` (R108) -/
  | maxx (h : Issue) (x : XOp) (imm : BitVec 16) (istep lstep : BitVec 6)
  /-- `XRED` (R110): `minimum` is MODE -/
  | xred (h : Issue) (minimum : Bool)
  /-- `LD` (R111) -/
  | ld (h : Issue) (d : Fin 16) (n : Fin 8) (disp : BitVec 8) (pm : Bool)
  /-- `ST` (R111) -/
  | st (h : Issue) (a : Fin 16) (n : Fin 8) (disp : BitVec 8) (pm : Bool)
  /-- `LDC` (R111) -/
  | ldc (h : Issue) (d : Fin 16) (m : Fin 4) (disp : BitVec 8) (cpm : Bool)
  /-- `LDX` (R112) -/
  | ldx (h : Issue) (d : Fin 16) (a : BitVec 14)
  /-- `STX` (R112) -/
  | stx (h : Issue) (a : Fin 16) (vec : Bool) (lane : Fin 32) (xaddr : BitVec 14)
  /-- `LDD` (R113) -/
  | ldd (h : Issue) (d t : Fin 16) (lg : Fin 4) (pk : Bool) (rs : BitVec 5) (rb : BitVec 22)
  /-- `STD` (R113) -/
  | std (h : Issue) (a t : Fin 16) (lg : Fin 4) (pk : Bool) (rs : BitVec 5) (rb : BitVec 22)
  /-- `STM` (R116): `srch` is SRC -/
  | stm (h : Issue) (a : Fin 16) (vec : Bool) (lane : Fin 32) (srch : Bool) (maddr : BitVec 14)
  /-- `NORM` (R118) -/
  | norm (h : Issue) (d : Fin 16) (la seg : Fin 4)
  /-- `EXPX` (R119) -/
  | expx (h : Issue) (d a : Fin 16)
  /-- `PRESS_FAULT_CLEAR` of channel `c` (R90) -/
  | pressFaultClear (c : Fin 8)
  /-- `XO_IN` fails: 1 no edges, 2 loss of lock (R28) -/
  | xoFault (kind : Fin 3)
  /-- a signal appears on reference slot `slot` (R38) -/
  | refSignalPresent (slot : Fin 8)
  /-- reference slot `slot` loses its signal; `ph` as in `refWindowEnd`, empty where nothing new was measured (R35, R38) -/
  | refLos (slot : Fin 8) (ph : List Int)
  /-- a 1 s window ends (R38, R40): the offset of each slot that has a complete window, in 0.001 ppm; the steering and the
  phase error the DPLL shows; and each slot's phase against the grid in ps, positive where the grid is early: the phase
  difference of a phase-only slot, the time error of a time-bearing one -/
  | refWindowEnd (ofs : List (Option (BitVec 32))) (steer perr : Word) (ph : List Int)
  /-- the wait-to-restore of a slot elapses (R38) -/
  | waitToRestoreExpiry (slot : Fin 8) (ph : List Int)
  /-- the advance condition of R46 has held for its dwell time at phase error `perr` -/
  | dpllStageAdvance (perr : Word) (ph : List Int)
  /-- the phase error passes its fall-back limit (R46) -/
  | dpllStageFallback (perr : Word)
  /-- `PHASE_STEP` of channel `c` (R52, R54) -/
  | phaseStep (c : Fin 8)
  /-- the slew ends (R52, R53) -/
  | phaseStepDone (ph : List Int)
  /-- `REALIGN` of channel `c` (R57) -/
  | realign (c : Fin 8)
  /-- `TIME_SET` of channel `c`; `pps`: edges come on `PPS_IN` (R64, R65) -/
  | timeSet (c : Fin 8) (pps : Bool)
  /-- `PTP_DATASET_GET` of channel `c` (R64) -/
  | ptpDatasetGet (c : Fin 8)
  /-- a message of a domain for PTP instance `inst` arrives in an ENG cycle (R49, R50, R237, R247) -/
  | ptpMessageReceive (inst : Fin 2) (h : RxHead) (cycle : Fin 10240) (domain : Byte) (msg : PtpMsg)
  /-- PTP instance `inst` sends the message of an interval (R49, R50) -/
  | ptpMessageSend (inst : Fin 2) (what : PtpSend)
  /-- a frame arrives at port `p` (R235 to R239, R251) -/
  | frameReceive (p : Fin 4) (rx : RxFrame)
  /-- a pause frame of `len` bytes, FCS included, with its pause_time, checked in an ENG cycle; `own`: to the port's own address; `bad`: its
  FCS or coding fails (R245, R246) -/
  | pauseFrame (p : Fin 4) (time : BitVec 16) (len : BitVec 14) (own bad : Bool) (cycle : Fin 10240)
  /-- the pause timer of port `p` expires (R246) -/
  | pauseEnd (p : Fin 4)
  /-- the link of port `p` goes down: 1 loss of signal, 2 loss of sync or block lock, 3 fault sequence, 4 auto-negotiation
  failed; `remote` says which fault sequence; `restart`: the link partner restarts auto-negotiation (R234, R249) -/
  | ethLinkDown (p : Fin 4) (reason : Fin 5) (remote restart : Bool)
  /-- the link of port `p` comes up (R234) -/
  | ethLinkUp (p : Fin 4)
  /-- the MAC of port `p` starts the next frame in an ENG cycle; `run` is the number of bytes after which the FIFO runs empty, if it does
  (R240, R243) -/
  | txFrameStart (p : Fin 4) (run : Option (BitVec 14)) (cycle : Fin 10240)
  /-- the deadline of the oldest media packet waiting at port `p` passes (R242) -/
  | mediaLateDrop (p : Fin 4)
  /-- `ETH_WAKE_PATTERN` of channel `c` (R255) -/
  | ethWakePattern (c : Fin 8)
  /-- `ETH_LINK_RESTART` of channel `c` (R255) -/
  | ethLinkRestart (c : Fin 8)
  /-- a media packet of receive flow `f` arrives on leg `leg` (0 MEDIA_P, 1 MEDIA_S) from source address `src` with UDP payload
  `rtp` (R264) -/
  | mediaPacketReceive (f : Fin 512) (leg : Fin 2) (src : Word) (rtp : List Byte)
  /-- `RXF_ADD` of channel `c` (R262) -/
  | rxfAdd (c : Fin 8)
  /-- `RXF_REMOVE` of channel `c` (R287) -/
  | rxfRemove (c : Fin 8)
  /-- `TXF_ADD` of channel `c`; `macP` and `macS` are what ARP resolves for a unicast destination on each leg within 1 s (R262, R278) -/
  | txfAdd (c : Fin 8) (macP macS : Option (BitVec 48))
  /-- `TXF_REMOVE` of channel `c` (R280) -/
  | txfRemove (c : Fin 8)
  /-- the removal of a flow completes; `tx`: of the transmit table (R287) -/
  | flowRemoved (tx : Bool) (f : Fin 512)
  /-- `RXF_STATS` of channel `c` (R287) -/
  | rxfStats (c : Fin 8)
  /-- `FLOW_LIST` of channel `c` (R287) -/
  | flowList (c : Fin 8)
  /-- flow `f` has held its last value for its hold limit (R272) -/
  | holdLimitExpiry (f : Fin 512)
  /-- a fade-out of flow `f` reaches step 32 (R272) -/
  | fadeComplete (f : Fin 512)
  /-- a fade-in of flow `f` reaches step 32 (R272) -/
  | fadeInComplete (f : Fin 512)
  /-- leg `leg` of seamless flow `f` has had no packet for LEG_TIMEOUT packet times (R271) -/
  | legTimeout (f : Fin 512) (leg : Fin 2)
  /-- a loss window ends (R274) -/
  | lossWindowEnd
  /-- the packet of transmit flow `f` is formed and offered (R276, R279) -/
  | txPacketForm (f : Fin 512)
  /-- a packet of transmit flow `f` still held at boundary n + 2P is discarded on leg `leg` (R279) -/
  | txfHeldDrop (f : Fin 512) (leg : Fin 2)
  /-- the tracker of port `t` has stayed within 10 ppm for 250 ms (R204) -/
  | convLocked (t : Fin 16)
  /-- the tracker of port `t` leaves TRACK: 1 clock lost, 2 frame error, 3 rate change, 4 FIFO (R204) -/
  | convUnlocked (t : Fin 16) (reason : Fin 5)
  /-- the tracker of port `t` decides its ratio; the first update names the anchor frame, `back` frames before the newest complete one
  (R205, R206) -/
  | convRatioUpdate (t : Fin 16) (back : Fin 64)
  /-- the Drypoint forms the outputs of a frame of group `g`: 0 the 96 kHz leaders and the power stage, 1 the 48 kHz leaders,
  2 + n follower port n (R207, R208) -/
  | drypointFrame (g : Fin 18)
  /-- `DRYPOINT_GAIN` of channel `c` (R210) -/
  | drypointGain (c : Fin 8)
  /-- a meter window has ended: the record is written to the buffer at TAIL, where one is posted (R214) -/
  | meterWindowEnd (buf : Desc)
  /-- a capture block is complete: it is written to the buffer at TAIL, where one is posted (R218) -/
  | tapCaptureBlock (buf : Desc)
  /-- the playback block of the sp 32 from here is fetched: the posted buffers from TAIL on (R219) -/
  | tapPlaybackFetch (bufs : List PlayBuf)
  /-- port `n`, a leader, passes the edge of its frame 0 at its start boundary (R300) -/
  | sapStart (n : Fin 16)
  /-- port `n` passes the edge of its first data frame in ENG cycle `cycle`: the slot words on its input from slot 0 of this
  frame on, those of the next frame after them, and an upset (R300, R301) -/
  | sapFirstDataFrame (n : Fin 16) (wire : List Word) (cycle : Fin 10240) (upset : Option SapUpset)
  /-- port `n`, a follower, has seen 256 good frames at a measured rate, and passes the edge of its frame 0 (R301, R307) -/
  | sapFollowerStart (n : Fin 16) (hz : Word) (cycle : Fin 10240)
  /-- port `n` passes the edge of any other frame; `late`: a mask written less than 2 BCLK before it waits (R295, R308) -/
  | sapFrame (n : Fin 16) (wire : List Word) (cycle : Fin 10240) (upset : Option SapUpset) (late : Bool)
  /-- port `n` decides a slip (R304) -/
  | slipDecision (n : Fin 16)
  /-- the stop of port `n` ends: after its quiet frames, or because its clock stopped (R302) -/
  | sapStopped (n : Fin 16) (clockLost : Bool)
  /-- port `n` sees 1 CLOCK_LOST, 2 FRAME_ERROR or 3 RATE_CHANGE (R307) -/
  | sapClockFault (n : Fin 16) (cond : Fin 4)
  /-- the host writes `SAP_MASK_RX[n]` or `SAP_MASK_TX[n]` (R308) -/
  | sapMaskWrite (n : Fin 16) (tx : Bool) (w : Word)
  /-- `SLOTMASK_UPDATE` of channel `c` (R309) -/
  | slotmaskUpdate (c : Fin 8)
  /-- `SAP_RESTART` of channel `c` (R315) -/
  | sapRestart (c : Fin 8)
  /-- channel `n` runs switching period `k` of the sp (R321, R328) -/
  | pwmPeriod (n : Fin 16) (k : Fin 8) (x : PwmSense)
  /-- `AMPn_OC_N` asserts in the running period of channel `n` (R330) -/
  | overCurrent (n : Fin 16)
  /-- the limited periods of channel `n` have reached OC_THR (R331) -/
  | pscShutdown (n : Fin 16)
  /-- the retry delay of channel `n` has elapsed (R332) -/
  | pscRetry (n : Fin 16)
  /-- the diagnostic sequencer reaches the next queued unit (R333) -/
  | diagTestStart
  /-- the running test posts its results; `obs` is by channel (R334) -/
  | diagTestEnd (obs : List DiagObs)
  /-- supply input `m` at `volts` (ball volts, a float) leaves the limits of a channel (R326) -/
  | pscPvddFault (m : Fin 2) (volts : Word)
  /-- supply input `m` has stayed at `volts` within the limits for 10 ms (R326) -/
  | pscPvddOk (m : Fin 2) (volts : Word)
  /-- the fade-in of channel `n` ends (R335) -/
  | pscFadeInDone (n : Fin 16)
  /-- the fade-out of channel `n` ends (R335) -/
  | pscStopDone (n : Fin 16)
  /-- `PSC_DIAG` of channel `c` (R338) -/
  | pscDiag (c : Fin 8)
  /-- `PSC_CAL` of channel `c` (R329) -/
  | pscCal (c : Fin 8)
  /-- the calibration of channel `n` ends (R329) -/
  | pscCalDone (n : Fin 16) (r : CalResult)
  /-- `PSC_CLEAR` of channel `c` (R343) -/
  | pscClear (c : Fin 8)
  /-- `PLATE_LOAD` of channel `c` (R154) -/
  | plateLoad (c : Fin 8)
  /-- `PLATE_LOADED`: the load in progress has read `data` (R154); a load from the staging area reads that instead -/
  | plateLoaded (data : List Byte)
  /-- `PLATE_LOAD_FAILED`: as above; a read of the source failed at byte offset `readErr` (R154) -/
  | plateLoadFailed (data : List Byte) (readErr : Option Nat)
  /-- `PLATE_ARM` of channel `c` (R155) -/
  | plateArm (c : Fin 8)
  /-- `PLATE_ARMED`: the arm in progress ends (R155) -/
  | plateArmed
  /-- `PLATE_DISARM` of channel `c` (R158) -/
  | plateDisarm (c : Fin 8)
  /-- `PLATE_INFO` of channel `c` (R165) -/
  | plateInfo (c : Fin 8)
  /-- `ENGINE_STARTED` at the coming boundary (R161) -/
  | engineStarted
  /-- `ENGINE_STOPPED` at the coming boundary (R162) -/
  | engineStopped
  /-- `SWAP` of channel `c` (R172) -/
  | swap (c : Fin 8)
  /-- `SWAP_CANCEL` of channel `c` (R173) -/
  | swapCancel (c : Fin 8)
  /-- `SWAP_BEGIN` at the coming boundary (R171) -/
  | swapBegin
  /-- `SWAP_DONE` at the coming boundary (R171) -/
  | swapDone
  /-- `RAMP_START` of channel `c` (R181) -/
  | rampStart (c : Fin 8)
  /-- `RAMP_INSTALL` at the coming boundary (R183) -/
  | rampInstall
  /-- `RAMP_DONE`: the running ramp at place `i` of the Burnisher writes its last step at the coming boundary (R183) -/
  | rampDone (entry : Fin 1024)
  /-- `RAMP_CANCEL` of channel `c` (R195) -/
  | rampCancel (c : Fin 8)
  /-- `RAMP_CANCEL_APPLY` at the coming boundary (R185) -/
  | rampCancelApply
  /-- `PARAM_SET_ATOMIC` of channel `c` (R190) -/
  | paramSetAtomic (c : Fin 8)
  /-- `ATOMIC_SET_APPLY`: the next set due at the coming boundary (R190) -/
  | atomicSetApply
  /-- `RAW_WINDOW_WRITE` of a word of a bank, press and CADDR, accepted in an ENG cycle of this sp (R125, R187) -/
  | rawWindowWrite (bank : Fin 2) (p : Fin 4) (a : BitVec 16) (w : Word) (cycle : Fin 10240)
  /-- `EDGE_WINDOW_WRITE` of edge `e`, accepted in an ENG cycle of this sp (R179, R187) -/
  | edgeWindowWrite (e : BitVec 14) (w : Word) (cycle : Fin 10240)
  /-- `DIRECT_WRITE_APPLY`: the next direct write due at the coming boundary (R187) -/
  | directWriteApply
  /-- `PAIR_ROLE_SET` on mailbox channel `c` (R348, R377) -/
  | pairRoleSet (c : Fin 8)
  /-- `PAIR_YIELD` on mailbox channel `c` (R354, R377) -/
  | pairYield (c : Fin 8)
  /-- an ACTIVE with a self-detected fault yields at the coming boundary (R354) -/
  | selfFaultYield
  /-- another party's `YIELD_N` pulse of this sp acts at the coming boundary (R352) -/
  | yieldPulse
  /-- `ROLE_IN` takes a level (R365) -/
  | roleInChange (high : Bool)
  /-- the heartbeat of this boundary is sent in an ENG cycle (R358) -/
  | pairHeartbeatSend (cycle : Fin 10240)
  /-- a heartbeat is received in an ENG cycle (R358) -/
  | pairHeartbeatReceive (f : PairFrame) (cycle : Fin 10240)
  /-- the peer's heartbeat of the boundary before has not arrived (R359) -/
  | heartbeatMissed
  /-- a part of a paired-quantity set is received (R360) -/
  | pairedQuantitySetReceive (f : PairFrame)
  /-- the set of eight boundaries before is applied at the coming boundary (R360) -/
  | pairedQuantityApply
  /-- the proof digest of a group whose period ended at this boundary (R361) -/
  | digestPeriodEnd (g : Fin 531)
  /-- a digest frame is received (R362) -/
  | digestReceive (f : PairFrame)
  /-- a digest of a group has not come within 24 sp (R362) -/
  | digestMissing (g : Fin 531)
  /-- PROMOTE_WIN has elapsed (R355) -/
  | promoteWindowEnd
  /-- RATIFY_MS has elapsed (R366) -/
  | pairUnratified
  /-- HEARTBEAT is sent: to this node's witness, or by the witness to a node, 2 k + node (R364) -/
  | omzorHeartbeatSend (node : Option (Fin 64))
  /-- HEARTBEAT is received: from the witness, or by the witness from a node (R364) -/
  | omzorHeartbeatReceive (from_ : Option (Fin 64)) (m : OmMsg)
  /-- the node sends HEALTH (R364, R404) -/
  | healthSend
  /-- the witness receives HEALTH from a node (R367) -/
  | healthReceive (j : Fin 64) (m : OmMsg)
  /-- the witness receives YIELD_NOTICE from a node (R367) -/
  | yieldNotice (j : Fin 64) (m : OmMsg)
  /-- the witness receives DIGEST_REPORT from a node (R367) -/
  | digestReport (j : Fin 64) (m : OmMsg)
  /-- the witness receives PEER_LOSS from a node (R367, R371) -/
  | peerLoss (j : Fin 64) (m : OmMsg)
  /-- the node receives ROLE_COMMAND (R365) -/
  | roleCommand (m : OmMsg)
  /-- the next ROLE_COMMAND that is due is executed at the coming boundary (R365) -/
  | roleCommandExecute
  /-- the next PEER_LOSS of kind 2 is sent, its delay over (R371) -/
  | peerLossSourceSend
  /-- no valid message of the witness for 1 s (R364) -/
  | pairWitnessLost
  /-- no HEALTH of a node for 250 ms (R367) -/
  | witHealthTimeout (j : Fin 64)
  /-- both nodes of a pair STANDBY for 1 s (R367) -/
  | witBothStandby (k : Fin 32)
  /-- a pair has been Matched for 10 min (R368) -/
  | witRestrikeCountClear (k : Fin 32)
  /-- a 10 ms window of source-loss reports ends (R371) -/
  | witSourceWindowEnd
  /-- `WIT_COMMAND` on mailbox channel `c` (R377) -/
  | witCommand (c : Fin 8)
  /-- `WIT_PAIR_STATUS` on mailbox channel `c` (R377) -/
  | witPairStatus (c : Fin 8)
  /-- `WIT_ALARM_CLEAR` on mailbox channel `c` (R368, R377) -/
  | witAlarmClear (c : Fin 8)
  /-- `RESTRIKE_START` on mailbox channel `c` (R390, R407) -/
  | restrikeStart (c : Fin 8)
  /-- `RESTRIKE_ABORT` on mailbox channel `c` (R394, R407) -/
  | restrikeAbort (c : Fin 8)
  /-- START is received (R390) -/
  | restrikeStartReceive (f : PairFrame)
  /-- ACCEPT is received (R389) -/
  | restrikeAccept (f : PairFrame)
  /-- REFUSE is received (R389) -/
  | restrikeRefuse (f : PairFrame)
  /-- ABORT is received (R394) -/
  | restrikeAbortReceive (f : PairFrame)
  /-- no answer to START within 96 sp (R389) -/
  | restrikeRequestTimeout
  /-- no restrike chunk for 1 s (R394) -/
  | restrikeChunkTimeout
  /-- the chunk of this boundary is copied (R391) -/
  | coefficientChunkCopy
  /-- a part of a coefficient chunk is received (R393) -/
  | coefficientChunkReceive (f : PairFrame)
  /-- the chunk that is due is written at the coming boundary (R391) -/
  | coefficientChunkApply
  /-- the ramps are snapshotted at this boundary (R392) -/
  | rampSnapshot
  /-- a part of the ramp set is received (R393) -/
  | rampPartReceive (f : PairFrame)
  /-- the ramp set is applied at the coming boundary (R392) -/
  | rampSetApply
  /-- the unit whose copy point this sp is has been packed and is sent (R385) -/
  | copyPoint
  /-- a part of a unit chunk is received (R393) -/
  | unitPartReceive (f : PairFrame)
  /-- the unit that is due in this sp is loaded for its replay, or answered NACK (R386) -/
  | unitReplay
  /-- ACK is received (R388) -/
  | unitAck (f : PairFrame)
  /-- NACK is received (R388) -/
  | unitNack (f : PairFrame)
  /-- the fill clock has reached FILL_TIME (R389) -/
  | restrikeDone
  /-- the state digest of the window that ended is sent (R399) -/
  | stateDigestWindowEnd
  /-- a state digest is received (R399) -/
  | stateDigestReceive (f : PairFrame)
  /-- a BIST pass of a press ends, its signature right or wrong (R401) -/
  | bistPassEnd (p : Fin 4) (wrong : Bool)
  /-- a sense cross-check starts (R402) -/
  | senseCheckStart
  /-- a sense cross-check ends (R402) -/
  | senseCheckEnd
  /-- `PRESS_SELFTEST` on mailbox channel `c` (R403, R407) -/
  | pressSelftest (c : Fin 8)
  /-- the self-test of a press ends, failed or passed (R403) -/
  | pressSelftestDone (fails : Bool)
  /-- a doorbell write to channel `c`; `ring` is the written bit [0] (R412) -/
  | mbDoorbell (c : Fin 8) (ring : Bool)
  /-- a write of `data` at byte offset `off` of the request area of channel `c` (R411, R412) -/
  | mbRequestWrite (c : Fin 8) (off : Fin 512) (data : List Byte)
  /-- `SYS_INFO` of channel `c` is taken and answered (R441) -/
  | sysInfo (c : Fin 8)
  /-- `FN_CFG_WRITE` of channel `c` (R424, R426, R427) -/
  | fnCfgWrite (c : Fin 8)
  /-- `FN_CFG_READ` of channel `c` (R427) -/
  | fnCfgRead (c : Fin 8)
  /-- `FN_CFG_DEFAULT` of channel `c` (R424) -/
  | fnCfgDefault (c : Fin 8)
  /-- `FN_QUERY` of channel `c` (R441, R594) -/
  | fnQuery (c : Fin 8)
  /-- `CP_RESTART` of channel `c` (R436) -/
  | cpRestart (c : Fin 8)
  /-- `MB_ECHO` of channel `c` (R441) -/
  | mbEcho (c : Fin 8)
  /-- the host writes 1 to `FN_CTL[f].ENABLE` (R423) -/
  | fnEnable (f : Fin 256)
  /-- the enable check of function `f` ends (R422, R423). `ext` is what is read from outside the node: for
  0x60 the VOUT_MODE byte of R531, `none` where its read failed; for 0x58 and 0x59 `none` where SDA is high, else the pulses but
  one after which a bus clear frees it, 9 or more where it does not (R508) -/
  | fnEnabled (f : Fin 256) (ext : Option Byte)
  /-- the host writes 0 to `FN_CTL[f].ENABLE` (R423) -/
  | fnDisable (f : Fin 256)
  /-- the stop of function `f` completes (R423) -/
  | fnStopped (f : Fin 256)
  /-- the CP watchdog expires (R433, R435) -/
  | cpWatchdog
  /-- the restarted CP runs again (R434) -/
  | cpRestarted
  /-- an endpoint reset with its cause: 1 link lost, 2 hot reset, 3 function level reset, 4 `PERST_N`, 5 D3hot (R445) -/
  | endpointReset (cause : Fin 6)
  /-- the PCIe link comes up: speed 1 to 3, width 1 or 2, what the host then sets in configuration space: bus mastering,
  MSI-X, PME, max payload and max read request (R444, R445) -/
  | hlLinkUp (speed : Fin 4) (width : Fin 3) (bme : Bool) (msix : Bool) (pme : Bool) (mps : BitVec 16) (mrrs : BitVec 16)
  /-- a DMA read of ring `r` fails: 1 completer abort, 2 unsupported request, 3 poisoned, 4 completion timeout; `d` is the
  descriptor in service where it could be reached (R462) -/
  | dmaError (r : Fin 4) (err : Fin 5) (d : Option Desc)
  /-- an SPI transaction with command byte `cmd` other than those of the three rows below: 0x02 writes `data` from
  `off` of `space`, each whole dword accepted in the ENG cycle `cycles` gives for it; any other value is an unknown command
  (R454, R455) -/
  | spiWrite (cmd : Byte) (space : Byte) (off : BitVec 24) (data : List Byte) (cycles : List (Fin 10240))
  /-- an SPI read of `bytes` bytes from `off` of `space`; `late` lists the dwords that were not ready (R454, R455) -/
  | spiRead (space : Byte) (off : BitVec 24) (bytes : BitVec 16) (late : List Nat) (cycle : Fin 10240)
  /-- an SPI status transaction (R454) -/
  | spiStatus
  /-- an SPI identity transaction (R454) -/
  | spiIdentity
  /-- agent `a` (0 PCIe host, 1 SPI host, 2 CP, 3 debug) reads semaphore `k` (R469) -/
  | semaphoreRead (a : Fin 4) (k : Fin 32)
  /-- agent `a` writes semaphore `k` (R469) -/
  | semaphoreWrite (a : Fin 4) (k : Fin 32)
  /-- the host writes `w` to `IRQ_ENABLE` (R453) -/
  | irqEnableWrite (w : Word)
  /-- the host sets EN of ring `r` (R463) -/
  | ringEnable (r : Fin 4)
  /-- the host writes `head` to `RING_HEAD[r]` (R458) -/
  | ringHeadWrite (r : Fin 4) (head : BitVec 17)
  /-- `HL_LINK_INFO` of channel `c` (R473) -/
  | hlLinkInfo (c : Fin 8)
  /-- `STAGING_CRC` of channel `c` (R473) -/
  | stagingCrc (c : Fin 8)
  /-- agent `a` writes `w` with byte enables `be` at byte offset `off` of BAR0 or BAR2 (R448, R450), or a bus master
  addresses a target of the matrix (R466), in ENG cycle `cycle` of the sp -/
  | registerWrite (a : Fin 4) (sp : Space) (off : BitVec 24) (be : BitVec 4) (w : Word) (cycle : Fin 10240)
  /-- agent `a` reads the dword at offset `off` of BAR0 or BAR2 in ENG cycle `cycle` of the sp; an RC register is cleared (R9) -/
  | readClearCounter (a : Fin 4) (sp : Space) (off : BitVec 24) (cycle : Fin 10240)
  /-- a read of `SCTR_LO` at ENG cycle `cycle` of the sp (R34) -/
  | sctrLoRead (cycle : Fin 10240)
  /-- a read of `SAP_STAMP_LO[n]` (R313) -/
  | sapStampLoRead (n : Fin 16)
  /-- a host read of `n` dwords from dword `dw` of slot `slot` of log RAM, or of the last-gasp bank; `unc`: the read finds
  an uncorrectable error in the slot (R488, R492) -/
  | logSlotRead (bank : Bool) (slot : Fin 4096) (dw : Fin 8) (n : Fin 9) (unc : Bool)
  /-- the writer writes its next record or rewrite; `unc`: the write finds an uncorrectable error in the slot (R485, R492) -/
  | logRecordWrite (unc : Bool)
  /-- a scrub of log RAM corrects `corrected` single-bit errors and finds an uncorrectable one in slot `unc` (R492) -/
  | logScrub (corrected : BitVec 16) (unc : Option (Fin 4096))
  /-- `LOG_REPAIR` of channel `c` (R493) -/
  | logRepair (c : Fin 8)
  /-- the repair ends; `failed` lists the segments that failed their test or an access after it (R493, R494) -/
  | logRepaired (failed : List (Fin 128))
  /-- `LOG_CLEAR` of channel `c` (R498) -/
  | logClear (c : Fin 8)
  /-- `LOG_GASP_CLEAR` of channel `c` (R498) -/
  | logGaspClear (c : Fin 8)
  /-- `TW_XFER` on mailbox channel `c` (R504, R521) -/
  | twXfer (c : Fin 8)
  /-- `BUS_CLEAR` on mailbox channel `c` (R508, R521); SDA is high after `freed` + 1 pulses, or never -/
  | busClear (c : Fin 8) (freed : Option (Fin 9))
  /-- controller `k` starts its next transfer (R503, R504) -/
  | twTransferStart (k : Fin 2)
  /-- the transfer of controller `k` ends (R505) -/
  | twTransferEnd (k : Fin 2) (e : TwEnd)
  /-- SCL of bus `k` is low beyond SCL_TO, after `acked` bytes of a transfer that runs; the bus clear that follows frees SDA
  or not (R507) -/
  | sclLowTimeout (k : Fin 2) (acked : Fin 68) (freed : Option (Fin 9))
  /-- SDA of bus `k` is low while idle beyond SDA_TO; the bus clear frees it or not (R507) -/
  | sdaLowTimeout (k : Fin 2) (freed : Option (Fin 9))
  /-- both lines of bus `k` have been high for 50 µs (R503); a bus clear that waits runs -/
  | twBusFree (k : Fin 2) (freed : Option (Fin 9))
  /-- controller `k` reads the alert response address (R510): `fresh` where the line has been high since the last read, and the
  byte of the target that answers -/
  | alertResponseRead (k : Fin 2) (fresh : Bool) (answer : Option Byte)
  /-- a target of bus `k` pulls SDA low and sends 8 bits (R511); a bus clear that follows frees SDA or not -/
  | inBandRequest (k : Fin 2) (bits : Byte) (freed : Option (Fin 9))
  /-- a write transaction to the target, its data bytes (R516) -/
  | twtWrite (data : List Byte)
  /-- a read transaction of `n` bytes from the target (R516) -/
  | twtRead (n : BitVec 16)
  /-- the target is read at the alert response address, and sends its whole byte or loses the arbitration (R517) -/
  | twtAlertResponse (whole : Bool)
  /-- SCL low for 25 ms in a transaction to the target (R517) -/
  | twtTimeout
  /-- `VDD_AON` rises through 0.70 V (R535) -/
  | powerOnReset
  /-- `RESET_N` has been low for 1 µs and rises; the straps as sampled (R534, R573) -/
  | resetN (st : Straps)
  /-- `NODE_RESET` of channel `c` (R545); the straps as sampled after it -/
  | nodeReset (c : Fin 8) (st : Straps)
  /-- `SEQ_PG[g]` rises (R524) -/
  | seqPgRise (g : Fin 6)
  /-- `SEQ_PG[g]` is not high within 20 ms (R524) -/
  | seqPgTimeout (g : Fin 6)
  /-- a rail fault (R526) -/
  | railFault (what : RailEnd)
  /-- rail `k` has been outside its window for 10 µs, reading `mv` (R525) -/
  | railWindow (k : Fin 10) (mv : BitVec 16)
  /-- rail `k` has been inside its window for 100 ms, reading `mv` (R525) -/
  | railWindowClear (k : Fin 10) (mv : BitVec 16)
  /-- the eight sensors are read, in 0.25 °C (R527) -/
  | tempReading (r : List (BitVec 12))
  /-- the CP sends a step of `VDD_CORE` to `mv` (R530) -/
  | avsStep (mv : BitVec 10)
  /-- start-up completes `ms` after its release, with what QSPI holds as copies A and B and what the start-up calibration
  measures on each channel (R536, R537) -/
  | pmBootDone (a b : List Byte) (ms : BitVec 16) (cal : List CalResult)
  /-- the host writes 1 to `BOOT_CTL.GO` (R537) -/
  | bootGo
  /-- `PM_DORMANT` of channel `c` (R539) -/
  | pmDormant (c : Fin 8)
  /-- `PM_READINGS` of channel `c`, with the ten rail readings in mV (R545) -/
  | pmReadings (c : Fin 8) (mv : List (BitVec 16))
  /-- `GPIO[j]` has been at `level` for 1 ms (R540) -/
  | wakeGpio (j : Fin 8) (level : Bool)
  /-- the AON timer reaches `sec` seconds (R540) -/
  | wakeTimer (sec : BitVec 32)
  /-- `PERST_N` rises (R540) -/
  | perstNRise
  /-- `FW_STAGE` of channel `c` (R554, R555) -/
  | fwStage (c : Fin 8)
  /-- the read of an image ends: its bytes where the source lies outside the node, and whether the read failed (R554) -/
  | fwStaged (data : List Byte) (readErr : Bool)
  /-- `FW_VERIFY` of channel `c` (R554) -/
  | fwVerify (c : Fin 8)
  /-- the verification of the staged image ends (R551, R554) -/
  | fwVerified
  /-- `FW_ACTIVATE` of channel `c` (R556) -/
  | fwActivate (c : Fin 8)
  /-- `FW_DISCARD` of channel `c` (R554) -/
  | fwDiscard (c : Fin 8)
  /-- `FW_COMMIT` of channel `c` (R553) -/
  | fwCommit (c : Fin 8)
  /-- new firmware has run for 60 s (R556) -/
  | commitAutoExpiry
  /-- `ATTEST` of channel `c` (R549) -/
  | attest (c : Fin 8)
  /-- `CERT_READ` of channel `c` (R548, R564) -/
  | certRead (c : Fin 8)
  /-- `DEBUG_CHALLENGE` of channel `c` (R559) -/
  | debugChallenge (c : Fin 8)
  /-- `DEBUG_UNLOCK` of channel `c` (R559) -/
  | debugUnlock (c : Fin 8)
  /-- `DEBUG_LOCK` of channel `c` (R559) -/
  | debugLock (c : Fin 8)
  /-- `OTP_KEY_PROGRAM` of channel `c` (R560) -/
  | otpKeyProgram (c : Fin 8)
  /-- `OTP_KEY_REVOKE` of channel `c` (R560) -/
  | otpKeyRevoke (c : Fin 8)
  /-- `OTP_VENDOR_OFF` of channel `c` (R560) -/
  | otpVendorOff (c : Fin 8)
  /-- HELLO is sent or received (R557) -/
  | sessionHello (l : Link) (m : Hs)
  /-- REPLY is sent or received (R557) -/
  | sessionReply (l : Link) (m : Hs)
  /-- FINISH is sent or received (R557) -/
  | sessionFinish (l : Link) (m : HsFinish)
  /-- DONE is sent or received (R557) -/
  | sessionDone (l : Link) (m : Hs)
  /-- a handshake has not reached DONE within 1 s (R557) -/
  | sessionFail (l : Link)
  /-- a SEQ of the pair link has reached 2^31 (R558) -/
  | sessionRekey
  /-- the second of the permanent rails comes within its window while `RESET_N` is high; the straps as sampled (R578) -/
  | permanentRailsValid (st : Straps)
  /-- the debug master resets the node; the straps as sampled after it (R535) -/
  | debugMasterReset (st : Straps)
  /-- start-up ends without a firmware image, QSPI holding `a` and `b` (R537) -/
  | bootFailure (a b : List Byte)
  /-- another controller sends a START on bus `k` (R503) -/
  | twBusBusy (k : Fin 2)
  /-- the `EVT_HOLDOFF` interval ends (R420) -/
  | evtHoldoffExpiry
  /-- the 100 ms limit of the record with sequence number `seq` ends (R419) -/
  | eventRingRecopy (seq : BitVec 32)
  deriving DecidableEq, Repr

end Sys2Proof
end

