-- ==== Sys2Proof/Decode.lean ====
section
/-! DEFINITION. The commands that a word spells. No row of spec/opcode_table.json gives a command bits: a command comes to
the block as an access, a message or an event, so a word of the table's numbering spells none. The 64-bit words of plate
instructions are data of a plate, decoded where R98 checks them (Machine/PlateArm.lean). -/

namespace Sys2Proof

/-- The command that `w` spells by the table's bits: none, since no row has any. -/
def decodeTableWord (_nbits _w : Nat) : Option Instr := none

end Sys2Proof
end

