-- ==== Sys2Proof/Config.lean ====
section
/-! DEFINITION. The values the spec leaves open, as constants without a body: nothing can evaluate one or prove a
value of it, so a statement about the model holds whatever they are (notes/assumptions/1.md, 5.md, 6.md). -/

namespace Sys2Proof

/-- The ENG cycle of an event that its command does not carry, one for each use: below 10,240 where it is read modulo 10,240 (R31,
log entry 5). -/
opaque Config.freeCycle : Nat → Nat

/-- The instruction that a press's maintenance ROM issues: program 0 the press self-test, 1 the start-up calibration; the sp since
the program began, and the slot. The spec gives no ROM contents (R120, log entry 41). -/
opaque Config.romWord : Nat → Nat → Nat → BitVec 64

/-- The iteration number of the innermost repeat block in that slot of the program (R117, log entry 41). -/
opaque Config.romIter : Nat → Nat → Nat → Nat

/-- The multicast addresses that the CP registers for its listeners on a port, at most 16 (R236, log entry 52). -/
opaque Config.listenMacs : Nat → List (BitVec 48)

/-- A word that the spec leaves open, one for each use (log entry 1). -/
opaque Config.freeWord : Nat → Word

/-- The random bytes of a nonce (R559) or of an ephemeral key (R557), one list for each use (log entry 6). -/
opaque Config.freeBytes : Nat → List Byte

/-- The SHA-256 digest that R549 to R560 use, as 32 bytes; the standard is not part of the spec (log entry 6). -/
opaque Config.sha256 : List Byte → List Byte

/-- Whether an ECDSA P-256 signature verifies: key X‖Y, digest, signature r‖s (R551, R559; log entry 6). -/
opaque Config.ecdsaVerify : List Byte → List Byte → List Byte → Bool

/-- The signature the device key makes over a digest (R549, R557; log entry 6). -/
opaque Config.deviceSign : List Byte → List Byte

/-- The vendor public key X‖Y that the boot ROM holds (R551, check 4; log entry 6). -/
opaque Config.vendorKey : List Byte

/-- The leaf certificate in OTP and the CA certificate that `CERT_READ` returns (R548; log entry 6). -/
opaque Config.certificate : Nat → List Byte

/-- AES-128-CMAC under a session key: key and message (R357, R363; log entry 6). -/
opaque Config.cmac : List Byte → List Byte → List Byte

/-- The P-256 public key X‖Y of an ephemeral key, and the ECDH secret of an ephemeral key with a public key (R557; log
entry 6). -/
opaque Config.ephemeral : Nat → List Byte
opaque Config.ecdh : Nat → List Byte → List Byte

/-- HKDF-SHA256: keying material, salt and info; the first 16 bytes (R557; log entry 6). -/
opaque Config.hkdf : List Byte → List Byte → List Byte → List Byte

/-- Whether a leaf certificate chains to the device root, the public key it holds, and the device serial it names (R548, R557;
log entry 6). -/
opaque Config.certChains : List Byte → Bool
opaque Config.certKey : List Byte → List Byte
opaque Config.certSerial : List Byte → BitVec 64

/-- The binary32 coefficients of an adaptor of R198: which one (0 48→96, 1 96→48, 2 192→96), its filter (R199), and the input sample's
age; the spec gives no values (log entry 13). -/
opaque Config.firCoef : Nat → Bool → Nat → Word

/-- A ratio tracker's loop (R204): its bandwidth (0 to 3 as `CONV_CFG.TRACK_BW`, 4 for the 20 Hz of ACQUIRE), the estimate before, the
port's last block stamps, newest first, in 65,536ths of an sp, and the fill of its FIFO; the estimate of port rate / 96,000, in units
of 2^-62. The spec gives no loop filter (log entry 46). -/
opaque Config.trackLoop : Nat → Nat → List Nat → Nat → Nat

/-- The tracker's frequency error for an estimate and the block stamps, in units of 1e-9; the spec does not say how it is taken (log
entry 46). -/
opaque Config.trackError : Nat → List Nat → Nat

/-- A converter channel from a port into the engine (R203, R205): the ratio, the fraction of the read position, and the slot
values of 64 frames around it; the spec gives no coefficients (log entry 13). -/
opaque Config.asrcIn : Word → Nat → List Word → Word

/-- A converter channel from the engine to a port (R203): the ratio, the ENG cycle of the frame edge, and the last 96 sink
values, newest first (log entry 13). -/
opaque Config.asrcOut : Word → Nat → List Word → Word

/-- The binary32 coefficients of a power-stage channel's reference interpolator (R324): whether it runs at 768 kHz, and the distance from
the centre of its response in switching periods; the spec gives no values (log entry 13). -/
opaque Config.pscTap : Bool → Nat → Word

/-- A sine of 1.0 peak (R329, R334): its frequency in Hz as a float, whether it is sampled at 768 kHz or at 384 kHz, and the sample's
number; the spec gives no samples (log entry 59). -/
opaque Config.sine : Word → Bool → Nat → Word

end Sys2Proof
end

