-- ==== Sys2Proof/Machine/Regs.lean ====
section
/-! DEFINITION. The names of the spec's registers, configuration words and bit fields: `R.X` is a register's place in
the register file, `F.X_Y` the field Y of register X. A BAR0 register stands at its BAR0 offset (R447); word `o` of
the configuration block of function `f` stands at `0x10000 + 0x1000 * f + o` (R426). `regTable` gives the access
class of every BAR0 register bit, as the register tables of the chapters state (R9, R10). -/

namespace Sys2Proof.Machine

/-- The place in the register file of the word at byte offset `o` of the configuration block of function `f` (R426). -/
def cfgKey (f o : Nat) : Nat := 0x10000 + 0x1000 * f + o


/-! R34 (02_clocks_reference.md) -/
def R.SCTR_LO : Nat := 0x4000
def R.SCTR_HI : Nat := 0x4004
def R.SCTR_FRAC : Nat := 0x4008
def F.SCTR_FRAC_FRAC : Fld := ⟨R.SCTR_FRAC, 0, 16⟩
def R.TAI_SEC_LO : Nat := 0x400C
def R.TAI_SEC_HI : Nat := 0x4010
def F.TAI_SEC_HI_TAI_SEC_HI : Fld := ⟨R.TAI_SEC_HI, 0, 16⟩
def R.TAI_NS : Nat := 0x4014
def F.TAI_NS_TAI_NS : Fld := ⟨R.TAI_NS, 0, 30⟩
def R.TIME_STAT : Nat := 0x4018
def F.TIME_STAT_SCTR_STATE : Fld := ⟨R.TIME_STAT, 0, 2⟩
def F.TIME_STAT_SLEWING : Fld := ⟨R.TIME_STAT, 2, 1⟩
def F.TIME_STAT_TIME_BLOCKED : Fld := ⟨R.TIME_STAT, 3, 1⟩
def R.DPLL_STAT : Nat := 0x401C
def F.DPLL_STAT_STAGE : Fld := ⟨R.DPLL_STAT, 0, 3⟩
def F.DPLL_STAT_SWITCHING : Fld := ⟨R.DPLL_STAT, 3, 1⟩
def F.DPLL_STAT_SELECTED : Fld := ⟨R.DPLL_STAT, 4, 3⟩
def F.DPLL_STAT_SEL_VALID : Fld := ⟨R.DPLL_STAT, 7, 1⟩
def F.DPLL_STAT_SERVO_PAUSED : Fld := ⟨R.DPLL_STAT, 8, 1⟩
def R.PHASE_ERR : Nat := 0x4020
def R.FREQ_OFS : Nat := 0x4024
def R.REF_STATE : Nat := 0x4028
def R.SLEW_REMAIN : Nat := 0x402C
def R.REF_OFS (i : Nat) : Nat := 0x4030 + 0x4 * i

/-! R61 (02_clocks_reference.md) -/
def R.DPLL_CFG : Nat := cfgKey 0x20 0x0
def F.DPLL_CFG_TRACK_BW : Fld := ⟨R.DPLL_CFG, 0, 4⟩
def F.DPLL_CFG_SLEW : Fld := ⟨R.DPLL_CFG, 8, 8⟩
def F.DPLL_CFG_REVERTIVE : Fld := ⟨R.DPLL_CFG, 16, 1⟩
def F.DPLL_CFG_FORCE : Fld := ⟨R.DPLL_CFG, 17, 1⟩
def F.DPLL_CFG_FORCE_SLOT : Fld := ⟨R.DPLL_CFG, 18, 3⟩
def R.MON_CFG : Nat := cfgKey 0x20 0x4
def F.MON_CFG_SOFT_LIM : Fld := ⟨R.MON_CFG, 0, 8⟩
def F.MON_CFG_HARD_LIM : Fld := ⟨R.MON_CFG, 8, 8⟩
def F.MON_CFG_DRIFT_LIM : Fld := ⟨R.MON_CFG, 16, 8⟩
def R.WTR_CFG : Nat := cfgKey 0x20 0x8
def F.WTR_CFG_WTR : Fld := ⟨R.WTR_CFG, 0, 12⟩
def R.OUT_CFG : Nat := cfgKey 0x20 0xC
def F.OUT_CFG_WCLK_OUT_EN : Fld := ⟨R.OUT_CFG, 0, 1⟩
def F.OUT_CFG_WCLK_RATE : Fld := ⟨R.OUT_CFG, 1, 1⟩
def F.OUT_CFG_PPS_OUT_EN : Fld := ⟨R.OUT_CFG, 2, 1⟩
def F.OUT_CFG_FRM_OUT_EN : Fld := ⟨R.OUT_CFG, 3, 1⟩
def F.OUT_CFG_FRM_OUT_RATE : Fld := ⟨R.OUT_CFG, 4, 4⟩
def F.OUT_CFG_PPS_WIDTH : Fld := ⟨R.OUT_CFG, 8, 16⟩
def R.FRM_CFG : Nat := cfgKey 0x20 0x10
def F.FRM_CFG_FRM_IN_RATE : Fld := ⟨R.FRM_CFG, 0, 4⟩
def F.FRM_CFG_FRM_IN_EDGE : Fld := ⟨R.FRM_CFG, 4, 1⟩
def R.MCLK_CFG : Nat := cfgKey 0x20 0x14
def F.MCLK_CFG_MCLK_EN : Fld := ⟨R.MCLK_CFG, 0, 4⟩
def F.MCLK_CFG_MCLK_DIV : Fld := ⟨R.MCLK_CFG, 8, 8⟩
def R.REF_CFG (i : Nat) : Nat := cfgKey 0x20 (0x0020 + 0x4 * i)
def F.REF_CFG_TYPE (i : Nat) : Fld := ⟨(R.REF_CFG i), 0, 4⟩
def F.REF_CFG_SAP (i : Nat) : Fld := ⟨(R.REF_CFG i), 4, 4⟩
def F.REF_CFG_PRIORITY (i : Nat) : Fld := ⟨(R.REF_CFG i), 8, 4⟩
def F.REF_CFG_QL (i : Nat) : Fld := ⟨(R.REF_CFG i), 12, 4⟩
def F.REF_CFG_QL_AUTO (i : Nat) : Fld := ⟨(R.REF_CFG i), 16, 1⟩

/-! R62 (02_clocks_reference.md) -/
def R.PTP_CFG0 (f : Nat) : Nat := cfgKey f 0x0
def F.PTP_CFG0_PROFILE (f : Nat) : Fld := ⟨(R.PTP_CFG0 f), 0, 2⟩
def F.PTP_CFG0_MODE (f : Nat) : Fld := ⟨(R.PTP_CFG0 f), 2, 2⟩
def F.PTP_CFG0_HYBRID (f : Nat) : Fld := ⟨(R.PTP_CFG0 f), 4, 1⟩
def F.PTP_CFG0_DOMAIN (f : Nat) : Fld := ⟨(R.PTP_CFG0 f), 8, 8⟩
def F.PTP_CFG0_PRIORITY1 (f : Nat) : Fld := ⟨(R.PTP_CFG0 f), 16, 8⟩
def F.PTP_CFG0_PRIORITY2 (f : Nat) : Fld := ⟨(R.PTP_CFG0 f), 24, 8⟩
def R.PTP_CFG1 (f : Nat) : Nat := cfgKey f 0x4
def F.PTP_CFG1_LOG_SYNC (f : Nat) : Fld := ⟨(R.PTP_CFG1 f), 0, 4⟩
def F.PTP_CFG1_LOG_ANNOUNCE (f : Nat) : Fld := ⟨(R.PTP_CFG1 f), 4, 4⟩
def F.PTP_CFG1_LOG_DELAYREQ (f : Nat) : Fld := ⟨(R.PTP_CFG1 f), 8, 4⟩
def F.PTP_CFG1_ANN_TIMEOUT (f : Nat) : Fld := ⟨(R.PTP_CFG1 f), 12, 3⟩
def F.PTP_CFG1_DSCP (f : Nat) : Fld := ⟨(R.PTP_CFG1 f), 16, 6⟩
def R.PTP_CFG2 (f : Nat) : Nat := cfgKey f 0x8
def F.PTP_CFG2_UTC_OFFSET (f : Nat) : Fld := ⟨(R.PTP_CFG2 f), 0, 16⟩
def F.PTP_CFG2_UTC_VALID (f : Nat) : Fld := ⟨(R.PTP_CFG2 f), 16, 1⟩

/-! R63 (02_clocks_reference.md) -/
def R.SFAULT_CLK : Nat := 0x0114
def F.SFAULT_CLK_XO_LOST : Fld := ⟨R.SFAULT_CLK, 0, 1⟩
def F.SFAULT_CLK_HOLDOVER : Fld := ⟨R.SFAULT_CLK, 1, 1⟩
def F.SFAULT_CLK_REF_DISQ : Fld := ⟨R.SFAULT_CLK, 2, 1⟩
def F.SFAULT_CLK_TIME_OFFSET : Fld := ⟨R.SFAULT_CLK, 3, 1⟩
def F.SFAULT_CLK_PTP_LOSS : Fld := ⟨R.SFAULT_CLK, 4, 1⟩

/-! R91 (03_press_arithmetic.md) -/
def R.PRESS_STAT (i : Nat) : Nat := 0x5000 + 0x40 * i
def F.PRESS_STAT_FAULTED (i : Nat) : Fld := ⟨(R.PRESS_STAT i), 0, 1⟩
def F.PRESS_STAT_MISMATCH (i : Nat) : Fld := ⟨(R.PRESS_STAT i), 1, 1⟩
def F.PRESS_STAT_ECC_UNC (i : Nat) : Fld := ⟨(R.PRESS_STAT i), 2, 1⟩
def F.PRESS_STAT_MUTED (i : Nat) : Fld := ⟨(R.PRESS_STAT i), 3, 1⟩
def F.PRESS_STAT_GATED (i : Nat) : Fld := ⟨(R.PRESS_STAT i), 4, 1⟩
def F.PRESS_STAT_CHECK_K (i : Nat) : Fld := ⟨(R.PRESS_STAT i), 8, 4⟩
def R.FLAG_NAN (i : Nat) : Nat := 0x5004 + 0x40 * i
def R.FLAG_INF (i : Nat) : Nat := 0x5008 + 0x40 * i
def R.FLAG_OVF (i : Nat) : Nat := 0x500C + 0x40 * i
def R.FLAG_TLOST (i : Nat) : Nat := 0x5010 + 0x40 * i
def R.MISM_INFO (i : Nat) : Nat := 0x5014 + 0x40 * i
def F.MISM_INFO_LANE (i : Nat) : Fld := ⟨(R.MISM_INFO i), 0, 5⟩
def F.MISM_INFO_CHECK_LANE (i : Nat) : Fld := ⟨(R.MISM_INFO i), 5, 1⟩
def F.MISM_INFO_ELEMENT (i : Nat) : Fld := ⟨(R.MISM_INFO i), 6, 4⟩
def F.MISM_INFO_SLOT (i : Nat) : Fld := ⟨(R.MISM_INFO i), 10, 14⟩
def F.MISM_INFO_VALID (i : Nat) : Fld := ⟨(R.MISM_INFO i), 31, 1⟩
def R.MISM_SCTR (i : Nat) : Nat := 0x5018 + 0x40 * i
def R.MISM_CNT (i : Nat) : Nat := 0x501C + 0x40 * i
def R.ECC_CORR_CNT (i : Nat) : Nat := 0x5020 + 0x40 * i
def R.ECC_UNC_INFO (i : Nat) : Nat := 0x5024 + 0x40 * i
def F.ECC_UNC_INFO_MEM (i : Nat) : Fld := ⟨(R.ECC_UNC_INFO i), 0, 2⟩
def F.ECC_UNC_INFO_LANE (i : Nat) : Fld := ⟨(R.ECC_UNC_INFO i), 2, 5⟩
def F.ECC_UNC_INFO_SCRUB (i : Nat) : Fld := ⟨(R.ECC_UNC_INFO i), 7, 1⟩
def F.ECC_UNC_INFO_ADDRESS (i : Nat) : Fld := ⟨(R.ECC_UNC_INFO i), 8, 16⟩
def F.ECC_UNC_INFO_VALID (i : Nat) : Fld := ⟨(R.ECC_UNC_INFO i), 31, 1⟩
def R.SCRUB_PASS (i : Nat) : Nat := 0x5028 + 0x40 * i
def R.PRESS_CTL : Nat := 0x5100
def F.PRESS_CTL_FAULT_MUTE : Fld := ⟨R.PRESS_CTL, 0, 1⟩

/-! R92 (03_press_arithmetic.md) -/
def R.SFAULT_ENG : Nat := 0x0118
def F.SFAULT_ENG_PRESS_FAULT : Fld := ⟨R.SFAULT_ENG, 0, 4⟩
def F.SFAULT_ENG_ECC_UNC : Fld := ⟨R.SFAULT_ENG, 4, 1⟩
def F.SFAULT_ENG_NAN : Fld := ⟨R.SFAULT_ENG, 5, 1⟩
def F.SFAULT_ENG_INF : Fld := ⟨R.SFAULT_ENG, 6, 1⟩
def F.SFAULT_ENG_ACC_OVF : Fld := ⟨R.SFAULT_ENG, 7, 1⟩
def F.SFAULT_ENG_TALLY_LOST : Fld := ⟨R.SFAULT_ENG, 8, 1⟩

/-! R159 (05_plates_engine_memory.md) -/
def R.ENG_CFG : Nat := cfgKey 0x40 0x0
def F.ENG_CFG_START_MODE : Fld := ⟨R.ENG_CFG, 0, 2⟩
def F.ENG_CFG_CLEAR_DELAY : Fld := ⟨R.ENG_CFG, 2, 1⟩
def R.ENG_START_LO : Nat := cfgKey 0x40 0x4
def R.ENG_START_HI : Nat := cfgKey 0x40 0x8

/-! R163 (05_plates_engine_memory.md) -/
def R.ENG_BANK_STAT : Nat := 0x5200
def F.ENG_BANK_STAT_STATE_A : Fld := ⟨R.ENG_BANK_STAT, 0, 3⟩
def F.ENG_BANK_STAT_STATE_B : Fld := ⟨R.ENG_BANK_STAT, 4, 3⟩
def F.ENG_BANK_STAT_BUSY : Fld := ⟨R.ENG_BANK_STAT, 8, 1⟩
def R.PLATE_HASH (i : Nat) : Nat := 0x5204 + 0x4 * i
def R.PLATE_ID_LO (i : Nat) : Nat := 0x520C + 0x8 * i
def R.PLATE_ID_HI (i : Nat) : Nat := 0x5210 + 0x8 * i
def R.RAW_IDLE_DROP : Nat := 0x521C

/-! R164 (05_plates_engine_memory.md) -/
def F.SFAULT_ENG_PLATE_LOAD_FAIL : Fld := ⟨R.SFAULT_ENG, 9, 1⟩

/-! R192 (06_live_change.md) -/
def R.DW_CTL : Nat := 0x4080
def F.DW_CTL_RAW_EN : Fld := ⟨R.DW_CTL, 0, 1⟩
def F.DW_CTL_EDGE_EN : Fld := ⟨R.DW_CTL, 1, 1⟩
def R.DW_APPLIED : Nat := 0x4084
def R.DW_STBY_DROP : Nat := 0x4088
def R.DW_EDGE_DROP : Nat := 0x408C
def R.DW_LOCK_DROP : Nat := 0x4090
def R.DW_LAST_SCTR : Nat := 0x4094

/-! R193 (06_live_change.md) -/
def R.SWAP_STAT : Nat := 0x5220
def F.SWAP_STAT_STATE : Fld := ⟨R.SWAP_STAT, 0, 2⟩
def F.SWAP_STAT_ENTER_B : Fld := ⟨R.SWAP_STAT, 2, 1⟩
def F.SWAP_STAT_CURVE : Fld := ⟨R.SWAP_STAT, 3, 1⟩
def F.SWAP_STAT_L : Fld := ⟨R.SWAP_STAT, 16, 13⟩
def R.SWAP_SCTR_LO : Nat := 0x5224
def R.SWAP_SCTR_HI : Nat := 0x5228
def R.XFADE_POS : Nat := 0x522C
def F.XFADE_POS_J : Fld := ⟨R.XFADE_POS, 0, 13⟩
def R.RAMP_STAT : Nat := 0x5230
def F.RAMP_STAT_RUNNING : Fld := ⟨R.RAMP_STAT, 0, 11⟩
def F.RAMP_STAT_PENDING : Fld := ⟨R.RAMP_STAT, 11, 11⟩
def R.RAMP_OVERRIDE : Nat := 0x5234
def R.ATOMIC_PEND : Nat := 0x5238
def F.ATOMIC_PEND_SETS : Fld := ⟨R.ATOMIC_PEND, 0, 6⟩

/-! R194 (06_live_change.md) -/
def F.SFAULT_ENG_SWAP_ABANDONED : Fld := ⟨R.SFAULT_ENG, 10, 1⟩
def F.SFAULT_ENG_RAMP_CANCEL : Fld := ⟨R.SFAULT_ENG, 11, 1⟩
def F.SFAULT_ENG_DW_STANDBY : Fld := ⟨R.SFAULT_ENG, 12, 1⟩

/-! R221 (07_conversion_drypoint_meters.md) -/
def R.CONV_CFG : Nat := cfgKey 0x28 0x0
def F.CONV_CFG_TRACK_BW : Fld := ⟨R.CONV_CFG, 0, 2⟩
def R.CONV_MAP (i : Nat) : Nat := cfgKey 0x28 (0x0010 + 0x4 * i)
def F.CONV_MAP_USED (i : Nat) : Fld := ⟨(R.CONV_MAP i), 0, 1⟩
def F.CONV_MAP_DIR (i : Nat) : Fld := ⟨(R.CONV_MAP i), 1, 1⟩
def F.CONV_MAP_PORT (i : Nat) : Fld := ⟨(R.CONV_MAP i), 2, 4⟩
def F.CONV_MAP_SLOT (i : Nat) : Fld := ⟨(R.CONV_MAP i), 6, 5⟩

/-! R222 (07_conversion_drypoint_meters.md) -/
def R.DP_IN (i : Nat) : Nat := cfgKey 0x29 (0x0000 + 0x4 * i)
def F.DP_IN_USED (i : Nat) : Fld := ⟨(R.DP_IN i), 0, 1⟩
def F.DP_IN_PORT (i : Nat) : Fld := ⟨(R.DP_IN i), 1, 4⟩
def F.DP_IN_SLOT (i : Nat) : Fld := ⟨(R.DP_IN i), 5, 5⟩
def R.DP_OUT (i : Nat) : Nat := cfgKey 0x29 (0x0100 + 0x4 * i)
def F.DP_OUT_USED (i : Nat) : Fld := ⟨(R.DP_OUT i), 0, 1⟩
def F.DP_OUT_KIND (i : Nat) : Fld := ⟨(R.DP_OUT i), 1, 1⟩
def F.DP_OUT_TARGET (i : Nat) : Fld := ⟨(R.DP_OUT i), 2, 4⟩
def F.DP_OUT_SLOT (i : Nat) : Fld := ⟨(R.DP_OUT i), 6, 5⟩
def R.DP_ROUTE (i : Nat) : Nat := cfgKey 0x29 (0x0180 + 0x8 * i)

/-! R223 (07_conversion_drypoint_meters.md) -/
def R.TAP_CFG : Nat := cfgKey 0x2A 0x0
def F.TAP_CFG_CAP_COUNT : Fld := ⟨R.TAP_CFG, 0, 9⟩
def F.TAP_CFG_PLAY_COUNT : Fld := ⟨R.TAP_CFG, 16, 9⟩
def R.METER_CFG : Nat := cfgKey 0x2B 0x0
def F.METER_CFG_SNAP_EN : Fld := ⟨R.METER_CFG, 0, 1⟩
def F.METER_CFG_BUFFERS : Fld := ⟨R.METER_CFG, 8, 8⟩

/-! R224 (07_conversion_drypoint_meters.md) -/
def R.CONV_TRK (i : Nat) : Nat := 0x5400 + 0x4 * i
def F.CONV_TRK_STATE (i : Nat) : Fld := ⟨(R.CONV_TRK i), 0, 2⟩
def F.CONV_TRK_FIFO (i : Nat) : Fld := ⟨(R.CONV_TRK i), 2, 6⟩
def R.CONV_RATIO (i : Nat) : Nat := 0x5440 + 0x4 * i
def R.TAP_UNDERRUN_CNT : Nat := 0x5480
def R.TAP_LATE_CNT : Nat := 0x5484
def R.TAP_CAPDROP_CNT : Nat := 0x5488
def R.METER_DROP_CNT : Nat := 0x548C
def R.METER_SEQ : Nat := 0x5490

/-! R225 (07_conversion_drypoint_meters.md) -/
def R.SFAULT_CONV : Nat := 0x0138
def F.SFAULT_CONV_CONV_UNLOCK : Fld := ⟨R.SFAULT_CONV, 0, 1⟩
def F.SFAULT_CONV_TAP_UNDERRUN : Fld := ⟨R.SFAULT_CONV, 1, 1⟩
def F.SFAULT_CONV_TAP_CAP_DROP : Fld := ⟨R.SFAULT_CONV, 2, 1⟩
def F.SFAULT_CONV_METER_DROP : Fld := ⟨R.SFAULT_CONV, 3, 1⟩
def F.SFAULT_CONV_DP_GROUP : Fld := ⟨R.SFAULT_CONV, 4, 1⟩

/-! R252 (08_ethernet_ports.md) -/
def R.ETH_CFG (f : Nat) : Nat := cfgKey f 0x0
def F.ETH_CFG_SPEED (f : Nat) : Fld := ⟨(R.ETH_CFG f), 0, 3⟩
def F.ETH_CFG_AN (f : Nat) : Fld := ⟨(R.ETH_CFG f), 3, 1⟩
def F.ETH_CFG_RS_FEC (f : Nat) : Fld := ⟨(R.ETH_CFG f), 4, 1⟩
def F.ETH_CFG_ROLE (f : Nat) : Fld := ⟨(R.ETH_CFG f), 5, 3⟩
def F.ETH_CFG_WAKE_EN (f : Nat) : Fld := ⟨(R.ETH_CFG f), 8, 1⟩
def F.ETH_CFG_MAC_OVR (f : Nat) : Fld := ⟨(R.ETH_CFG f), 9, 1⟩
def F.ETH_CFG_TX_START (f : Nat) : Fld := ⟨(R.ETH_CFG f), 10, 6⟩
def F.ETH_CFG_MAX_FRAME (f : Nat) : Fld := ⟨(R.ETH_CFG f), 16, 14⟩
def R.ETH_CFG_VLAN (f : Nat) : Nat := cfgKey f 0x4
def F.ETH_CFG_VLAN_CTL_VID (f : Nat) : Fld := ⟨(R.ETH_CFG_VLAN f), 0, 12⟩
def F.ETH_CFG_VLAN_CTL_PCP (f : Nat) : Fld := ⟨(R.ETH_CFG_VLAN f), 12, 3⟩
def R.ETH_IP_ADDR (f : Nat) : Nat := cfgKey f 0x8
def R.ETH_IP_MASK (f : Nat) : Nat := cfgKey f 0xC
def R.ETH_IP_GW (f : Nat) : Nat := cfgKey f 0x10
def R.ETH_MAC_LO (f : Nat) : Nat := cfgKey f 0x14
def R.ETH_MAC_HI (f : Nat) : Nat := cfgKey f 0x18
def F.ETH_MAC_HI_MAC_HI (f : Nat) : Fld := ⟨(R.ETH_MAC_HI f), 0, 16⟩
def R.ETH_POLICE (f : Nat) : Nat := cfgKey f 0x1C
def F.ETH_POLICE_CTL_RATE (f : Nat) : Fld := ⟨(R.ETH_POLICE f), 0, 17⟩
def R.ETH_TS (f : Nat) : Nat := cfgKey f 0x20
def F.ETH_TS_TX_ASYM (f : Nat) : Fld := ⟨(R.ETH_TS f), 0, 16⟩
def F.ETH_TS_RX_ASYM (f : Nat) : Fld := ⟨(R.ETH_TS f), 16, 16⟩
def R.ETH_SERDES (f : Nat) : Nat := cfgKey f 0x24
def F.ETH_SERDES_TX_PRE (f : Nat) : Fld := ⟨(R.ETH_SERDES f), 0, 5⟩
def F.ETH_SERDES_TX_MAIN (f : Nat) : Fld := ⟨(R.ETH_SERDES f), 5, 6⟩
def F.ETH_SERDES_TX_POST (f : Nat) : Fld := ⟨(R.ETH_SERDES f), 11, 5⟩

/-! R253 (08_ethernet_ports.md) -/
def R.ETH_STAT (i : Nat) : Nat := 0x5800 + 0x100 * i
def F.ETH_STAT_LINK (i : Nat) : Fld := ⟨(R.ETH_STAT i), 0, 1⟩
def F.ETH_STAT_SPEED_ACT (i : Nat) : Fld := ⟨(R.ETH_STAT i), 1, 2⟩
def F.ETH_STAT_FEC_ACT (i : Nat) : Fld := ⟨(R.ETH_STAT i), 3, 1⟩
def F.ETH_STAT_AN_DONE (i : Nat) : Fld := ⟨(R.ETH_STAT i), 4, 1⟩
def F.ETH_STAT_LOCAL_FAULT (i : Nat) : Fld := ⟨(R.ETH_STAT i), 5, 1⟩
def F.ETH_STAT_REMOTE_FAULT (i : Nat) : Fld := ⟨(R.ETH_STAT i), 6, 1⟩
def F.ETH_STAT_PAUSED (i : Nat) : Fld := ⟨(R.ETH_STAT i), 7, 1⟩
def F.ETH_STAT_TX_START_CUR (i : Nat) : Fld := ⟨(R.ETH_STAT i), 8, 6⟩
def R.ETH_PAUSE_REM (i : Nat) : Nat := 0x5804 + 0x100 * i
def F.ETH_PAUSE_REM_QUANTA (i : Nat) : Fld := ⟨(R.ETH_PAUSE_REM i), 0, 16⟩
def R.ETH_ADDR_LO (i : Nat) : Nat := 0x5808 + 0x100 * i
def R.ETH_ADDR_HI (i : Nat) : Nat := 0x580C + 0x100 * i
def F.ETH_ADDR_HI_ADDR_HI (i : Nat) : Fld := ⟨(R.ETH_ADDR_HI i), 0, 16⟩
def R.ETH_WAKE_SRC : Nat := 0x5B10
def F.ETH_WAKE_SRC_MAGIC : Fld := ⟨R.ETH_WAKE_SRC, 0, 1⟩
def F.ETH_WAKE_SRC_PATTERN : Fld := ⟨R.ETH_WAKE_SRC, 1, 8⟩

/-! R254 (08_ethernet_ports.md) -/
def R.SFAULT_NET : Nat := 0x0108
def F.SFAULT_NET_LINK_DOWN : Fld := ⟨R.SFAULT_NET, 0, 4⟩
def F.SFAULT_NET_TX_UNDERRUN : Fld := ⟨R.SFAULT_NET, 4, 4⟩
def F.SFAULT_NET_MEDIA_LATE : Fld := ⟨R.SFAULT_NET, 8, 4⟩
def F.SFAULT_NET_FEC_UNCORR : Fld := ⟨R.SFAULT_NET, 12, 4⟩
def F.SFAULT_NET_RX_FIFO : Fld := ⟨R.SFAULT_NET, 16, 4⟩

/-! R284 (09_media_flows.md) -/
def R.RXF_CFG : Nat := cfgKey 0x08 0x0
def F.RXF_CFG_LEG_TIMEOUT : Fld := ⟨R.RXF_CFG, 0, 4⟩
def R.TXF_CFG : Nat := cfgKey 0x09 0x0
def F.TXF_CFG_DSCP : Fld := ⟨R.TXF_CFG, 0, 6⟩
def F.TXF_CFG_TTL : Fld := ⟨R.TXF_CFG, 8, 8⟩

/-! R285 (09_media_flows.md) -/
def R.RXF_STAT (i : Nat) : Nat := 0x6000 + 0x8 * i
def F.RXF_STAT_STATE (i : Nat) : Fld := ⟨(R.RXF_STAT i), 0, 3⟩
def F.RXF_STAT_LEG_P_UP (i : Nat) : Fld := ⟨(R.RXF_STAT i), 3, 1⟩
def F.RXF_STAT_LEG_S_UP (i : Nat) : Fld := ⟨(R.RXF_STAT i), 4, 1⟩
def F.RXF_STAT_FILL (i : Nat) : Fld := ⟨(R.RXF_STAT i), 8, 8⟩
def R.RXF_MISS (i : Nat) : Nat := 0x6004 + 0x8 * i
def R.TXF_STAT (i : Nat) : Nat := 0x7000 + 0x8 * i
def F.TXF_STAT_STATE (i : Nat) : Fld := ⟨(R.TXF_STAT i), 0, 2⟩
def R.TXF_HELD_DROP (i : Nat) : Nat := 0x7004 + 0x8 * i
def R.POOL_STAT : Nat := 0x5C00
def F.POOL_STAT_FREE_PAGES : Fld := ⟨R.POOL_STAT, 0, 12⟩
def F.POOL_STAT_RX_FLOWS : Fld := ⟨R.POOL_STAT, 16, 10⟩
def R.TXF_COUNT : Nat := 0x5C04
def F.TXF_COUNT_TX_FLOWS : Fld := ⟨R.TXF_COUNT, 0, 10⟩

/-! R286 (09_media_flows.md) -/
def R.SFAULT_FLOW : Nat := 0x010C
def F.SFAULT_FLOW_RX_LOSS : Fld := ⟨R.SFAULT_FLOW, 0, 1⟩
def F.SFAULT_FLOW_RX_LATE : Fld := ⟨R.SFAULT_FLOW, 1, 1⟩
def F.SFAULT_FLOW_RX_EARLY : Fld := ⟨R.SFAULT_FLOW, 2, 1⟩
def F.SFAULT_FLOW_RX_FORMAT : Fld := ⟨R.SFAULT_FLOW, 3, 1⟩
def F.SFAULT_FLOW_LEG_DOWN : Fld := ⟨R.SFAULT_FLOW, 4, 1⟩
def F.SFAULT_FLOW_TX_HELD_DROP : Fld := ⟨R.SFAULT_FLOW, 5, 1⟩

/-! R312 (10_serial_audio_ports.md) -/
def R.SAP_CFG (f : Nat) : Nat := cfgKey f 0x0
def F.SAP_CFG_FOLLOWER (f : Nat) : Fld := ⟨(R.SAP_CFG f), 0, 1⟩
def F.SAP_CFG_ASRC (f : Nat) : Fld := ⟨(R.SAP_CFG f), 1, 1⟩
def F.SAP_CFG_FORMAT (f : Nat) : Fld := ⟨(R.SAP_CFG f), 2, 2⟩
def F.SAP_CFG_SLOTS (f : Nat) : Fld := ⟨(R.SAP_CFG f), 4, 5⟩
def F.SAP_CFG_SLOT_W (f : Nat) : Fld := ⟨(R.SAP_CFG f), 9, 2⟩
def F.SAP_CFG_DATA_W (f : Nat) : Fld := ⟨(R.SAP_CFG f), 11, 2⟩
def F.SAP_CFG_RATE (f : Nat) : Fld := ⟨(R.SAP_CFG f), 13, 2⟩
def F.SAP_CFG_BCLK_DIV (f : Nat) : Fld := ⟨(R.SAP_CFG f), 15, 3⟩
def F.SAP_CFG_BCLK_INV (f : Nat) : Fld := ⟨(R.SAP_CFG f), 18, 1⟩
def F.SAP_CFG_FS_INV (f : Nat) : Fld := ⟨(R.SAP_CFG f), 19, 1⟩
def F.SAP_CFG_FS_WIDTH (f : Nat) : Fld := ⟨(R.SAP_CFG f), 20, 1⟩
def F.SAP_CFG_FS_DLY (f : Nat) : Fld := ⟨(R.SAP_CFG f), 21, 1⟩
def F.SAP_CFG_DUAL192 (f : Nat) : Fld := ⟨(R.SAP_CFG f), 22, 1⟩
def F.SAP_CFG_FILTER (f : Nat) : Fld := ⟨(R.SAP_CFG f), 23, 1⟩
def F.SAP_CFG_AUTO_RESTART (f : Nat) : Fld := ⟨(R.SAP_CFG f), 24, 1⟩
def F.SAP_CFG_TX_MASK_HIZ (f : Nat) : Fld := ⟨(R.SAP_CFG f), 25, 1⟩
def F.SAP_CFG_PAIR_CLK (f : Nat) : Fld := ⟨(R.SAP_CFG f), 26, 1⟩
def F.SAP_CFG_START_AT (f : Nat) : Fld := ⟨(R.SAP_CFG f), 27, 1⟩
def R.SAP_CHAN (f : Nat) : Nat := cfgKey f 0x4
def F.SAP_CHAN_RX_BASE (f : Nat) : Fld := ⟨(R.SAP_CHAN f), 0, 8⟩
def F.SAP_CHAN_RX_CH (f : Nat) : Fld := ⟨(R.SAP_CHAN f), 8, 6⟩
def F.SAP_CHAN_TX_BASE (f : Nat) : Fld := ⟨(R.SAP_CHAN f), 16, 8⟩
def F.SAP_CHAN_TX_CH (f : Nat) : Fld := ⟨(R.SAP_CHAN f), 24, 6⟩
def R.SAP_TIME (f : Nat) : Nat := cfgKey f 0x8
def F.SAP_TIME_QUIET (f : Nat) : Fld := ⟨(R.SAP_TIME f), 0, 11⟩
def F.SAP_TIME_HOLD (f : Nat) : Fld := ⟨(R.SAP_TIME f), 16, 11⟩
def R.SAP_START_LO (f : Nat) : Nat := cfgKey f 0xC
def R.SAP_START_HI (f : Nat) : Nat := cfgKey f 0x10

/-! R313 (10_serial_audio_ports.md) -/
def R.SAP_STAT (i : Nat) : Nat := 0x8000 + 0x40 * i
def F.SAP_STAT_PHASE (i : Nat) : Fld := ⟨(R.SAP_STAT i), 0, 3⟩
def F.SAP_STAT_SLOT_ALIGN_LOST (i : Nat) : Fld := ⟨(R.SAP_STAT i), 3, 1⟩
def F.SAP_STAT_FAULT (i : Nat) : Fld := ⟨(R.SAP_STAT i), 4, 2⟩
def F.SAP_STAT_SLIP_PEND (i : Nat) : Fld := ⟨(R.SAP_STAT i), 6, 1⟩
def F.SAP_STAT_DRIVING (i : Nat) : Fld := ⟨(R.SAP_STAT i), 7, 1⟩
def F.SAP_STAT_FILL (i : Nat) : Fld := ⟨(R.SAP_STAT i), 8, 4⟩
def R.SAP_STAMP_LO (i : Nat) : Nat := 0x8004 + 0x40 * i
def R.SAP_STAMP_HI (i : Nat) : Nat := 0x8008 + 0x40 * i
def R.SAP_STAMP_FRAC (i : Nat) : Nat := 0x800C + 0x40 * i
def F.SAP_STAMP_FRAC_FRAC (i : Nat) : Fld := ⟨(R.SAP_STAMP_FRAC i), 0, 16⟩
def R.SAP_MASK_RX (i : Nat) : Nat := 0x8010 + 0x40 * i
def R.SAP_MASK_TX (i : Nat) : Nat := 0x8014 + 0x40 * i
def R.SLIP_DROP (i : Nat) : Nat := 0x8018 + 0x40 * i
def R.SLIP_REPEAT (i : Nat) : Nat := 0x801C + 0x40 * i
def R.SAP_ALIGN_CNT (i : Nat) : Nat := 0x8020 + 0x40 * i
def R.SAP_FAULT_CNT (i : Nat) : Nat := 0x8024 + 0x40 * i
def R.SAP_MASK_DROP (i : Nat) : Nat := 0x8028 + 0x40 * i

/-! R314 (10_serial_audio_ports.md) -/
def R.SFAULT_SAP : Nat := 0x0110
def F.SFAULT_SAP_CLOCK : Fld := ⟨R.SFAULT_SAP, 0, 16⟩
def F.SFAULT_SAP_SLOT_ALIGN : Fld := ⟨R.SFAULT_SAP, 16, 16⟩

/-! R340 (11_power_stage_control.md) -/
def R.PSC_CFG (f : Nat) : Nat := cfgKey f 0x0
def F.PSC_CFG_FSW (f : Nat) : Fld := ⟨(R.PSC_CFG f), 0, 1⟩
def F.PSC_CFG_PVDD_SEL (f : Nat) : Fld := ⟨(R.PSC_CFG f), 1, 1⟩
def F.PSC_CFG_SHUT_GROUP (f : Nat) : Fld := ⟨(R.PSC_CFG f), 2, 1⟩
def F.PSC_CFG_DIAG_EN (f : Nat) : Fld := ⟨(R.PSC_CFG f), 3, 1⟩
def F.PSC_CFG_PHASE (f : Nat) : Fld := ⟨(R.PSC_CFG f), 4, 4⟩
def F.PSC_CFG_MIN_PULSE (f : Nat) : Fld := ⟨(R.PSC_CFG f), 8, 8⟩
def F.PSC_CFG_OC_FILT (f : Nat) : Fld := ⟨(R.PSC_CFG f), 16, 6⟩
def R.PSC_GAIN (f : Nat) : Nat := cfgKey f 0x4
def R.PSC_CLIP (f : Nat) : Nat := cfgKey f 0x8
def R.PSC_VSCALE (f : Nat) : Nat := cfgKey f 0xC
def R.PSC_ISCALE (f : Nat) : Nat := cfgKey f 0x10
def R.PSC_PSCALE (f : Nat) : Nat := cfgKey f 0x14
def R.PSC_PVDD_LIM (f : Nat) : Nat := cfgKey f 0x18
def F.PSC_PVDD_LIM_PVDD_MIN (f : Nat) : Fld := ⟨(R.PSC_PVDD_LIM f), 0, 8⟩
def F.PSC_PVDD_LIM_PVDD_MAX (f : Nat) : Fld := ⟨(R.PSC_PVDD_LIM f), 8, 8⟩
def R.PSC_OC (f : Nat) : Nat := cfgKey f 0x1C
def F.PSC_OC_OC_WIN (f : Nat) : Fld := ⟨(R.PSC_OC f), 0, 11⟩
def F.PSC_OC_OC_THR (f : Nat) : Fld := ⟨(R.PSC_OC f), 16, 11⟩
def R.PSC_RETRY (f : Nat) : Nat := cfgKey f 0x20
def F.PSC_RETRY_RETRY_MS (f : Nat) : Fld := ⟨(R.PSC_RETRY f), 0, 11⟩
def R.PSC_DIAG_THR (f : Nat) : Nat := cfgKey f 0x24
def F.PSC_DIAG_THR_OPEN_OHM (f : Nat) : Fld := ⟨(R.PSC_DIAG_THR f), 0, 16⟩
def F.PSC_DIAG_THR_SHORT_OHM (f : Nat) : Fld := ⟨(R.PSC_DIAG_THR f), 16, 16⟩
def R.PSC_XOVER (f : Nat) : Nat := cfgKey f 0x28
def R.PSC_LOOP (f : Nat) (i : Nat) : Nat := cfgKey f (0x0030 + 0x4 * i)

/-! R341 (11_power_stage_control.md) -/
def R.PSC_STAT (i : Nat) : Nat := 0x8400 + 0x40 * i
def F.PSC_STAT_STATE (i : Nat) : Fld := ⟨(R.PSC_STAT i), 0, 4⟩
def F.PSC_STAT_LIMITED (i : Nat) : Fld := ⟨(R.PSC_STAT i), 4, 1⟩
def F.PSC_STAT_CLIPPED (i : Nat) : Fld := ⟨(R.PSC_STAT i), 5, 1⟩
def F.PSC_STAT_EN (i : Nat) : Fld := ⟨(R.PSC_STAT i), 6, 1⟩
def F.PSC_STAT_RETRIES (i : Nat) : Fld := ⟨(R.PSC_STAT i), 8, 4⟩
def F.PSC_STAT_DIAG_RESULT (i : Nat) : Fld := ⟨(R.PSC_STAT i), 12, 4⟩
def R.PSC_DIAG_Z (i : Nat) : Nat := 0x8404 + 0x40 * i
def F.PSC_DIAG_Z_Z (i : Nat) : Fld := ⟨(R.PSC_DIAG_Z i), 0, 16⟩
def R.PSC_LIMIT_CNT (i : Nat) : Nat := 0x8408 + 0x40 * i
def R.PSC_SHUT_CNT (i : Nat) : Nat := 0x840C + 0x40 * i
def R.PSC_CLIP_CNT (i : Nat) : Nat := 0x8410 + 0x40 * i
def R.PSC_CAL_V_GAIN (i : Nat) : Nat := 0x8414 + 0x40 * i
def R.PSC_CAL_V_OFS (i : Nat) : Nat := 0x8418 + 0x40 * i
def R.PSC_CAL_I_GAIN (i : Nat) : Nat := 0x841C + 0x40 * i
def R.PSC_CAL_I_OFS (i : Nat) : Nat := 0x8420 + 0x40 * i
def R.PSC_LOOP_TRIM (i : Nat) : Nat := 0x8424 + 0x40 * i
def R.PVDD_STAT : Nat := 0x8800
def F.PVDD_STAT_PVDD0 : Fld := ⟨R.PVDD_STAT, 0, 16⟩
def F.PVDD_STAT_PVDD1 : Fld := ⟨R.PVDD_STAT, 16, 16⟩

/-! R342 (11_power_stage_control.md) -/
def R.SFAULT_PSC : Nat := 0x011C
def F.SFAULT_PSC_CH_FAULT : Fld := ⟨R.SFAULT_PSC, 0, 16⟩
def F.SFAULT_PSC_PVDD : Fld := ⟨R.SFAULT_PSC, 16, 2⟩
def F.SFAULT_PSC_CLIP : Fld := ⟨R.SFAULT_PSC, 18, 1⟩
def F.SFAULT_PSC_LATCHED : Fld := ⟨R.SFAULT_PSC, 19, 1⟩
def F.SFAULT_PSC_CAL_RANGE : Fld := ⟨R.SFAULT_PSC, 20, 1⟩

/-! R373 (12_pair_and_witness.md) -/
def R.PAIR_CFG : Nat := cfgKey 0x48 0x0
def F.PAIR_CFG_ROLE_SOURCE : Fld := ⟨R.PAIR_CFG, 0, 1⟩
def F.PAIR_CFG_NODE_IDX : Fld := ⟨R.PAIR_CFG, 1, 1⟩
def F.PAIR_CFG_RATIFY_ACTION : Fld := ⟨R.PAIR_CFG, 2, 1⟩
def F.PAIR_CFG_RATIFY_MS : Fld := ⟨R.PAIR_CFG, 16, 13⟩
def R.PAIR_ID : Nat := cfgKey 0x48 0x4
def R.PAIR_PEER_LO : Nat := cfgKey 0x48 0x8
def R.PAIR_PEER_HI : Nat := cfgKey 0x48 0xC
def F.PAIR_PEER_HI_PEER_HI : Fld := ⟨R.PAIR_PEER_HI, 0, 16⟩
def R.WIT_IP : Nat := cfgKey 0x48 0x14
def R.WIT_SERIAL_LO : Nat := cfgKey 0x48 0x1C
def R.WIT_SERIAL_HI : Nat := cfgKey 0x48 0x20
def R.PAIR_LIMITS : Nat := cfgKey 0x48 0x10
def F.PAIR_LIMITS_PROMOTE_WIN : Fld := ⟨R.PAIR_LIMITS, 0, 10⟩
def F.PAIR_LIMITS_TIME_LIMIT : Fld := ⟨R.PAIR_LIMITS, 16, 7⟩
def R.WIT_PORT : Nat := cfgKey 0x48 0x18
def F.WIT_PORT_PORT : Fld := ⟨R.WIT_PORT, 0, 16⟩

/-! R374 (12_pair_and_witness.md) -/
def R.WIT_SVC_CFG : Nat := cfgKey 0x49 0x0
def F.WIT_SVC_CFG_PAIRS : Fld := ⟨R.WIT_SVC_CFG, 0, 6⟩
def F.WIT_SVC_CFG_PORT : Fld := ⟨R.WIT_SVC_CFG, 16, 16⟩
def R.WIT_PAIR (i : Nat) : Nat := cfgKey 0x49 (0x0020 + 0x20 * i)
def F.WIT_PAIR_PREFERRED (i : Nat) : Fld := ⟨(R.WIT_PAIR i), 0, 1⟩
def F.WIT_PAIR_AUTO_RESTRIKE (i : Nat) : Fld := ⟨(R.WIT_PAIR i), 1, 1⟩

/-! R375 (12_pair_and_witness.md) -/
def R.PAIR_STAT : Nat := 0x8C00
def F.PAIR_STAT_ROLE : Fld := ⟨R.PAIR_STAT, 0, 3⟩
def F.PAIR_STAT_MATCHED : Fld := ⟨R.PAIR_STAT, 3, 1⟩
def F.PAIR_STAT_PROMOTABLE : Fld := ⟨R.PAIR_STAT, 4, 1⟩
def F.PAIR_STAT_DIVERGED : Fld := ⟨R.PAIR_STAT, 5, 1⟩
def F.PAIR_STAT_PEER_LOST : Fld := ⟨R.PAIR_STAT, 6, 1⟩
def F.PAIR_STAT_LINK_UP : Fld := ⟨R.PAIR_STAT, 7, 1⟩
def F.PAIR_STAT_PEER_ACTIVE : Fld := ⟨R.PAIR_STAT, 8, 1⟩
def F.PAIR_STAT_PEER_MATCHED : Fld := ⟨R.PAIR_STAT, 9, 1⟩
def F.PAIR_STAT_UNRATIFIED : Fld := ⟨R.PAIR_STAT, 10, 1⟩
def F.PAIR_STAT_WITNESS_UP : Fld := ⟨R.PAIR_STAT, 11, 1⟩
def F.PAIR_STAT_GUARD : Fld := ⟨R.PAIR_STAT, 12, 1⟩
def F.PAIR_STAT_OWN_FAULT : Fld := ⟨R.PAIR_STAT, 13, 1⟩
def F.PAIR_STAT_YIELD_IN : Fld := ⟨R.PAIR_STAT, 14, 1⟩
def R.PAIR_AGREE : Nat := 0x8C04
def R.PAIR_TOFS : Nat := 0x8C08
def R.PAIR_CHANGE_SCTR_LO : Nat := 0x8C0C
def R.PAIR_CHANGE_SCTR_HI : Nat := 0x8C10
def R.HB_MISSED : Nat := 0x8C20
def R.DIGEST_MISMATCH : Nat := 0x8C24
def R.DIGEST_MISSING : Nat := 0x8C28
def R.PQ_LATE : Nat := 0x8C2C
def R.PAIR_TAG_FAIL : Nat := 0x8C30
def R.OMZOR_DROP : Nat := 0x8C34
def R.ROLE_CHANGES : Nat := 0x8C38
def R.DIGEST_MISM_INFO : Nat := 0x8C40
def F.DIGEST_MISM_INFO_GROUP : Fld := ⟨R.DIGEST_MISM_INFO, 0, 10⟩
def F.DIGEST_MISM_INFO_VALID : Fld := ⟨R.DIGEST_MISM_INFO, 31, 1⟩
def R.DIGEST_MISM_SCTR : Nat := 0x8C44

/-! R376 (12_pair_and_witness.md) -/
def R.SFAULT_PAIR : Nat := 0x0120
def F.SFAULT_PAIR_YIELDED : Fld := ⟨R.SFAULT_PAIR, 0, 1⟩
def F.SFAULT_PAIR_DIGEST_MISMATCH : Fld := ⟨R.SFAULT_PAIR, 1, 1⟩
def F.SFAULT_PAIR_PEER_LOST : Fld := ⟨R.SFAULT_PAIR, 2, 1⟩
def F.SFAULT_PAIR_PQ_LATE : Fld := ⟨R.SFAULT_PAIR, 3, 1⟩
def F.SFAULT_PAIR_TAG_FAIL : Fld := ⟨R.SFAULT_PAIR, 4, 1⟩
def F.SFAULT_PAIR_WITNESS_LOST : Fld := ⟨R.SFAULT_PAIR, 5, 1⟩
def F.SFAULT_PAIR_DUAL_ACTIVE : Fld := ⟨R.SFAULT_PAIR, 6, 1⟩
def F.SFAULT_PAIR_UNRATIFIED : Fld := ⟨R.SFAULT_PAIR, 7, 1⟩

/-! R405 (13_restrike.md) -/
def R.RS_CFG : Nat := cfgKey 0x48 0x24
def F.RS_CFG_D : Fld := ⟨R.RS_CFG, 0, 3⟩
def F.RS_CFG_BIST_ALL : Fld := ⟨R.RS_CFG, 3, 1⟩
def F.RS_CFG_RETRIES : Fld := ⟨R.RS_CFG, 4, 4⟩
def F.RS_CFG_CURSOR_STEP : Fld := ⟨R.RS_CFG, 8, 7⟩
def F.RS_CFG_SENSE_CHK : Fld := ⟨R.RS_CFG, 16, 8⟩
def F.RS_CFG_AUTO_AFTER_TEST : Fld := ⟨R.RS_CFG, 24, 1⟩

/-! R406 (13_restrike.md) -/
def R.RS_STAT : Nat := 0x8D00
def F.RS_STAT_STATE : Fld := ⟨R.RS_STAT, 0, 3⟩
def F.RS_STAT_PROVEN : Fld := ⟨R.RS_STAT, 3, 1⟩
def F.RS_STAT_FAILS : Fld := ⟨R.RS_STAT, 4, 4⟩
def F.RS_STAT_LAST_ABORT : Fld := ⟨R.RS_STAT, 8, 4⟩
def R.RS_CURSOR : Nat := 0x8D04
def F.RS_CURSOR_NEXT : Fld := ⟨R.RS_CURSOR, 0, 16⟩
def F.RS_CURSOR_GROUPS : Fld := ⟨R.RS_CURSOR, 16, 16⟩
def R.RS_FILL : Nat := 0x8D08
def R.RS_COPY_SCTR : Nat := 0x8D0C
def R.SD_LAST : Nat := 0x8D1C
def R.RS_DONE_CNT : Nat := 0x8D10
def R.RS_ABORT_CNT : Nat := 0x8D14
def R.RS_RETRY_CNT : Nat := 0x8D18
def R.SD_MISM : Nat := 0x8D20
def F.SD_MISM_PRESSES : Fld := ⟨R.SD_MISM, 0, 4⟩
def F.SD_MISM_VALID : Fld := ⟨R.SD_MISM, 31, 1⟩
def R.SELFTEST_STAT : Nat := 0x8D24
def F.SELFTEST_STAT_BIST_RUN : Fld := ⟨R.SELFTEST_STAT, 0, 4⟩
def F.SELFTEST_STAT_BIST_FAIL : Fld := ⟨R.SELFTEST_STAT, 4, 4⟩
def F.SELFTEST_STAT_SENSE_FAIL : Fld := ⟨R.SELFTEST_STAT, 8, 16⟩
def F.SELFTEST_STAT_TEST_RUN : Fld := ⟨R.SELFTEST_STAT, 24, 1⟩

/-! R421 (14_control_processor_mailboxes.md) -/
def R.FN_CTL (i : Nat) : Nat := 0x0400 + 0x8 * i
def F.FN_CTL_ENABLE (i : Nat) : Fld := ⟨(R.FN_CTL i), 0, 1⟩
def F.FN_CTL_BUSY (i : Nat) : Fld := ⟨(R.FN_CTL i), 1, 1⟩
def F.FN_CTL_STATE (i : Nat) : Fld := ⟨(R.FN_CTL i), 2, 2⟩
def F.FN_CTL_REFUSAL (i : Nat) : Fld := ⟨(R.FN_CTL i), 16, 16⟩
def R.FN_STAT (i : Nat) : Nat := 0x0404 + 0x8 * i
def F.FN_STAT_FIELD (i : Nat) : Fld := ⟨(R.FN_STAT i), 0, 16⟩
def F.FN_STAT_PRESENT (i : Nat) : Fld := ⟨(R.FN_STAT i), 16, 1⟩

/-! R431 (14_control_processor_mailboxes.md) -/
def R.SYS_CFG : Nat := cfgKey 0x00 0x0
def F.SYS_CFG_WDT_MS : Fld := ⟨R.SYS_CFG, 0, 5⟩
def F.SYS_CFG_EVT_MIN_SEV : Fld := ⟨R.SYS_CFG, 8, 3⟩
def F.SYS_CFG_EVT_HOLDOFF : Fld := ⟨R.SYS_CFG, 16, 8⟩

/-! R437 (14_control_processor_mailboxes.md) -/
def R.MB_DOORBELL (i : Nat) : Nat := 0x3000 + 0x20 * i
def F.MB_DOORBELL_RING (i : Nat) : Fld := ⟨(R.MB_DOORBELL i), 0, 1⟩
def R.MB_STAT (i : Nat) : Nat := 0x3004 + 0x20 * i
def F.MB_STAT_STATE (i : Nat) : Fld := ⟨(R.MB_STAT i), 0, 2⟩
def F.MB_STAT_HW_ANSWER (i : Nat) : Fld := ⟨(R.MB_STAT i), 2, 1⟩
def F.MB_STAT_RING_DROP (i : Nat) : Fld := ⟨(R.MB_STAT i), 3, 1⟩
def F.MB_STAT_WR_DROP (i : Nat) : Fld := ⟨(R.MB_STAT i), 4, 1⟩
def F.MB_STAT_TAG (i : Nat) : Fld := ⟨(R.MB_STAT i), 16, 16⟩
def R.MB_ACCEPT_SCTR (i : Nat) : Nat := 0x3008 + 0x20 * i
def R.MB_DONE_SCTR (i : Nat) : Nat := 0x300C + 0x20 * i

/-! R438 (14_control_processor_mailboxes.md) -/
def R.CP_STAT : Nat := 0x3100
def F.CP_STAT_CP_STATE : Fld := ⟨R.CP_STAT, 0, 2⟩
def F.CP_STAT_LAST_CAUSE : Fld := ⟨R.CP_STAT, 2, 2⟩
def F.CP_STAT_WDT_RECENT : Fld := ⟨R.CP_STAT, 4, 4⟩
def R.CP_RESTARTS : Nat := 0x3104
def R.EVT_RING_DROP : Nat := 0x3108

/-! R439 (14_control_processor_mailboxes.md) -/
def R.SFAULT_SYS : Nat := 0x0104
def F.SFAULT_SYS_CP_WATCHDOG : Fld := ⟨R.SFAULT_SYS, 0, 1⟩
def F.SFAULT_SYS_CP_HALTED : Fld := ⟨R.SFAULT_SYS, 1, 1⟩
def F.SFAULT_SYS_FN_FAULT : Fld := ⟨R.SFAULT_SYS, 2, 1⟩
def F.SFAULT_SYS_EVT_RING_OVF : Fld := ⟨R.SFAULT_SYS, 3, 1⟩
def F.SFAULT_SYS_MB_PROTOCOL : Fld := ⟨R.SFAULT_SYS, 4, 1⟩

/-! R449 (15_host_link_bus_matrix.md) -/
def R.ID_DEVICE : Nat := 0x0000
def F.ID_DEVICE_PART : Fld := ⟨R.ID_DEVICE, 0, 16⟩
def F.ID_DEVICE_STEPPING : Fld := ⟨R.ID_DEVICE, 16, 8⟩
def F.ID_DEVICE_ORDER : Fld := ⟨R.ID_DEVICE, 24, 4⟩
def R.ID_SERIAL_LO : Nat := 0x0004
def R.ID_SERIAL_HI : Nat := 0x0008

/-! R453 (15_host_link_bus_matrix.md) -/
def R.IRQ_STATUS : Nat := 0x0200
def F.IRQ_STATUS_STATUS : Fld := ⟨R.IRQ_STATUS, 0, 15⟩
def R.IRQ_ENABLE : Nat := 0x0204
def F.IRQ_ENABLE_ENABLE : Fld := ⟨R.IRQ_ENABLE, 0, 15⟩
def R.IRQ_ENABLE_SPI : Nat := 0x0208
def F.IRQ_ENABLE_SPI_ENABLE_SPI : Fld := ⟨R.IRQ_ENABLE_SPI, 0, 15⟩

/-! R469 (15_host_link_bus_matrix.md) -/
def R.SEM (i : Nat) : Nat := 0x3200 + 0x4 * i
def F.SEM_ACQUIRED (i : Nat) : Fld := ⟨(R.SEM i), 0, 1⟩
def F.SEM_HELD (i : Nat) : Fld := ⟨(R.SEM i), 8, 1⟩
def F.SEM_OWNER (i : Nat) : Fld := ⟨(R.SEM i), 9, 2⟩

/-! R470 (15_host_link_bus_matrix.md) -/
def R.HL_CTL : Nat := 0x9000
def F.HL_CTL_EXIMG_HOLD : Fld := ⟨R.HL_CTL, 0, 1⟩
def F.HL_CTL_SPI_EN : Fld := ⟨R.HL_CTL, 1, 1⟩
def F.HL_CTL_SPI_IRQ_GPIO : Fld := ⟨R.HL_CTL, 2, 3⟩
def F.HL_CTL_SPI_IRQ_EN : Fld := ⟨R.HL_CTL, 5, 1⟩
def F.HL_CTL_WAKE_EN : Fld := ⟨R.HL_CTL, 6, 1⟩
def R.HL_STAT : Nat := 0x9004
def F.HL_STAT_LINK_UP : Fld := ⟨R.HL_STAT, 0, 1⟩
def F.HL_STAT_SPEED : Fld := ⟨R.HL_STAT, 1, 2⟩
def F.HL_STAT_WIDTH : Fld := ⟨R.HL_STAT, 3, 2⟩
def F.HL_STAT_BME : Fld := ⟨R.HL_STAT, 5, 1⟩
def F.HL_STAT_D3HOT : Fld := ⟨R.HL_STAT, 6, 1⟩
def F.HL_STAT_MSIX : Fld := ⟨R.HL_STAT, 7, 1⟩
def R.EXIMG_SCTR : Nat := 0x9008
def R.HL_UNMAPPED : Nat := 0x900C
def R.HL_RO_DROP : Nat := 0x9010
def R.HL_PARTIAL_DROP : Nat := 0x9014
def R.HL_AER_CORR : Nat := 0x9018
def R.SPIT_ERR_CNT : Nat := 0x901C
def R.BM_QOS : Nat := 0x9020
def R.BM_AGE : Nat := 0x9024
def F.BM_AGE_CYCLES : Fld := ⟨R.BM_AGE, 0, 12⟩
def R.BM_DECERR : Nat := 0x9028
def F.BM_DECERR_MASTER : Fld := ⟨R.BM_DECERR, 0, 3⟩
def F.BM_DECERR_TARGET : Fld := ⟨R.BM_DECERR, 3, 3⟩
def F.BM_DECERR_VALID : Fld := ⟨R.BM_DECERR, 31, 1⟩

/-! R472 (15_host_link_bus_matrix.md) -/
def R.SFAULT_HOST : Nat := 0x0134
def F.SFAULT_HOST_LINK_DOWN : Fld := ⟨R.SFAULT_HOST, 0, 1⟩
def F.SFAULT_HOST_DMA_ERR : Fld := ⟨R.SFAULT_HOST, 1, 1⟩
def F.SFAULT_HOST_BUF_SHORT : Fld := ⟨R.SFAULT_HOST, 2, 1⟩
def F.SFAULT_HOST_UNMAPPED : Fld := ⟨R.SFAULT_HOST, 3, 1⟩
def F.SFAULT_HOST_BM_DECODE : Fld := ⟨R.SFAULT_HOST, 4, 1⟩
def F.SFAULT_HOST_SPI_FRAME : Fld := ⟨R.SFAULT_HOST, 5, 1⟩
def F.SFAULT_HOST_AER_UNCORR : Fld := ⟨R.SFAULT_HOST, 6, 1⟩

/-! R477 (16_event_recorder.md) -/
def R.SFAULT_SUM : Nat := 0x0100
def F.SFAULT_SUM_UNMASKED : Fld := ⟨R.SFAULT_SUM, 1, 14⟩
def F.SFAULT_SUM_FAULT : Fld := ⟨R.SFAULT_SUM, 15, 1⟩
def F.SFAULT_SUM_RAW : Fld := ⟨R.SFAULT_SUM, 17, 14⟩

/-! R495 (16_event_recorder.md) -/
def R.LOG_CFG : Nat := cfgKey 0x50 0x0
def F.LOG_CFG_MIN_SEV : Fld := ⟨R.LOG_CFG, 0, 3⟩
def F.LOG_CFG_GASP_SEV : Fld := ⟨R.LOG_CFG, 4, 3⟩

/-! R496 (16_event_recorder.md) -/
def R.LOG_STAT : Nat := 0x9400
def F.LOG_STAT_STATE : Fld := ⟨R.LOG_STAT, 0, 2⟩
def F.LOG_STAT_FIFO_FULL : Fld := ⟨R.LOG_STAT, 2, 1⟩
def F.LOG_STAT_FIFO_HWM : Fld := ⟨R.LOG_STAT, 8, 5⟩
def F.LOG_STAT_CAPACITY : Fld := ⟨R.LOG_STAT, 16, 13⟩
def R.LOG_SEQ_NEXT : Nat := 0x9404
def R.LOG_SEQ_OLDEST : Nat := 0x9408
def R.LOG_SEG_MAP (i : Nat) : Nat := 0x9410 + 0x4 * i
def R.LOG_DROP (i : Nat) : Nat := 0x9420 + 0x4 * i
def R.LOG_ECC_CORR : Nat := 0x9440
def R.LOG_MERGES : Nat := 0x9444
def R.LOG_GASP_STAT : Nat := 0x9448
def F.LOG_GASP_STAT_USED : Fld := ⟨R.LOG_GASP_STAT, 0, 4⟩
def F.LOG_GASP_STAT_NEXT : Fld := ⟨R.LOG_GASP_STAT, 4, 3⟩
def F.LOG_GASP_STAT_PINNED : Fld := ⟨R.LOG_GASP_STAT, 7, 1⟩
def F.LOG_GASP_STAT_PIN_SLOT : Fld := ⟨R.LOG_GASP_STAT, 8, 3⟩
def F.LOG_GASP_STAT_WRAPS : Fld := ⟨R.LOG_GASP_STAT, 16, 16⟩

/-! R497 (16_event_recorder.md) -/
def R.SFAULT_LOG : Nat := 0x0124
def F.SFAULT_LOG_LOG_MEM : Fld := ⟨R.SFAULT_LOG, 0, 1⟩
def F.SFAULT_LOG_INTAKE_DROP : Fld := ⟨R.SFAULT_LOG, 1, 1⟩
def F.SFAULT_LOG_FULL_DROP : Fld := ⟨R.SFAULT_LOG, 2, 1⟩
def F.SFAULT_LOG_GASP_WRAP : Fld := ⟨R.SFAULT_LOG, 3, 1⟩

/-! R518 (17_two_wire_buses.md) -/
def R.TWC_CFG (f : Nat) : Nat := cfgKey f 0x0
def F.TWC_CFG_SPEED (f : Nat) : Fld := ⟨(R.TWC_CFG f), 0, 2⟩
def F.TWC_CFG_FALL (f : Nat) : Fld := ⟨(R.TWC_CFG f), 2, 2⟩
def F.TWC_CFG_ATTN (f : Nat) : Fld := ⟨(R.TWC_CFG f), 4, 2⟩
def F.TWC_CFG_RETRY (f : Nat) : Fld := ⟨(R.TWC_CFG f), 6, 2⟩
def F.TWC_CFG_MULTI (f : Nat) : Fld := ⟨(R.TWC_CFG f), 8, 1⟩
def R.TWC_TIMEOUT (f : Nat) : Nat := cfgKey f 0x4
def F.TWC_TIMEOUT_SCL_TO (f : Nat) : Fld := ⟨(R.TWC_TIMEOUT f), 0, 7⟩
def F.TWC_TIMEOUT_SDA_TO (f : Nat) : Fld := ⟨(R.TWC_TIMEOUT f), 16, 7⟩
def R.TWC_CP_ADDR (f : Nat) (i : Nat) : Nat := cfgKey f (0x0008 + 0x4 * i)
def R.TWT_CFG : Nat := cfgKey 0x5A 0x0
def F.TWT_CFG_FALL : Fld := ⟨R.TWT_CFG, 0, 2⟩
def F.TWT_CFG_ALERT_EN : Fld := ⟨R.TWT_CFG, 2, 1⟩

/-! R519 (17_two_wire_buses.md) -/
def R.TWC_STAT (i : Nat) : Nat := 0x9800 + 0x40 * i
def F.TWC_STAT_BUS_BUSY (i : Nat) : Fld := ⟨(R.TWC_STAT i), 0, 1⟩
def F.TWC_STAT_XFER (i : Nat) : Fld := ⟨(R.TWC_STAT i), 1, 1⟩
def F.TWC_STAT_SCL_LOW (i : Nat) : Fld := ⟨(R.TWC_STAT i), 2, 1⟩
def F.TWC_STAT_SDA_LOW (i : Nat) : Fld := ⟨(R.TWC_STAT i), 3, 1⟩
def F.TWC_STAT_ALERT_LOW (i : Nat) : Fld := ⟨(R.TWC_STAT i), 4, 1⟩
def F.TWC_STAT_SDA_STUCK (i : Nat) : Fld := ⟨(R.TWC_STAT i), 5, 1⟩
def F.TWC_STAT_LAST_RESULT (i : Nat) : Fld := ⟨(R.TWC_STAT i), 8, 4⟩
def F.TWC_STAT_ARB_BIT (i : Nat) : Fld := ⟨(R.TWC_STAT i), 12, 4⟩
def F.TWC_STAT_ARB_BYTE (i : Nat) : Fld := ⟨(R.TWC_STAT i), 16, 6⟩
def F.TWC_STAT_QUEUE (i : Nat) : Fld := ⟨(R.TWC_STAT i), 22, 5⟩
def R.TWC_ATTN (i : Nat) : Nat := 0x9804 + 0x40 * i
def F.TWC_ATTN_ADDR (i : Nat) : Fld := ⟨(R.TWC_ATTN i), 0, 7⟩
def F.TWC_ATTN_INBAND (i : Nat) : Fld := ⟨(R.TWC_ATTN i), 7, 1⟩
def F.TWC_ATTN_FIFO (i : Nat) : Fld := ⟨(R.TWC_ATTN i), 8, 4⟩
def F.TWC_ATTN_VALID (i : Nat) : Fld := ⟨(R.TWC_ATTN i), 31, 1⟩
def R.TWC_XFER_CNT (i : Nat) : Nat := 0x9808 + 0x40 * i
def R.TWC_NACK_CNT (i : Nat) : Nat := 0x980C + 0x40 * i
def R.TWC_ARB_CNT (i : Nat) : Nat := 0x9810 + 0x40 * i
def R.TWC_TIMEOUT_CNT (i : Nat) : Nat := 0x9814 + 0x40 * i
def R.TWC_CLEAR_CNT (i : Nat) : Nat := 0x9818 + 0x40 * i
def R.TWC_ATTN_CNT (i : Nat) : Nat := 0x981C + 0x40 * i
def R.TWT_STAT : Nat := 0x9880
def F.TWT_STAT_ADDR : Fld := ⟨R.TWT_STAT, 0, 7⟩
def F.TWT_STAT_ACTIVE : Fld := ⟨R.TWT_STAT, 7, 1⟩
def F.TWT_STAT_ALERT : Fld := ⟨R.TWT_STAT, 8, 1⟩
def R.TWT_RD_CNT : Nat := 0x9884
def R.TWT_NACK_CNT : Nat := 0x9888

/-! R520 (17_two_wire_buses.md) -/
def R.SFAULT_TWO : Nat := 0x0128
def F.SFAULT_TWO_SCL_STUCK : Fld := ⟨R.SFAULT_TWO, 0, 2⟩
def F.SFAULT_TWO_SDA_STUCK : Fld := ⟨R.SFAULT_TWO, 2, 2⟩
def F.SFAULT_TWO_ARB : Fld := ⟨R.SFAULT_TWO, 4, 2⟩
def F.SFAULT_TWO_ALERT_STUCK : Fld := ⟨R.SFAULT_TWO, 6, 2⟩
def F.SFAULT_TWO_PEC_ERR : Fld := ⟨R.SFAULT_TWO, 8, 2⟩
def F.SFAULT_TWO_TWT_HANG : Fld := ⟨R.SFAULT_TWO, 10, 1⟩

/-! R541 (18_power_reset_startup.md) -/
def R.PM_CFG : Nat := cfgKey 0x60 0x0
def F.PM_CFG_AVS_EN : Fld := ⟨R.PM_CFG, 0, 1⟩
def F.PM_CFG_AVS_ADDR : Fld := ⟨R.PM_CFG, 8, 7⟩
def F.PM_CFG_AVS_PAGE : Fld := ⟨R.PM_CFG, 16, 8⟩

/-! R542 (18_power_reset_startup.md) -/
def R.NODE_STAT : Nat := 0x000C
def F.NODE_STAT_STATE : Fld := ⟨R.NODE_STAT, 0, 3⟩
def F.NODE_STAT_FAULT_CAUSE : Fld := ⟨R.NODE_STAT, 3, 3⟩
def F.NODE_STAT_BOOTSEL : Fld := ⟨R.NODE_STAT, 6, 2⟩
def F.NODE_STAT_TEST_EN : Fld := ⟨R.NODE_STAT, 8, 1⟩

/-! R543 (18_power_reset_startup.md) -/
def R.PM_VCORE : Nat := 0x9C00
def F.PM_VCORE_CMD_MV : Fld := ⟨R.PM_VCORE, 0, 10⟩
def F.PM_VCORE_MEAS_MV : Fld := ⟨R.PM_VCORE, 16, 10⟩
def F.PM_VCORE_AVS_ON : Fld := ⟨R.PM_VCORE, 26, 1⟩
def R.PM_RAIL_STAT : Nat := 0x9C04
def F.PM_RAIL_STAT_OUT : Fld := ⟨R.PM_RAIL_STAT, 0, 10⟩
def F.PM_RAIL_STAT_PG : Fld := ⟨R.PM_RAIL_STAT, 16, 6⟩
def F.PM_RAIL_STAT_EN : Fld := ⟨R.PM_RAIL_STAT, 22, 6⟩
def R.PM_TEMP (i : Nat) : Nat := 0x9C10 + 0x4 * i
def F.PM_TEMP_TEMP (i : Nat) : Fld := ⟨(R.PM_TEMP i), 0, 12⟩
def F.PM_TEMP_FAULT (i : Nat) : Fld := ⟨(R.PM_TEMP i), 12, 1⟩
def F.PM_TEMP_GATED (i : Nat) : Fld := ⟨(R.PM_TEMP i), 13, 1⟩
def R.PM_TEMP_MAX : Nat := 0x9C30
def F.PM_TEMP_MAX_TJ : Fld := ⟨R.PM_TEMP_MAX, 0, 12⟩
def F.PM_TEMP_MAX_PEAK : Fld := ⟨R.PM_TEMP_MAX, 16, 12⟩
def R.PM_GATE_STAT : Nat := 0x9C34
def F.PM_GATE_STAT_PRESS : Fld := ⟨R.PM_GATE_STAT, 0, 4⟩
def F.PM_GATE_STAT_ETH : Fld := ⟨R.PM_GATE_STAT, 4, 4⟩
def F.PM_GATE_STAT_SAP : Fld := ⟨R.PM_GATE_STAT, 8, 16⟩
def F.PM_GATE_STAT_PSC : Fld := ⟨R.PM_GATE_STAT, 24, 1⟩
def F.PM_GATE_STAT_ANA : Fld := ⟨R.PM_GATE_STAT, 25, 1⟩
def R.PM_RESET_CAUSE : Nat := 0x9C38
def F.PM_RESET_CAUSE_CAUSE : Fld := ⟨R.PM_RESET_CAUSE, 0, 3⟩
def R.PM_WAKE_SRC : Nat := 0x9C3C
def F.PM_WAKE_SRC_SOURCE : Fld := ⟨R.PM_WAKE_SRC, 0, 4⟩
def R.BOOT_STAT : Nat := 0x9C40
def F.BOOT_STAT_PHASE : Fld := ⟨R.BOOT_STAT, 0, 3⟩
def F.BOOT_STAT_ERROR : Fld := ⟨R.BOOT_STAT, 3, 1⟩
def F.BOOT_STAT_COPY_B : Fld := ⟨R.BOOT_STAT, 4, 1⟩
def R.BOOT_CTL : Nat := 0x9C44
def F.BOOT_CTL_GO : Fld := ⟨R.BOOT_CTL, 0, 1⟩
def R.BOOT_LEN : Nat := 0x9C48
def F.BOOT_LEN_LEN : Fld := ⟨R.BOOT_LEN, 0, 21⟩
def R.AVS_WRITES : Nat := 0x9C50
def R.AVS_FAIL_CNT : Nat := 0x9C54
def R.RAIL_WINDOW_CNT : Nat := 0x9C58

/-! R544 (18_power_reset_startup.md) -/
def R.SFAULT_PWR : Nat := 0x012C
def F.SFAULT_PWR_THERM_WARN : Fld := ⟨R.SFAULT_PWR, 0, 1⟩
def F.SFAULT_PWR_THERM_HOT : Fld := ⟨R.SFAULT_PWR, 1, 1⟩
def F.SFAULT_PWR_SENSOR : Fld := ⟨R.SFAULT_PWR, 2, 1⟩
def F.SFAULT_PWR_RAIL_WINDOW : Fld := ⟨R.SFAULT_PWR, 3, 1⟩
def F.SFAULT_PWR_AVS_FAIL : Fld := ⟨R.SFAULT_PWR, 4, 1⟩

/-! R561 (19_identity_firmware.md) -/
def R.SEC_CFG : Nat := cfgKey 0x68 0x0
def F.SEC_CFG_COMMIT_AUTO : Fld := ⟨R.SEC_CFG, 0, 1⟩

/-! R562 (19_identity_firmware.md) -/
def R.SEC_STAT : Nat := 0xA000
def F.SEC_STAT_ROLLBACK : Fld := ⟨R.SEC_STAT, 0, 6⟩
def F.SEC_STAT_RUN_SLOT : Fld := ⟨R.SEC_STAT, 6, 2⟩
def F.SEC_STAT_SLOT_A : Fld := ⟨R.SEC_STAT, 8, 2⟩
def F.SEC_STAT_SLOT_B : Fld := ⟨R.SEC_STAT, 10, 2⟩
def F.SEC_STAT_VENDOR_OFF : Fld := ⟨R.SEC_STAT, 12, 1⟩
def F.SEC_STAT_DEBUG : Fld := ⟨R.SEC_STAT, 13, 2⟩
def F.SEC_STAT_DBG_FAILS : Fld := ⟨R.SEC_STAT, 15, 5⟩
def R.FW_STAT : Nat := 0xA004
def F.FW_STAT_STATE : Fld := ⟨R.FW_STAT, 0, 3⟩
def F.FW_STAT_HOLD : Fld := ⟨R.FW_STAT, 3, 1⟩
def R.FW_RUN_VERSION : Nat := 0xA008
def R.FW_RUN_BUILD : Nat := 0xA00C
def R.FW_STAGED_VERSION : Nat := 0xA010
def R.FW_MEASURE (i : Nat) : Nat := 0xA020 + 0x4 * i

/-! R563 (19_identity_firmware.md) -/
def R.SFAULT_SEC : Nat := 0x0130
def F.SFAULT_SEC_FW_FAIL : Fld := ⟨R.SFAULT_SEC, 0, 1⟩
def F.SFAULT_SEC_DEBUG_OPEN : Fld := ⟨R.SFAULT_SEC, 1, 1⟩
def F.SFAULT_SEC_DEBUG_FAIL : Fld := ⟨R.SFAULT_SEC, 2, 1⟩
def F.SFAULT_SEC_SESSION_FAIL : Fld := ⟨R.SFAULT_SEC, 3, 1⟩

/-! R249, R453, R471, R478: register groups without a table of their own. -/
def R.ETH_CNT (n k : Nat) : Nat := 0x5840 + 0x100 * n + 4 * k
def R.SFAULT (c : Nat) : Nat := 0x0100 + 4 * c
def R.SFAULT_MASK (c : Nat) : Nat := 0x0180 + 4 * c
def R.RING_BASE_LO (r : Nat) : Nat := 0x9080 + 0x20 * r
def R.RING_BASE_HI (r : Nat) : Nat := 0x9084 + 0x20 * r
def R.RING_SIZE (r : Nat) : Nat := 0x9088 + 0x20 * r
def R.RING_HEAD (r : Nat) : Nat := 0x908C + 0x20 * r
def R.RING_TAIL (r : Nat) : Nat := 0x9090 + 0x20 * r
def R.RING_CTL (r : Nat) : Nat := 0x9094 + 0x20 * r
def F.RING_CTL_EN (r : Nat) : Fld := ⟨R.RING_CTL r, 0, 1⟩
def F.RING_CTL_HEAD_ERR (r : Nat) : Fld := ⟨R.RING_CTL r, 1, 1⟩
def F.RING_CTL_ERR (r : Nat) : Fld := ⟨R.RING_CTL r, 2, 3⟩
def F.RING_CTL_REFUSAL (r : Nat) : Fld := ⟨R.RING_CTL r, 16, 16⟩
def R.RING_WB_LO (r : Nat) : Nat := 0x9098 + 0x20 * r
def R.RING_WB_HI (r : Nat) : Nat := 0x909C + 0x20 * r
def R.MSIX_TABLE (i : Nat) : Nat := 0x9200 + 4 * i
def R.MSIX_PBA (i : Nat) : Nat := 0x9180 + 4 * i

/-- One row of the access table: `count` registers from `base` at steps of `stride`; which bits a host may write (RW),
which bits a written 1 clears (W1C) and which bits a read clears (RC), R9. All other bits are RO, WO or reserved. -/
structure RegRow where
  base : Nat
  stride : Nat
  count : Nat
  rw : Word
  w1c : Word
  rc : Word
  deriving DecidableEq, Repr

/-- Access rows, part 1 of 6. -/
def regTable1 : List RegRow := [
  ⟨0x0000, 0x4, 1, 0x00000000, 0x00000000, 0x00000000⟩,  -- ID_DEVICE
  ⟨0x0004, 0x4, 1, 0x00000000, 0x00000000, 0x00000000⟩,  -- ID_SERIAL_LO
  ⟨0x0008, 0x4, 1, 0x00000000, 0x00000000, 0x00000000⟩,  -- ID_SERIAL_HI
  ⟨0x000C, 0x4, 1, 0x00000000, 0x00000000, 0x00000000⟩,  -- NODE_STAT
  ⟨0x0100, 0x4, 1, 0x00000000, 0x00000000, 0x00000000⟩,  -- SFAULT_SUM
  ⟨0x0104, 0x4, 1, 0x00000000, 0x0000001F, 0x00000000⟩,  -- SFAULT_SYS
  ⟨0x0108, 0x4, 1, 0x00000000, 0x000FFFFF, 0x00000000⟩,  -- SFAULT_NET
  ⟨0x010C, 0x4, 1, 0x00000000, 0x0000003F, 0x00000000⟩,  -- SFAULT_FLOW
  ⟨0x0110, 0x4, 1, 0x00000000, 0xFFFFFFFF, 0x00000000⟩,  -- SFAULT_SAP
  ⟨0x0114, 0x4, 1, 0x00000000, 0x0000001F, 0x00000000⟩,  -- SFAULT_CLK
  ⟨0x0118, 0x4, 1, 0x00000000, 0x00001FFF, 0x00000000⟩,  -- SFAULT_ENG
  ⟨0x011C, 0x4, 1, 0x00000000, 0x001FFFFF, 0x00000000⟩,  -- SFAULT_PSC
  ⟨0x0120, 0x4, 1, 0x00000000, 0x000000FF, 0x00000000⟩,  -- SFAULT_PAIR
  ⟨0x0124, 0x4, 1, 0x00000000, 0x0000000F, 0x00000000⟩,  -- SFAULT_LOG
  ⟨0x0128, 0x4, 1, 0x00000000, 0x000007FF, 0x00000000⟩,  -- SFAULT_TWO
  ⟨0x012C, 0x4, 1, 0x00000000, 0x0000001F, 0x00000000⟩,  -- SFAULT_PWR
  ⟨0x0130, 0x4, 1, 0x00000000, 0x0000000F, 0x00000000⟩,  -- SFAULT_SEC
  ⟨0x0134, 0x4, 1, 0x00000000, 0x0000007F, 0x00000000⟩,  -- SFAULT_HOST
  ⟨0x0138, 0x4, 1, 0x00000000, 0x0000001F, 0x00000000⟩,  -- SFAULT_CONV
  ⟨0x0184, 0x4, 1, 0x0000001F, 0x00000000, 0x00000000⟩,  -- SFAULT_MASK[1] (R478)
  ⟨0x0188, 0x4, 1, 0x000FFFFF, 0x00000000, 0x00000000⟩,  -- SFAULT_MASK[2] (R478)
  ⟨0x018C, 0x4, 1, 0x0000003F, 0x00000000, 0x00000000⟩,  -- SFAULT_MASK[3] (R478)
  ⟨0x0190, 0x4, 1, 0xFFFFFFFF, 0x00000000, 0x00000000⟩,  -- SFAULT_MASK[4] (R478)
  ⟨0x0194, 0x4, 1, 0x0000001F, 0x00000000, 0x00000000⟩,  -- SFAULT_MASK[5] (R478)
  ⟨0x0198, 0x4, 1, 0x00001FFF, 0x00000000, 0x00000000⟩,  -- SFAULT_MASK[6] (R478)
  ⟨0x019C, 0x4, 1, 0x001FFFFF, 0x00000000, 0x00000000⟩,  -- SFAULT_MASK[7] (R478)
  ⟨0x01A0, 0x4, 1, 0x000000FF, 0x00000000, 0x00000000⟩,  -- SFAULT_MASK[8] (R478)
  ⟨0x01A4, 0x4, 1, 0x0000000E, 0x00000000, 0x00000000⟩,  -- SFAULT_MASK[9] (R478)
  ⟨0x01A8, 0x4, 1, 0x000007FF, 0x00000000, 0x00000000⟩,  -- SFAULT_MASK[10] (R478)
  ⟨0x01AC, 0x4, 1, 0x0000001F, 0x00000000, 0x00000000⟩,  -- SFAULT_MASK[11] (R478)
  ⟨0x01B0, 0x4, 1, 0x0000000F, 0x00000000, 0x00000000⟩,  -- SFAULT_MASK[12] (R478)
  ⟨0x01B4, 0x4, 1, 0x0000007F, 0x00000000, 0x00000000⟩,  -- SFAULT_MASK[13] (R478)
  ⟨0x01B8, 0x4, 1, 0x0000001F, 0x00000000, 0x00000000⟩,  -- SFAULT_MASK[14] (R478)
  ⟨0x0200, 0x4, 1, 0x00000000, 0x00007FFF, 0x00000000⟩,  -- IRQ_STATUS
  ⟨0x0204, 0x4, 1, 0x00007FFF, 0x00000000, 0x00000000⟩,  -- IRQ_ENABLE
  ⟨0x0208, 0x4, 1, 0x00007FFF, 0x00000000, 0x00000000⟩,  -- IRQ_ENABLE_SPI
  ⟨0x0400, 0x8, 256, 0x00000000, 0x00000000, 0x00000000⟩,  -- FN_CTL
  ⟨0x0404, 0x8, 256, 0x00000000, 0x00000000, 0x00000000⟩,  -- FN_STAT
  ⟨0x3000, 0x20, 8, 0x00000000, 0x00000000, 0x00000000⟩,  -- MB_DOORBELL
  ⟨0x3004, 0x20, 8, 0x00000000, 0x00000018, 0x00000000⟩  -- MB_STAT
]

/-- Access rows, part 2 of 6. -/
def regTable2 : List RegRow := [
  ⟨0x3008, 0x20, 8, 0x00000000, 0x00000000, 0x00000000⟩,  -- MB_ACCEPT_SCTR
  ⟨0x300C, 0x20, 8, 0x00000000, 0x00000000, 0x00000000⟩,  -- MB_DONE_SCTR
  ⟨0x3100, 0x4, 1, 0x00000000, 0x00000000, 0x00000000⟩,  -- CP_STAT
  ⟨0x3104, 0x4, 1, 0x00000000, 0x00000000, 0x00000000⟩,  -- CP_RESTARTS
  ⟨0x3108, 0x4, 1, 0x00000000, 0x00000000, 0xFFFFFFFF⟩,  -- EVT_RING_DROP
  ⟨0x3200, 0x4, 32, 0x00000000, 0x00000000, 0x00000000⟩,  -- SEM
  ⟨0x4000, 0x4, 1, 0x00000000, 0x00000000, 0x00000000⟩,  -- SCTR_LO
  ⟨0x4004, 0x4, 1, 0x00000000, 0x00000000, 0x00000000⟩,  -- SCTR_HI
  ⟨0x4008, 0x4, 1, 0x00000000, 0x00000000, 0x00000000⟩,  -- SCTR_FRAC
  ⟨0x400C, 0x4, 1, 0x00000000, 0x00000000, 0x00000000⟩,  -- TAI_SEC_LO
  ⟨0x4010, 0x4, 1, 0x00000000, 0x00000000, 0x00000000⟩,  -- TAI_SEC_HI
  ⟨0x4014, 0x4, 1, 0x00000000, 0x00000000, 0x00000000⟩,  -- TAI_NS
  ⟨0x4018, 0x4, 1, 0x00000000, 0x00000000, 0x00000000⟩,  -- TIME_STAT
  ⟨0x401C, 0x4, 1, 0x00000000, 0x00000000, 0x00000000⟩,  -- DPLL_STAT
  ⟨0x4020, 0x4, 1, 0x00000000, 0x00000000, 0x00000000⟩,  -- PHASE_ERR
  ⟨0x4024, 0x4, 1, 0x00000000, 0x00000000, 0x00000000⟩,  -- FREQ_OFS
  ⟨0x4028, 0x4, 1, 0x00000000, 0x00000000, 0x00000000⟩,  -- REF_STATE
  ⟨0x402C, 0x4, 1, 0x00000000, 0x00000000, 0x00000000⟩,  -- SLEW_REMAIN
  ⟨0x4030, 0x4, 8, 0x00000000, 0x00000000, 0x00000000⟩,  -- REF_OFS
  ⟨0x4080, 0x4, 1, 0x00000003, 0x00000000, 0x00000000⟩,  -- DW_CTL
  ⟨0x4084, 0x4, 1, 0x00000000, 0x00000000, 0xFFFFFFFF⟩,  -- DW_APPLIED
  ⟨0x4088, 0x4, 1, 0x00000000, 0x00000000, 0xFFFFFFFF⟩,  -- DW_STBY_DROP
  ⟨0x408C, 0x4, 1, 0x00000000, 0x00000000, 0xFFFFFFFF⟩,  -- DW_EDGE_DROP
  ⟨0x4090, 0x4, 1, 0x00000000, 0x00000000, 0xFFFFFFFF⟩,  -- DW_LOCK_DROP
  ⟨0x4094, 0x4, 1, 0x00000000, 0x00000000, 0x00000000⟩,  -- DW_LAST_SCTR
  ⟨0x5000, 0x40, 4, 0x00000000, 0x00000000, 0x00000000⟩,  -- PRESS_STAT
  ⟨0x5004, 0x40, 4, 0x00000000, 0xFFFFFFFF, 0x00000000⟩,  -- FLAG_NAN
  ⟨0x5008, 0x40, 4, 0x00000000, 0xFFFFFFFF, 0x00000000⟩,  -- FLAG_INF
  ⟨0x500C, 0x40, 4, 0x00000000, 0xFFFFFFFF, 0x00000000⟩,  -- FLAG_OVF
  ⟨0x5010, 0x40, 4, 0x00000000, 0xFFFFFFFF, 0x00000000⟩,  -- FLAG_TLOST
  ⟨0x5014, 0x40, 4, 0x00000000, 0x00000000, 0x00000000⟩,  -- MISM_INFO
  ⟨0x5018, 0x40, 4, 0x00000000, 0x00000000, 0x00000000⟩,  -- MISM_SCTR
  ⟨0x501C, 0x40, 4, 0x00000000, 0x00000000, 0xFFFFFFFF⟩,  -- MISM_CNT
  ⟨0x5020, 0x40, 4, 0x00000000, 0x00000000, 0xFFFFFFFF⟩,  -- ECC_CORR_CNT
  ⟨0x5024, 0x40, 4, 0x00000000, 0x00000000, 0x00000000⟩,  -- ECC_UNC_INFO
  ⟨0x5028, 0x40, 4, 0x00000000, 0x00000000, 0x00000000⟩,  -- SCRUB_PASS
  ⟨0x5100, 0x4, 1, 0x00000001, 0x00000000, 0x00000000⟩,  -- PRESS_CTL
  ⟨0x5200, 0x4, 1, 0x00000000, 0x00000000, 0x00000000⟩,  -- ENG_BANK_STAT
  ⟨0x5204, 0x4, 2, 0x00000000, 0x00000000, 0x00000000⟩,  -- PLATE_HASH
  ⟨0x520C, 0x8, 2, 0x00000000, 0x00000000, 0x00000000⟩  -- PLATE_ID_LO
]

/-- Access rows, part 3 of 6. -/
def regTable3 : List RegRow := [
  ⟨0x5210, 0x8, 2, 0x00000000, 0x00000000, 0x00000000⟩,  -- PLATE_ID_HI
  ⟨0x521C, 0x4, 1, 0x00000000, 0x00000000, 0xFFFFFFFF⟩,  -- RAW_IDLE_DROP
  ⟨0x5220, 0x4, 1, 0x00000000, 0x00000000, 0x00000000⟩,  -- SWAP_STAT
  ⟨0x5224, 0x4, 1, 0x00000000, 0x00000000, 0x00000000⟩,  -- SWAP_SCTR_LO
  ⟨0x5228, 0x4, 1, 0x00000000, 0x00000000, 0x00000000⟩,  -- SWAP_SCTR_HI
  ⟨0x522C, 0x4, 1, 0x00000000, 0x00000000, 0x00000000⟩,  -- XFADE_POS
  ⟨0x5230, 0x4, 1, 0x00000000, 0x00000000, 0x00000000⟩,  -- RAMP_STAT
  ⟨0x5234, 0x4, 1, 0x00000000, 0x00000000, 0xFFFFFFFF⟩,  -- RAMP_OVERRIDE
  ⟨0x5238, 0x4, 1, 0x00000000, 0x00000000, 0x00000000⟩,  -- ATOMIC_PEND
  ⟨0x5400, 0x4, 16, 0x00000000, 0x00000000, 0x00000000⟩,  -- CONV_TRK
  ⟨0x5440, 0x4, 16, 0x00000000, 0x00000000, 0x00000000⟩,  -- CONV_RATIO
  ⟨0x5480, 0x4, 1, 0x00000000, 0x00000000, 0xFFFFFFFF⟩,  -- TAP_UNDERRUN_CNT
  ⟨0x5484, 0x4, 1, 0x00000000, 0x00000000, 0xFFFFFFFF⟩,  -- TAP_LATE_CNT
  ⟨0x5488, 0x4, 1, 0x00000000, 0x00000000, 0xFFFFFFFF⟩,  -- TAP_CAPDROP_CNT
  ⟨0x548C, 0x4, 1, 0x00000000, 0x00000000, 0xFFFFFFFF⟩,  -- METER_DROP_CNT
  ⟨0x5490, 0x4, 1, 0x00000000, 0x00000000, 0x00000000⟩,  -- METER_SEQ
  ⟨0x5800, 0x100, 4, 0x00000000, 0x00000000, 0x00000000⟩,  -- ETH_STAT
  ⟨0x5804, 0x100, 4, 0x00000000, 0x00000000, 0x00000000⟩,  -- ETH_PAUSE_REM
  ⟨0x5808, 0x100, 4, 0x00000000, 0x00000000, 0x00000000⟩,  -- ETH_ADDR_LO
  ⟨0x580C, 0x100, 4, 0x00000000, 0x00000000, 0x00000000⟩,  -- ETH_ADDR_HI
  ⟨0x5840, 0x4, 48, 0x00000000, 0x00000000, 0xFFFFFFFF⟩,  -- counters of ETH0 (R249)
  ⟨0x5940, 0x4, 48, 0x00000000, 0x00000000, 0xFFFFFFFF⟩,  -- counters of ETH1 (R249)
  ⟨0x5A40, 0x4, 48, 0x00000000, 0x00000000, 0xFFFFFFFF⟩,  -- counters of ETH2 (R249)
  ⟨0x5810, 0x100, 3, 0x00000000, 0x00000000, 0x00000000⟩,  -- the offset of ETH_WAKE_SRC on ports 0 to 2 (R253)
  ⟨0x5B10, 0x4, 1, 0x00000000, 0x000001FF, 0x00000000⟩,  -- ETH_WAKE_SRC
  ⟨0x5B40, 0x4, 48, 0x00000000, 0x00000000, 0xFFFFFFFF⟩,  -- counters of ETH3 (R249)
  ⟨0x5C00, 0x4, 1, 0x00000000, 0x00000000, 0x00000000⟩,  -- POOL_STAT
  ⟨0x5C04, 0x4, 1, 0x00000000, 0x00000000, 0x00000000⟩,  -- TXF_COUNT
  ⟨0x6000, 0x8, 512, 0x00000000, 0x00000000, 0x00000000⟩,  -- RXF_STAT
  ⟨0x6004, 0x8, 512, 0x00000000, 0x00000000, 0xFFFFFFFF⟩,  -- RXF_MISS
  ⟨0x7000, 0x8, 512, 0x00000000, 0x00000000, 0x00000000⟩,  -- TXF_STAT
  ⟨0x7004, 0x8, 512, 0x00000000, 0x00000000, 0xFFFFFFFF⟩,  -- TXF_HELD_DROP
  ⟨0x8000, 0x40, 16, 0x00000000, 0x00000000, 0x00000000⟩,  -- SAP_STAT
  ⟨0x8004, 0x40, 16, 0x00000000, 0x00000000, 0x00000000⟩,  -- SAP_STAMP_LO
  ⟨0x8008, 0x40, 16, 0x00000000, 0x00000000, 0x00000000⟩,  -- SAP_STAMP_HI
  ⟨0x800C, 0x40, 16, 0x00000000, 0x00000000, 0x00000000⟩,  -- SAP_STAMP_FRAC
  ⟨0x8010, 0x40, 16, 0xFFFFFFFF, 0x00000000, 0x00000000⟩,  -- SAP_MASK_RX
  ⟨0x8014, 0x40, 16, 0xFFFFFFFF, 0x00000000, 0x00000000⟩,  -- SAP_MASK_TX
  ⟨0x8018, 0x40, 16, 0x00000000, 0x00000000, 0xFFFFFFFF⟩,  -- SLIP_DROP
  ⟨0x801C, 0x40, 16, 0x00000000, 0x00000000, 0xFFFFFFFF⟩,  -- SLIP_REPEAT
  ⟨0x8020, 0x40, 16, 0x00000000, 0x00000000, 0xFFFFFFFF⟩  -- SAP_ALIGN_CNT
]

/-- Access rows, part 4 of 6. -/
def regTable4 : List RegRow := [
  ⟨0x8024, 0x40, 16, 0x00000000, 0x00000000, 0xFFFFFFFF⟩,  -- SAP_FAULT_CNT
  ⟨0x8028, 0x40, 16, 0x00000000, 0x00000000, 0xFFFFFFFF⟩,  -- SAP_MASK_DROP
  ⟨0x8400, 0x40, 16, 0x00000000, 0x00000000, 0x00000000⟩,  -- PSC_STAT
  ⟨0x8404, 0x40, 16, 0x00000000, 0x00000000, 0x00000000⟩,  -- PSC_DIAG_Z
  ⟨0x8408, 0x40, 16, 0x00000000, 0x00000000, 0xFFFFFFFF⟩,  -- PSC_LIMIT_CNT
  ⟨0x840C, 0x40, 16, 0x00000000, 0x00000000, 0xFFFFFFFF⟩,  -- PSC_SHUT_CNT
  ⟨0x8410, 0x40, 16, 0x00000000, 0x00000000, 0xFFFFFFFF⟩,  -- PSC_CLIP_CNT
  ⟨0x8414, 0x40, 16, 0x00000000, 0x00000000, 0x00000000⟩,  -- PSC_CAL_V_GAIN
  ⟨0x8418, 0x40, 16, 0x00000000, 0x00000000, 0x00000000⟩,  -- PSC_CAL_V_OFS
  ⟨0x841C, 0x40, 16, 0x00000000, 0x00000000, 0x00000000⟩,  -- PSC_CAL_I_GAIN
  ⟨0x8420, 0x40, 16, 0x00000000, 0x00000000, 0x00000000⟩,  -- PSC_CAL_I_OFS
  ⟨0x8424, 0x40, 16, 0x00000000, 0x00000000, 0x00000000⟩,  -- PSC_LOOP_TRIM
  ⟨0x8800, 0x4, 1, 0x00000000, 0x00000000, 0x00000000⟩,  -- PVDD_STAT
  ⟨0x8C00, 0x4, 1, 0x00000000, 0x00000000, 0x00000000⟩,  -- PAIR_STAT
  ⟨0x8C04, 0x4, 1, 0x00000000, 0x00000000, 0x00000000⟩,  -- PAIR_AGREE
  ⟨0x8C08, 0x4, 1, 0x00000000, 0x00000000, 0x00000000⟩,  -- PAIR_TOFS
  ⟨0x8C0C, 0x4, 1, 0x00000000, 0x00000000, 0x00000000⟩,  -- PAIR_CHANGE_SCTR_LO
  ⟨0x8C10, 0x4, 1, 0x00000000, 0x00000000, 0x00000000⟩,  -- PAIR_CHANGE_SCTR_HI
  ⟨0x8C20, 0x4, 1, 0x00000000, 0x00000000, 0xFFFFFFFF⟩,  -- HB_MISSED
  ⟨0x8C24, 0x4, 1, 0x00000000, 0x00000000, 0xFFFFFFFF⟩,  -- DIGEST_MISMATCH
  ⟨0x8C28, 0x4, 1, 0x00000000, 0x00000000, 0xFFFFFFFF⟩,  -- DIGEST_MISSING
  ⟨0x8C2C, 0x4, 1, 0x00000000, 0x00000000, 0xFFFFFFFF⟩,  -- PQ_LATE
  ⟨0x8C30, 0x4, 1, 0x00000000, 0x00000000, 0xFFFFFFFF⟩,  -- PAIR_TAG_FAIL
  ⟨0x8C34, 0x4, 1, 0x00000000, 0x00000000, 0xFFFFFFFF⟩,  -- OMZOR_DROP
  ⟨0x8C38, 0x4, 1, 0x00000000, 0x00000000, 0xFFFFFFFF⟩,  -- ROLE_CHANGES
  ⟨0x8C40, 0x4, 1, 0x00000000, 0x00000000, 0x00000000⟩,  -- DIGEST_MISM_INFO
  ⟨0x8C44, 0x4, 1, 0x00000000, 0x00000000, 0x00000000⟩,  -- DIGEST_MISM_SCTR
  ⟨0x8D00, 0x4, 1, 0x00000000, 0x00000000, 0x00000000⟩,  -- RS_STAT
  ⟨0x8D04, 0x4, 1, 0x00000000, 0x00000000, 0x00000000⟩,  -- RS_CURSOR
  ⟨0x8D08, 0x4, 1, 0x00000000, 0x00000000, 0x00000000⟩,  -- RS_FILL
  ⟨0x8D0C, 0x4, 1, 0x00000000, 0x00000000, 0x00000000⟩,  -- RS_COPY_SCTR
  ⟨0x8D10, 0x4, 1, 0x00000000, 0x00000000, 0xFFFFFFFF⟩,  -- RS_DONE_CNT
  ⟨0x8D14, 0x4, 1, 0x00000000, 0x00000000, 0xFFFFFFFF⟩,  -- RS_ABORT_CNT
  ⟨0x8D18, 0x4, 1, 0x00000000, 0x00000000, 0xFFFFFFFF⟩,  -- RS_RETRY_CNT
  ⟨0x8D1C, 0x4, 1, 0x00000000, 0x00000000, 0x00000000⟩,  -- SD_LAST
  ⟨0x8D20, 0x4, 1, 0x00000000, 0x00000000, 0x00000000⟩,  -- SD_MISM
  ⟨0x8D24, 0x4, 1, 0x00000000, 0x000000F0, 0x00000000⟩,  -- SELFTEST_STAT
  ⟨0x9000, 0x4, 1, 0x0000007F, 0x00000000, 0x00000000⟩,  -- HL_CTL
  ⟨0x9004, 0x4, 1, 0x00000000, 0x00000000, 0x00000000⟩,  -- HL_STAT
  ⟨0x9008, 0x4, 1, 0x00000000, 0x00000000, 0x00000000⟩  -- EXIMG_SCTR
]

/-- Access rows, part 5 of 6. -/
def regTable5 : List RegRow := [
  ⟨0x900C, 0x4, 1, 0x00000000, 0x00000000, 0xFFFFFFFF⟩,  -- HL_UNMAPPED
  ⟨0x9010, 0x4, 1, 0x00000000, 0x00000000, 0xFFFFFFFF⟩,  -- HL_RO_DROP
  ⟨0x9014, 0x4, 1, 0x00000000, 0x00000000, 0xFFFFFFFF⟩,  -- HL_PARTIAL_DROP
  ⟨0x9018, 0x4, 1, 0x00000000, 0x00000000, 0xFFFFFFFF⟩,  -- HL_AER_CORR
  ⟨0x901C, 0x4, 1, 0x00000000, 0x00000000, 0xFFFFFFFF⟩,  -- SPIT_ERR_CNT
  ⟨0x9020, 0x4, 1, 0xFFFFFFFF, 0x00000000, 0x00000000⟩,  -- BM_QOS
  ⟨0x9024, 0x4, 1, 0x00000FFF, 0x00000000, 0x00000000⟩,  -- BM_AGE
  ⟨0x9028, 0x4, 1, 0x00000000, 0x80000000, 0x00000000⟩,  -- BM_DECERR
  ⟨0x9080, 0x20, 4, 0xFFFFFFFF, 0x00000000, 0x00000000⟩,  -- RING_BASE_LO (R471)
  ⟨0x9084, 0x20, 4, 0xFFFFFFFF, 0x00000000, 0x00000000⟩,  -- RING_BASE_HI (R471)
  ⟨0x9088, 0x20, 4, 0x0001FFFF, 0x00000000, 0x00000000⟩,  -- RING_SIZE (R471)
  ⟨0x908C, 0x20, 4, 0x0001FFFF, 0x00000000, 0x00000000⟩,  -- RING_HEAD (R471)
  ⟨0x9090, 0x20, 4, 0x00000000, 0x00000000, 0x00000000⟩,  -- RING_TAIL (R471)
  ⟨0x9094, 0x20, 4, 0x00000000, 0x00000002, 0x00000000⟩,  -- RING_CTL (R471)
  ⟨0x9098, 0x20, 4, 0xFFFFFFFF, 0x00000000, 0x00000000⟩,  -- RING_WB_LO (R471)
  ⟨0x909C, 0x20, 4, 0xFFFFFFFF, 0x00000000, 0x00000000⟩,  -- RING_WB_HI (R471)
  ⟨0x9180, 0x4, 2, 0x00000000, 0x00000000, 0x00000000⟩,  -- MSI-X pending-bit array (R453)
  ⟨0x9200, 0x4, 128, 0xFFFFFFFF, 0x00000000, 0x00000000⟩,  -- MSI-X table (R453)
  ⟨0x9400, 0x4, 1, 0x00000000, 0x00000000, 0x00000000⟩,  -- LOG_STAT
  ⟨0x9404, 0x4, 1, 0x00000000, 0x00000000, 0x00000000⟩,  -- LOG_SEQ_NEXT
  ⟨0x9408, 0x4, 1, 0x00000000, 0x00000000, 0x00000000⟩,  -- LOG_SEQ_OLDEST
  ⟨0x9410, 0x4, 4, 0x00000000, 0x00000000, 0x00000000⟩,  -- LOG_SEG_MAP
  ⟨0x9420, 0x4, 8, 0x00000000, 0x00000000, 0xFFFFFFFF⟩,  -- LOG_DROP
  ⟨0x9440, 0x4, 1, 0x00000000, 0x00000000, 0xFFFFFFFF⟩,  -- LOG_ECC_CORR
  ⟨0x9444, 0x4, 1, 0x00000000, 0x00000000, 0xFFFFFFFF⟩,  -- LOG_MERGES
  ⟨0x9448, 0x4, 1, 0x00000000, 0x00000000, 0x00000000⟩,  -- LOG_GASP_STAT
  ⟨0x9800, 0x40, 2, 0x00000000, 0x00000000, 0x00000000⟩,  -- TWC_STAT
  ⟨0x9804, 0x40, 2, 0x00000000, 0x00000000, 0x00000000⟩,  -- TWC_ATTN
  ⟨0x9808, 0x40, 2, 0x00000000, 0x00000000, 0xFFFFFFFF⟩,  -- TWC_XFER_CNT
  ⟨0x980C, 0x40, 2, 0x00000000, 0x00000000, 0xFFFFFFFF⟩,  -- TWC_NACK_CNT
  ⟨0x9810, 0x40, 2, 0x00000000, 0x00000000, 0xFFFFFFFF⟩,  -- TWC_ARB_CNT
  ⟨0x9814, 0x40, 2, 0x00000000, 0x00000000, 0xFFFFFFFF⟩,  -- TWC_TIMEOUT_CNT
  ⟨0x9818, 0x40, 2, 0x00000000, 0x00000000, 0xFFFFFFFF⟩,  -- TWC_CLEAR_CNT
  ⟨0x981C, 0x40, 2, 0x00000000, 0x00000000, 0xFFFFFFFF⟩,  -- TWC_ATTN_CNT
  ⟨0x9880, 0x4, 1, 0x00000000, 0x00000000, 0x00000000⟩,  -- TWT_STAT
  ⟨0x9884, 0x4, 1, 0x00000000, 0x00000000, 0xFFFFFFFF⟩,  -- TWT_RD_CNT
  ⟨0x9888, 0x4, 1, 0x00000000, 0x00000000, 0xFFFFFFFF⟩,  -- TWT_NACK_CNT
  ⟨0x9C00, 0x4, 1, 0x00000000, 0x00000000, 0x00000000⟩,  -- PM_VCORE
  ⟨0x9C04, 0x4, 1, 0x00000000, 0x00000000, 0x00000000⟩,  -- PM_RAIL_STAT
  ⟨0x9C10, 0x4, 8, 0x00000000, 0x00000000, 0x00000000⟩  -- PM_TEMP
]

/-- Access rows, part 6 of 6. -/
def regTable6 : List RegRow := [
  ⟨0x9C30, 0x4, 1, 0x00000000, 0x00000000, 0x0FFF0000⟩,  -- PM_TEMP_MAX
  ⟨0x9C34, 0x4, 1, 0x00000000, 0x00000000, 0x00000000⟩,  -- PM_GATE_STAT
  ⟨0x9C38, 0x4, 1, 0x00000000, 0x00000000, 0x00000000⟩,  -- PM_RESET_CAUSE
  ⟨0x9C3C, 0x4, 1, 0x00000000, 0x0000000F, 0x00000000⟩,  -- PM_WAKE_SRC
  ⟨0x9C40, 0x4, 1, 0x00000000, 0x00000000, 0x00000000⟩,  -- BOOT_STAT
  ⟨0x9C44, 0x4, 1, 0x00000000, 0x00000000, 0x00000000⟩,  -- BOOT_CTL
  ⟨0x9C48, 0x4, 1, 0x001FFFFF, 0x00000000, 0x00000000⟩,  -- BOOT_LEN
  ⟨0x9C50, 0x4, 1, 0x00000000, 0x00000000, 0xFFFFFFFF⟩,  -- AVS_WRITES
  ⟨0x9C54, 0x4, 1, 0x00000000, 0x00000000, 0xFFFFFFFF⟩,  -- AVS_FAIL_CNT
  ⟨0x9C58, 0x4, 1, 0x00000000, 0x00000000, 0xFFFFFFFF⟩,  -- RAIL_WINDOW_CNT
  ⟨0xA000, 0x4, 1, 0x00000000, 0x00000000, 0x00000000⟩,  -- SEC_STAT
  ⟨0xA004, 0x4, 1, 0x00000000, 0x00000000, 0x00000000⟩,  -- FW_STAT
  ⟨0xA008, 0x4, 1, 0x00000000, 0x00000000, 0x00000000⟩,  -- FW_RUN_VERSION
  ⟨0xA00C, 0x4, 1, 0x00000000, 0x00000000, 0x00000000⟩,  -- FW_RUN_BUILD
  ⟨0xA010, 0x4, 1, 0x00000000, 0x00000000, 0x00000000⟩,  -- FW_STAGED_VERSION
  ⟨0xA020, 0x4, 8, 0x00000000, 0x00000000, 0x00000000⟩  -- FW_MEASURE
]

/-- The access rows of every BAR0 register. -/
def regTable : List RegRow := regTable1 ++ regTable2 ++ regTable3 ++ regTable4 ++ regTable5 ++ regTable6

/-- Whether an access row holds the register at offset `off`. -/
def RegRow.holds (r : RegRow) (off : Nat) : Bool :=
  decide (r.base ≤ off) && decide ((off - r.base) % r.stride = 0) && decide ((off - r.base) / r.stride < r.count)

/-- The access row of the register at offset `off`; `none` where the offset is reserved (R447). -/
def regAccess (off : Nat) : Option RegRow := regTable.find? (·.holds off)

end Sys2Proof.Machine
end

