-- ==== Sys2Proof/Machine/CfgTable.lean ====
section
/-! DEFINITION. The configuration blocks: which bits of each word are defined (reserved bits are stored as zero, R10,
R426), the reset value of each word, and the length of each function's block (R427), from the chapters' tables. -/

namespace Sys2Proof.Machine

/-- Words of the configuration blocks of functions `lo` to `hi`: `count` words from `base` at steps of `stride`, whose
defined bits are `mask`. -/
structure CfgRow where
  lo : Nat
  hi : Nat
  base : Nat
  stride : Nat
  count : Nat
  mask : Word
  deriving DecidableEq, Repr

/-- Configuration words, part 1 of 2. -/
def cfgRows1 : List CfgRow := [
  ⟨0x00, 0x00, 0x0, 0x4, 1, 0x00FF071F⟩,  -- SYS_CFG
  ⟨0x01, 0x04, 0x0, 0x4, 1, 0x3FFFFFFF⟩,  -- ETH_CFG
  ⟨0x01, 0x04, 0x4, 0x4, 1, 0x00007FFF⟩,  -- ETH_CFG_VLAN
  ⟨0x01, 0x04, 0x8, 0x4, 1, 0xFFFFFFFF⟩,  -- ETH_IP_ADDR
  ⟨0x01, 0x04, 0xC, 0x4, 1, 0xFFFFFFFF⟩,  -- ETH_IP_MASK
  ⟨0x01, 0x04, 0x10, 0x4, 1, 0xFFFFFFFF⟩,  -- ETH_IP_GW
  ⟨0x01, 0x04, 0x14, 0x4, 1, 0xFFFFFFFF⟩,  -- ETH_MAC_LO
  ⟨0x01, 0x04, 0x18, 0x4, 1, 0x0000FFFF⟩,  -- ETH_MAC_HI
  ⟨0x01, 0x04, 0x1C, 0x4, 1, 0x0001FFFF⟩,  -- ETH_POLICE
  ⟨0x01, 0x04, 0x20, 0x4, 1, 0xFFFFFFFF⟩,  -- ETH_TS
  ⟨0x01, 0x04, 0x24, 0x4, 1, 0x0000FFFF⟩,  -- ETH_SERDES
  ⟨0x08, 0x08, 0x0, 0x4, 1, 0x0000000F⟩,  -- RXF_CFG
  ⟨0x09, 0x09, 0x0, 0x4, 1, 0x0000FF3F⟩,  -- TXF_CFG
  ⟨0x10, 0x1F, 0x0, 0x4, 1, 0x0FFFFFFF⟩,  -- SAP_CFG
  ⟨0x10, 0x1F, 0x4, 0x4, 1, 0x3FFF3FFF⟩,  -- SAP_CHAN
  ⟨0x10, 0x1F, 0x8, 0x4, 1, 0x07FF07FF⟩,  -- SAP_TIME
  ⟨0x10, 0x1F, 0xC, 0x4, 1, 0xFFFFFFFF⟩,  -- SAP_START_LO
  ⟨0x10, 0x1F, 0x10, 0x4, 1, 0xFFFFFFFF⟩,  -- SAP_START_HI
  ⟨0x20, 0x20, 0x0, 0x4, 1, 0x001FFF0F⟩,  -- DPLL_CFG
  ⟨0x20, 0x20, 0x4, 0x4, 1, 0x00FFFFFF⟩,  -- MON_CFG
  ⟨0x20, 0x20, 0x8, 0x4, 1, 0x00000FFF⟩,  -- WTR_CFG
  ⟨0x20, 0x20, 0xC, 0x4, 1, 0x00FFFFFF⟩,  -- OUT_CFG
  ⟨0x20, 0x20, 0x10, 0x4, 1, 0x0000001F⟩,  -- FRM_CFG
  ⟨0x20, 0x20, 0x14, 0x4, 1, 0x0000FF0F⟩,  -- MCLK_CFG
  ⟨0x20, 0x20, 0x20, 0x4, 8, 0x0001FFFF⟩,  -- REF_CFG
  ⟨0x21, 0x22, 0x0, 0x4, 1, 0xFFFFFF1F⟩,  -- PTP_CFG0
  ⟨0x21, 0x22, 0x4, 0x4, 1, 0x003F7FFF⟩,  -- PTP_CFG1
  ⟨0x21, 0x22, 0x8, 0x4, 1, 0x0001FFFF⟩,  -- PTP_CFG2
  ⟨0x28, 0x28, 0x0, 0x4, 1, 0x00000003⟩,  -- CONV_CFG
  ⟨0x28, 0x28, 0x10, 0x4, 512, 0x000007FF⟩,  -- CONV_MAP
  ⟨0x29, 0x29, 0x0, 0x4, 64, 0x000003FF⟩,  -- DP_IN
  ⟨0x29, 0x29, 0x100, 0x4, 32, 0x000007FF⟩,  -- DP_OUT
  ⟨0x29, 0x29, 0x180, 0x4, 64, 0xFFFFFFFF⟩,  -- DP_ROUTE
  ⟨0x2A, 0x2A, 0x0, 0x4, 1, 0x01FF01FF⟩,  -- TAP_CFG
  ⟨0x2B, 0x2B, 0x0, 0x4, 1, 0x0000FF01⟩,  -- METER_CFG
  ⟨0x30, 0x3F, 0x0, 0x4, 1, 0x003FFFFF⟩,  -- PSC_CFG
  ⟨0x30, 0x3F, 0x4, 0x4, 1, 0xFFFFFFFF⟩,  -- PSC_GAIN
  ⟨0x30, 0x3F, 0x8, 0x4, 1, 0xFFFFFFFF⟩  -- PSC_CLIP
]

/-- Configuration words, part 2 of 2. -/
def cfgRows2 : List CfgRow := [
  ⟨0x30, 0x3F, 0xC, 0x4, 1, 0xFFFFFFFF⟩,  -- PSC_VSCALE
  ⟨0x30, 0x3F, 0x10, 0x4, 1, 0xFFFFFFFF⟩,  -- PSC_ISCALE
  ⟨0x30, 0x3F, 0x14, 0x4, 1, 0xFFFFFFFF⟩,  -- PSC_PSCALE
  ⟨0x30, 0x3F, 0x18, 0x4, 1, 0x0000FFFF⟩,  -- PSC_PVDD_LIM
  ⟨0x30, 0x3F, 0x1C, 0x4, 1, 0x07FF07FF⟩,  -- PSC_OC
  ⟨0x30, 0x3F, 0x20, 0x4, 1, 0x000007FF⟩,  -- PSC_RETRY
  ⟨0x30, 0x3F, 0x24, 0x4, 1, 0xFFFFFFFF⟩,  -- PSC_DIAG_THR
  ⟨0x30, 0x3F, 0x28, 0x4, 1, 0xFFFFFFFF⟩,  -- PSC_XOVER
  ⟨0x30, 0x3F, 0x30, 0x4, 12, 0xFFFFFFFF⟩,  -- PSC_LOOP
  ⟨0x40, 0x40, 0x0, 0x4, 1, 0x00000007⟩,  -- ENG_CFG
  ⟨0x40, 0x40, 0x4, 0x4, 1, 0xFFFFFFFF⟩,  -- ENG_START_LO
  ⟨0x40, 0x40, 0x8, 0x4, 1, 0xFFFFFFFF⟩,  -- ENG_START_HI
  ⟨0x48, 0x48, 0x0, 0x4, 1, 0x1FFF0007⟩,  -- PAIR_CFG
  ⟨0x48, 0x48, 0x4, 0x4, 1, 0xFFFFFFFF⟩,  -- PAIR_ID
  ⟨0x48, 0x48, 0x8, 0x4, 1, 0xFFFFFFFF⟩,  -- PAIR_PEER_LO
  ⟨0x48, 0x48, 0xC, 0x4, 1, 0x0000FFFF⟩,  -- PAIR_PEER_HI
  ⟨0x48, 0x48, 0x10, 0x4, 1, 0x007F03FF⟩,  -- PAIR_LIMITS
  ⟨0x48, 0x48, 0x14, 0x4, 1, 0xFFFFFFFF⟩,  -- WIT_IP
  ⟨0x48, 0x48, 0x18, 0x4, 1, 0x0000FFFF⟩,  -- WIT_PORT
  ⟨0x48, 0x48, 0x1C, 0x4, 1, 0xFFFFFFFF⟩,  -- WIT_SERIAL_LO
  ⟨0x48, 0x48, 0x20, 0x4, 1, 0xFFFFFFFF⟩,  -- WIT_SERIAL_HI
  ⟨0x48, 0x48, 0x24, 0x4, 1, 0x01FF7FFF⟩,  -- RS_CFG
  ⟨0x49, 0x49, 0x0, 0x4, 1, 0xFFFF003F⟩,  -- WIT_SVC_CFG
  ⟨0x49, 0x49, 0x20, 0x20, 32, 0xFFFFFFFF⟩,  -- WIT_PAIR word 0
  ⟨0x49, 0x49, 0x24, 0x20, 32, 0xFFFFFFFF⟩,  -- WIT_PAIR word 1
  ⟨0x49, 0x49, 0x28, 0x20, 32, 0xFFFFFFFF⟩,  -- WIT_PAIR word 2
  ⟨0x49, 0x49, 0x2C, 0x20, 32, 0xFFFFFFFF⟩,  -- WIT_PAIR word 3
  ⟨0x49, 0x49, 0x30, 0x20, 32, 0xFFFFFFFF⟩,  -- WIT_PAIR word 4
  ⟨0x49, 0x49, 0x34, 0x20, 32, 0xFFFFFFFF⟩,  -- WIT_PAIR word 5
  ⟨0x49, 0x49, 0x38, 0x20, 32, 0xFFFFFFFF⟩,  -- WIT_PAIR word 6
  ⟨0x49, 0x49, 0x3C, 0x20, 32, 0x00000003⟩,  -- WIT_PAIR word 7
  ⟨0x50, 0x50, 0x0, 0x4, 1, 0x00000077⟩,  -- LOG_CFG
  ⟨0x58, 0x59, 0x0, 0x4, 1, 0x000001FF⟩,  -- TWC_CFG
  ⟨0x58, 0x59, 0x4, 0x4, 1, 0x007F007F⟩,  -- TWC_TIMEOUT
  ⟨0x58, 0x59, 0x8, 0x4, 4, 0xFFFFFFFF⟩,  -- TWC_CP_ADDR
  ⟨0x5A, 0x5A, 0x0, 0x4, 1, 0x00000007⟩,  -- TWT_CFG
  ⟨0x60, 0x60, 0x0, 0x4, 1, 0x00FF7F01⟩,  -- PM_CFG
  ⟨0x68, 0x68, 0x0, 0x4, 1, 0x00000001⟩  -- SEC_CFG
]

/-- The defined bits of the word at byte offset `o` of the block of function `f`; no bit of a word that no table
names. -/
def cfgMask (f o : Nat) : Word :=
  match (cfgRows1 ++ cfgRows2).find? (fun r => decide (r.lo ≤ f) && decide (f ≤ r.hi) && decide (r.base ≤ o) &&
      decide ((o - r.base) % r.stride = 0) && decide ((o - r.base) / r.stride < r.count)) with
  | some r => r.mask
  | none => 0

/-- The configuration words of function `f` that are not zero at reset, in ascending order of byte offset. -/
def cfgReset (f : Nat) : List (Nat × Word) :=
  if f = 0x00 then [(0x0, 0x000A0214)]
  else if 0x01 ≤ f ∧ f ≤ 0x04 then [(0x0, 0x05EE0893), (0x1C, 0x00002710), (0x24, 0x00000600)]
  else if f = 0x08 then [(0x0, 0x00000004)]
  else if f = 0x09 then [(0x0, 0x00001022)]
  else if 0x10 ≤ f ∧ f ≤ 0x1F then (0x0, 0x00203410) :: (if f = 0x10 then [] else [(0x4, BitVec.ofNat 32 (0x00100010 * (f - 0x10)))]) ++
    [(0x8, 0x00600040)]
  else if f = 0x20 then [(0x0, 0x00010503), (0x4, 0x00326414), (0x8, 0x0000000A), (0xC, 0x00258012), (0x10, 0x00000001)] ++
    (List.range 8).map (fun i => (0x20 + 4 * i, 0x0000F000))
  else if 0x21 ≤ f ∧ f ≤ 0x22 then [(0x0, 0x80800001), (0x4, 0x002E3DED), (0x8, 0x00010025)]
  else if f = 0x28 then [(0x0, 0x00000001)]
  else if f = 0x29 then []
  else if f = 0x2A then []
  else if f = 0x2B then [(0x0, 0x00000401)]
  else if 0x30 ≤ f ∧ f ≤ 0x3F then [(0x0, 0x0014320D), (0x4, 0x42480000), (0x8, 0x3F800000), (0xC, 0x43160000), (0x10, 0x43480000), (0x14, 0x43480000), (0x18, 0x00009618), (0x1C, 0x00200100), (0x20, 0x000000FA), (0x24, 0x000F07D0), (0x28, 0x469C4000), (0x58, 0x3F800000)]
  else if f = 0x40 then [(0x0, 0x00000004)]
  else if f = 0x48 then [(0x0, 0x03E80000), (0x10, 0x00140064), (0x18, 0x0000C15C), (0x24, 0x010A1832)]
  else if f = 0x49 then [(0x0, 0xC15C0000)] ++ (List.range 32).map (fun k => (0x3C + 0x20 * k, 2))
  else if f = 0x50 then [(0x0, 0x00000060)]
  else if 0x58 ≤ f ∧ f ≤ 0x59 then [(0x0, 0x00000009), (0x4, 0x00190019)] ++ (if f = 0x58 then [(0x10, 0x00030000)] else [])
  else if f = 0x5A then [(0x0, 0x00000002)]
  else if f = 0x60 then [(0x0, 0x00FF4000)]
  else if f = 0x68 then []
  else []

/-- The length in bytes of the configuration block of function `f` (R427): up to the last word its table names. -/
def cfgLen (f : Nat) : Nat :=
  if f = 0x00 then 0x4
  else if 0x01 ≤ f ∧ f ≤ 0x04 then 0x28
  else if f = 0x08 then 0x4
  else if f = 0x09 then 0x4
  else if 0x10 ≤ f ∧ f ≤ 0x1F then 0x14
  else if f = 0x20 then 0x40
  else if 0x21 ≤ f ∧ f ≤ 0x22 then 0xC
  else if f = 0x28 then 0x810
  else if f = 0x29 then 0x280
  else if f = 0x2A then 0x4
  else if f = 0x2B then 0x4
  else if 0x30 ≤ f ∧ f ≤ 0x3F then 0x60
  else if f = 0x40 then 0xC
  else if f = 0x48 then 0x28
  else if f = 0x49 then 0x420
  else if f = 0x50 then 0x4
  else if 0x58 ≤ f ∧ f ≤ 0x59 then 0x18
  else if f = 0x5A then 0x4
  else if f = 0x60 then 0x4
  else if f = 0x68 then 0x4
  else 0

/-- The functions that R429 assigns; the power-stage functions exist on a UA-2048A-E only (R428). -/
def fnAssigned : List Nat :=
  [0x00, 0x01, 0x02, 0x03, 0x04, 0x08, 0x09] ++ List.range' 0x10 16 ++ [0x20, 0x21, 0x22, 0x28, 0x29, 0x2A, 0x2B] ++
  List.range' 0x30 16 ++ [0x40, 0x48, 0x49, 0x50, 0x58, 0x59, 0x5A, 0x60, 0x68]

end Sys2Proof.Machine
end

