-- ==== Sys2Proof/Machine/State.lean ====
section
/-! DEFINITION. The state of the block as plain data, its faults and refusals, and the state right after reset. A
register or configuration word has its one home in `State.regs` (Machine/Regs.lean names it); what no register shows
stands in the structures of its chapter. -/

namespace Sys2Proof.Machine

/-- Something the block sends outside: the model's own record of it (log entry 2). -/
inductive Out where
  /-- an interrupt message on MSI-X vector `v` (R452, R453) -/
  | irq (v : Nat)
  /-- a posted DMA write to host memory (R458, R459, R461) -/
  | host (addr : Nat) (data : List Byte)
  /-- words returned to the agent that reads (R448, R454) -/
  | read (data : List Word)
  /-- bytes returned on a serial target: the SPI target or the two-wire target (R454, R516) -/
  | target (data : List Byte)
  /-- a frame sent on Ethernet port `p` from queue `q`: 0 pair link, 1 media, 2 PTP, 3 other control (R240) -/
  | frame (p : Nat) (q : Nat) (data : List Byte)
  /-- a frame ended early, with an inverted FCS over the bytes sent (R243) -/
  | cutFrame (p : Nat) (q : Nat) (data : List Byte)
  /-- a frame sent on the data output of serial port `n`, driven on rising or falling edges of BCLK: `lead` BCLK periods after the frame
  edge the first slot begins, each slot a word of SLOT_W bits sent MSB first, or high impedance; then `idle` periods of zeros (R290, R291,
  R293, R308, R310) -/
  | serial (n : Nat) (rising : Bool) (lead : Nat) (slots : List (Option Word)) (idle : Nat)
  /-- the clocks that leader port `n` drives over a frame of `periods` BCLK periods: FS is at level `fs` for the first `len` of them
  and at the other for the rest (R290, R293) -/
  | clocks (n : Nat) (fs : Bool) (len periods : Nat)
  /-- the drive of power-stage channel `n` in a switching period: where leg A rises, counted from the sp boundary, and how long it is high, in counts, leg B its
  complement; or both legs low (R321) -/
  | pwm (n : Nat) (high : Option (Nat × Nat))
  /-- both legs of power-stage channel `n` are high from a count after the sp boundary, for a number of counts (R334) -/
  | bothHigh (n start count : Nat)
  /-- a piece of a burst on target `t` of the bus matrix: its master, address, beats and first FAB cycle (R467) -/
  | bus (t master addr beats start : Nat)
  /-- the sequencer drives the enable of group `g` high, or low (R524) -/
  | seqEn (g : Nat) (high : Bool)
  /-- a transfer on two-wire controller `k`: the bytes written, from the address byte on; whether a repeated START or a STOP and a START
  comes before the read; the address byte of the read and the number of bytes the controller takes (R504) -/
  | twoWire (k : Nat) (write : List Byte) (restart : Bool) (readAddr : List Byte) (count : Nat)
  deriving DecidableEq, Repr

/-! ### Event recorder (chapter 16) -/

/-- The content of an event record (R479), but for its CRC, which R480 computes from the rest. -/
structure Rec where
  seq : BitVec 32
  first : BitVec 48
  frac : BitVec 16
  code : BitVec 16
  source : Byte
  sev : Nat
  merged : Bool
  gasp : Bool
  rep : BitVec 16
  last : BitVec 32
  args : BitVec 64
  deriving DecidableEq, Repr

/-- A record marked for a rewrite (R483): where it lies, its new content, and how many FIFO entries go first. -/
structure Rewrite where
  bank : Bool
  slot : Nat
  content : Rec
  ahead : Nat
  deriving DecidableEq, Repr

/-- The pending drop summary (R484). -/
structure DropSummary where
  count : Nat
  lowest : Nat
  highest : Nat
  first : BitVec 32
  deriving DecidableEq, Repr

/-- The slot latch of R488: the slot, whether it is one of the last-gasp bank, and its bytes. -/
structure SlotLatch where
  bank : Bool
  slot : Nat
  bytes : List Byte
  deriving DecidableEq, Repr

/-- The event recorder's state beside its registers. -/
structure Recorder where
  /-- the intake FIFO, oldest first (R484) -/
  fifo : List Rec
  summary : Option DropSummary
  /-- log RAM: the slots in use, in ascending order of slot (R485, R486) -/
  slots : List (Nat × Rec)
  /-- the slots of the most recently written records, newest first, at most 32 (R483) -/
  recent : List Nat
  rewrites : List Rewrite
  /-- slots that hold an uncorrectable word (R492) -/
  bad : List Nat
  latch : Option SlotLatch
  /-- the last-gasp bank: its slots in use, in ascending order (R491) -/
  bank : List (Nat × Rec)
  /-- the bank slots written since the log memory failed (R492, R493) -/
  sinceFail : List Nat
  /-- the mailbox channel that waits for the repair's result (R498) -/
  repairChannel : Option Nat
  /-- sequence numbers copied to the event ring, with the SCTR of the last copy (R419) -/
  copied : List (Nat × Nat)
  /-- sequence numbers that gained repeats and wait for the 100 ms limit (R419) -/
  recopy : List Nat
  /-- records the full event ring dropped since the last report (R420) -/
  ringLost : Nat
  /-- an EVT_HOLDOFF interval runs, and whether a copy completed during it (R420) -/
  holdoff : Bool
  holdoffCopy : Bool
  deriving DecidableEq, Repr

/-! ### Mailboxes, CP and host link (chapters 14 and 15) -/

/-- The control processor's and the mailboxes' state beside their registers. -/
structure Cp where
  /-- the mailbox areas, by BAR0 offset (R411) -/
  mbx : Cells 8
  /-- the channel the CP took last (R418) -/
  lastTaken : Nat
  /-- channels whose running command has committed (R413) -/
  committed : List Nat
  /-- the SCTR of each watchdog expiry within the last 60 s (R435) -/
  wdtTimes : List Nat
  /-- `FN_CTL` writes of ENABLE held during a CP restart: function, value, and whether a check was pending before (R434) -/
  held : List (Nat × Bool × Bool)
  /-- the SCTR at which the running CP restart began (R434) -/
  restartAt : Nat
  /-- the commands a CP restart interrupted whose events the restarted CP logs: `true` a plate load, `false` an arm (R413) -/
  interrupted : List (Bool × Nat)
  /-- responses that wait for the restarted CP to write them: channel, STATUS, CODE, DETAIL and payload (R412, R413) -/
  late : List (Nat × Nat × Nat × Nat × List Byte)
  deriving DecidableEq, Repr

/-- The host link's state beside its registers. -/
structure HostLink where
  /-- status bits whose interrupt message is outstanding (R453) -/
  irqOut : BitVec 15
  /-- semaphores held: semaphore and owning agent, 0 PCIe host, 1 SPI host, 2 CP, 3 debug (R469) -/
  sem : List (Nat × Nat)
  /-- the SPI target's status: last transaction completed, FRAME_ERR, READ_LATE (R454, R455) -/
  spiDone : Bool
  frameErr : Bool
  readLate : Bool
  /-- the exchange image shown (R451) -/
  image : Cells 32
  /-- the lower 2 MB of system SRAM: firmware, CP data and the DMA region (R13, R465) -/
  sram : Cells 8
  /-- the staging area's bytes, the upper 2 MB (R465) -/
  staging : Cells 8
  /-- the master each target of the bus matrix is parked on (R467) -/
  parked : Vector Nat 8
  /-- PME enabled in configuration space (R446) -/
  pme : Bool
  pcieWake : Bool
  /-- max payload size and max read request size as the host set them (R444, R473) -/
  mps : Nat
  mrrs : Nat
  /-- correctable AER errors and endpoint resets since reset (R473) -/
  aerCorr : Nat
  epResets : Nat
  deriving DecidableEq, Repr

/-- The recorder at power-on: nothing recorded (R485, R491, R493). -/
def Recorder.reset : Recorder where
  fifo := []
  summary := none
  slots := []
  recent := []
  rewrites := []
  bad := []
  latch := none
  bank := []
  sinceFail := []
  repairChannel := none
  copied := []
  recopy := []
  ringLost := 0
  holdoff := false
  holdoffCopy := false

/-- The CP's mailboxes at reset; the round robin starts at channel 0 (log entry 7). -/
def Cp.reset : Cp where
  mbx := []
  lastTaken := 7
  committed := []
  wdtTimes := []
  held := []
  restartAt := 0
  interrupted := []
  late := []

/-- The host link at reset; the link is down, configuration space at its defaults (log entry 8), every target of the matrix parked on
the CP (log entry 45). -/
def HostLink.reset : HostLink where
  irqOut := 0
  sem := []
  spiDone := false
  frameErr := false
  readLate := false
  image := []
  sram := []
  staging := []
  parked := Vector.replicate 8 0
  pme := false
  pcieWake := false
  mps := 128
  mrrs := 512
  aerCorr := 0
  epResets := 0
/-! ### Clock (chapter 02) -/

/-- A reference slot's state beside its code in `REF_STATE` and its test value in `REF_OFS` (R38 to R40, R55). -/
structure RefSlot where
  /-- consecutive good windows, and consecutive windows not good -/
  good : Nat
  bad : Nat
  /-- AVAILABLE at some time since enable -/
  ever : Bool
  /-- test value of the previous window, 0.001 ppm -/
  prev : Option Int
  /-- a soft-limit excursion, or a suspicion, has been logged and still lasts -/
  soft : Bool
  suspect : Bool
  /-- why the last window was not good: 1 hard limit, 2 drift rate -/
  reason : Nat
  /-- last measured phase against the grid, ps -/
  phase : Int
  /-- held back by R55 -/
  blocked : Bool
  deriving DecidableEq, Repr

/-- A PTP instance: the grandmaster it follows and its announced clockClass (R37, R49); in 65,536ths of a ns, the ingress time-stamp of its
last event message, and the egress time-stamps returned to it, at most 16 (R248, R249). -/
structure PtpInst where
  leader : Option (BitVec 64)
  cls : Nat
  ingress : Option Nat
  egress : List Nat
  deriving DecidableEq, Repr

def PtpInst.reset : PtpInst := ⟨none, 255, none, []⟩

/-- The clock system's state beside its registers. -/
structure Clock where
  slots : Vector RefSlot 8
  /-- the build-out offset, ps (R42, R52) -/
  buildOut : Int
  /-- the fraction of a ps the slew has removed beyond `SLEW_REMAIN` (R53) -/
  slewAcc : Nat
  /-- a time error of the selected slot is being removed (R42) -/
  timePending : Bool
  /-- a hard step waits for the next boundary, ps (R54) -/
  hardStep : Option Int
  /-- the steering of the last 60 s spent in TRACK, newest first: a value and the sp it held; and whether TRACK was reached (R47) -/
  hist : List (Int × Nat)
  everTrack : Bool
  /-- the output offsets of `WCLK_OUT`, `PPS_OUT` and `FRM_OUT`, in thirds of a ps, newest first, each with the first edge that
  carries it; and those the next boundary installs (R57) -/
  outOfs : Vector (List (Int × Int)) 3
  nextOfs : Vector (Option Int) 3
  /-- the boundary whose windows ended last (R38) -/
  winAt : Nat
  /-- the TAI second that `TIME_SET` named (R64) -/
  timeSet : Option Nat
  ptp : Vector PtpInst 2
  /-- a CP restart paused the servo within the current window (R48) -/
  paused : Bool
  /-- HOLDOVER was entered from TRACK on a type 5 slot (R50) -/
  heldType5 : Bool
  deriving DecidableEq, Repr

/-- A slot at enable. -/
def RefSlot.reset : RefSlot where
  good := 0
  bad := 0
  ever := false
  prev := none
  soft := false
  suspect := false
  reason := 0
  phase := 0
  blocked := false

/-- The clock system at reset (R32, R46): UNSET and FREERUN. -/
def Clock.reset : Clock where
  slots := Vector.replicate 8 RefSlot.reset
  buildOut := 0
  slewAcc := 0
  timePending := false
  hardStep := none
  hist := []
  everTrack := false
  outOfs := Vector.replicate 3 []
  nextOfs := Vector.replicate 3 none
  winAt := 0
  timeSet := none
  ptp := Vector.replicate 2 PtpInst.reset
  paused := false
  heldType5 := false

/-! ### Presses and their memories (chapters 03 to 05) -/

/-- A pointer set (R67, R100). -/
structure PtrSet where
  ptr : BitVec 15
  base : BitVec 15
  len : BitVec 16
  ofs : BitVec 16
  deriving DecidableEq, Repr

/-- A coefficient pointer with its offset (R67, R101). -/
structure CPtr where
  ptr : BitVec 11
  ofs : BitVec 12
  deriving DecidableEq, Repr

/-- A long accumulator (R82). -/
structure Acc where
  value : BitVec 96
  tally : BitVec 4
  lost : Bool
  poison : Bool
  deriving DecidableEq, Repr

/-- The search register (R67). -/
structure Srch where
  value : Word
  index : BitVec 16
  deriving DecidableEq, Repr

/-- The registers of a lane (R67); `srchVis` and `laVis` are SRCH and the accumulators as `RDS`, `XRED`, `STM`, `ARD` and
`NORM` see them (R70, R109). -/
structure Lane where
  v : Vector Word 16
  ps : Vector PtrSet 8
  cp : Vector CPtr 4
  srch : Srch
  srchVis : Srch
  la : Vector Acc 4
  laVis : Vector Acc 4
  deriving DecidableEq, Repr

/-- A result that becomes visible in a later slot (R69, R70, R109 to R111); lanes 32 and 33 are the check lanes. -/
inductive Wr where
  | v (j r : Nat) (w : Word)
  | pset (j n : Nat) (x : PtrSet)
  | ptr (j n : Nat) (w : BitVec 15)
  | cset (j n : Nat) (x : CPtr)
  | cptr (j n : Nat) (w : BitVec 11)
  | mask (n : Nat) (bits em : Word)
  | st (lane a : Nat) (w : Word)
  | laVis (j k : Nat) (x : Acc)
  | srch (j : Nat) (x : Srch)
  | srchVis (j : Nat) (x : Srch)
  /-- seen by the check lanes only (R73): a memory read (memory and address, 3 the delay memory), a store to exchange (6) or delay
  memory (7) with its address and data, a predicate bit, and a lane flag -/
  | rd (j m a : Nat)
  | out (j k a : Nat) (w : Word)
  | bit (j : Nat) (b : Bool)
  | flag (j f : Nat)
  deriving DecidableEq, Repr

/-- A press (R67). -/
structure Press where
  /-- the next issue slot of this sp, 128 to 10,240 (R68) -/
  slot : Nat
  /-- compute lanes 0 to 31, then the check lanes 32 and 33 -/
  lanes : Vector Lane 34
  /-- the lane flags NAN, INF, OVF, TALLY_LOST of the check lanes (R72) -/
  checkFlags : Vector (BitVec 4) 2
  masks : Vector Word 4
  /-- results not yet visible, by the slot in which they become so -/
  pend : List (Nat × Wr)
  /-- exchange stores not yet drained: visible slot, word address, value (R112) -/
  stx : List (Nat × Nat × Word)
  /-- lane state memory: lane * 32,768 + word (R123) -/
  mem : Cells 32
  /-- coefficient memory: bank * 65,536 + lane * 2,048 + word (R124) -/
  coef : Cells 32
  /-- program memory: bank * 24,576 + area * 8,192 + instruction (R122) -/
  prog : Cells 64
  /-- position of the scrubber in its pass of 256 sp (R76) -/
  scrub : Nat
  /-- its partition reads +0.0 and its `STX` writes are discarded (R89) -/
  muted : Bool
  /-- words whose check bits no longer fit: memory (0 state, 1 coefficient, 2 program), place in `mem`, `coef` or `prog`, and
  whether two bits are wrong (R75) -/
  marks : List (Nat × Nat × Bool)
  /-- what the lanes wrote and read in the slot that issues, newest first; the check lanes compare it (R73). Empty between
  commands. -/
  trace : List Wr
  deriving DecidableEq, Repr

/-- A delay write not yet drained (R115): its slot, press, word address, byte enables and word. -/
structure DWr where
  slot : Nat
  press : Nat
  addr : Nat
  be : BitVec 4
  w : Word
  deriving DecidableEq, Repr

/-- A meter write of this sp (R116). -/
structure MWr where
  slot : Nat
  press : Nat
  addr : Nat
  w : Word
  deriving DecidableEq, Repr

/-- The presses, exchange, delay and meter memory. -/
structure Dsp where
  presses : Vector Press 4
  /-- the input region of the current sp, and of the sp before (R16) -/
  exIn : Cells 32
  exPrev : Cells 32
  /-- the staging registers that the next boundary writes into the input region, by input word (R16) -/
  staging : Cells 32
  /-- what the sink reader read at the last boundary, by 4,096 * KIND + INDEX (R144) -/
  sinkVals : Cells 32
  /-- and at the boundary before (R295) -/
  sinkPrev : Cells 32
  /-- the press region by exchange address (R112, R127) -/
  exPress : Cells 32
  delay : Cells 32
  dly : List DWr
  meter : Cells 32
  mtr : List MWr
  /-- the swap-curve pair of the current sp, bank A's weight and bank B's (R106) -/
  pairO : Word
  pairI : Word
  /-- the bank whose image issues, or issued last (R101) -/
  issueBank : Nat
  /-- the image that issues in this sp: 0 steady, 1 transition; none before the start boundary and after the stop (R161, R162,
  R171) -/
  issueArea : Option Nat
  deriving DecidableEq, Repr

def PtrSet.reset : PtrSet := ⟨0, 0, 32768, 0⟩
def CPtr.reset : CPtr := ⟨0, 0⟩
def Acc.reset : Acc := ⟨0, 0, false, false⟩
def Srch.reset : Srch := ⟨0xFF800000, 0xFFFF⟩

/-- A lane at an engine start (R160), and at reset (log entry 11). -/
def Lane.reset : Lane where
  v := Vector.replicate 16 0
  ps := Vector.replicate 8 PtrSet.reset
  cp := Vector.replicate 4 CPtr.reset
  srch := Srch.reset
  srchVis := Srch.reset
  la := Vector.replicate 4 Acc.reset
  laVis := Vector.replicate 4 Acc.reset

/-- A press at reset: power-gated, its memories zero (log entry 11). -/
def Press.reset : Press where
  slot := 128
  lanes := Vector.replicate 34 Lane.reset
  checkFlags := Vector.replicate 2 0
  masks := Vector.replicate 4 0xFFFFFFFF
  pend := []
  stx := []
  mem := []
  coef := []
  prog := []
  scrub := 0
  muted := false
  marks := []
  trace := []

def Dsp.reset : Dsp where
  presses := Vector.replicate 4 Press.reset
  exIn := []
  exPrev := []
  staging := []
  sinkVals := []
  sinkPrev := []
  exPress := []
  delay := []
  dly := []
  meter := []
  mtr := []
  pairO := 0x3F800000
  pairI := 0
  issueBank := 0
  issueArea := none

/-! ### Plates, banks and live change (chapters 05 and 06) -/

/-- A block of the delay allocation (R148). -/
structure DelayBlk where
  rb : Nat
  rs : Nat
  pk : Nat
  presses : Nat
  deriving DecidableEq, Repr

/-- A run of state words of a group (R149). -/
structure Run where
  lanes : Word
  base : Nat
  count : Nat
  deriving DecidableEq, Repr

/-- A recursive-state group (R149). -/
structure Group where
  press : Nat
  loop : Bool
  words : Nat
  accLa : Nat
  copyAt : Nat
  replayAt : Nat
  copySlots : Nat
  loadSlots : Nat
  passSlots : Nat
  accLanes : Word
  runs : List Run
  inputs : List Nat
  deriving DecidableEq, Repr

/-- A moved block (R152). -/
structure Moved where
  press : Nat
  base : Nat
  count : Nat
  lanes : Word
  deriving DecidableEq, Repr

/-- What a bank holds of its plate beside the program and coefficient memories (R136 to R152). -/
structure Bank where
  pair : Bool
  movedFlag : Bool
  pressMask : Nat
  curve : Nat
  xfade : Nat
  fill : Nat
  /-- instruction COUNT of each section, by 3 * press + area (R139) -/
  counts : List Nat
  /-- coefficient allocation bytes, by press * 8,192 + byte (R141) -/
  calloc : Cells 8
  /-- edge table, by edge ID (R142) -/
  edges : Cells 32
  sinks : List Word
  /-- input map and exchange allocation, as bytes (R145, R146) -/
  inputMap : Cells 8
  exAlloc : Cells 8
  meterMap : Cells 32
  delays : List DelayBlk
  groups : List Group
  totals : List Byte
  moved : List Moved
  deriving DecidableEq, Repr

/-- A plate load in progress (R154). -/
structure LoadJob where
  bank : Nat
  source : Nat
  len : Nat
  addr : Nat
  ch : Nat
  deriving DecidableEq, Repr

/-- An arm in progress (R155). -/
structure ArmJob where
  bank : Nat
  force : Bool
  ch : Nat
  deriving DecidableEq, Repr

/-- A ramp of the Burnisher (R181 to R185). -/
structure Ramp where
  edge : Bool
  id : Nat
  press : Nat
  db : Bool
  notify : Bool
  tag : Nat
  target : Word
  n : Nat
  s0 : Nat
  /-- start value, and steps written so far; `none` while accepted for a later boundary -/
  start : Option Word
  k : Nat
  /-- the boundary at which a `RAMP_CANCEL` takes effect -/
  cancelAt : Option Nat
  deriving DecidableEq, Repr

/-- A word that a set or a write names: an edge, or a word of a press (R190). -/
inductive Target where
  | edge (e : Nat)
  | word (p a : Nat)
  deriving DecidableEq, Repr

/-- An admitted atomic set (R190). -/
structure AtomicSet where
  due : Nat
  words : List (Target × Word)
  deriving DecidableEq, Repr

/-- An accepted direct write (R187, R189): an edge ID, or the index of a raw-window word
(R124), and its boundary. -/
structure DWrite where
  edge : Bool
  id : Nat
  w : Word
  due : Nat
  deriving DecidableEq, Repr

/-- The engine, function 0x40. -/
structure Engine where
  banks : Vector Bank 2
  load : Option LoadJob
  arm : Option ArmJob
  /-- enabled, with its start boundary still to come (R161) -/
  starting : Bool
  /-- its start boundary, or the latest it can be (R160) -/
  startBy : Nat
  /-- the bank that the enable found ARMED (R160, R161) -/
  startBank : Nat
  /-- between its start and its stop boundary (R172) -/
  running : Bool
  /-- PRESS_MASK of the plate that ran when the engine last stopped (R533) -/
  keep : Nat
  ramps : List Ramp
  atomics : List AtomicSet
  dws : List DWrite
  deriving DecidableEq, Repr

/-- An EMPTY bank. -/
def Bank.reset : Bank where
  pair := false
  movedFlag := false
  pressMask := 0
  curve := 0
  xfade := 0
  fill := 0
  counts := List.replicate 12 0
  calloc := []
  edges := []
  sinks := []
  inputMap := []
  exAlloc := []
  meterMap := []
  delays := []
  groups := []
  totals := List.replicate 64 0
  moved := []

def Engine.reset : Engine where
  banks := Vector.replicate 2 Bank.reset
  load := none
  arm := none
  starting := false
  startBank := 0
  startBy := 0
  keep := 0
  running := false
  ramps := []
  atomics := []
  dws := []

/-! ### Ethernet ports and media flows (chapters 08 and 09) -/

/-- A frame waiting in a transmit queue: its bytes without the FCS, for a media packet its deadline in sp (R242), and for a PTP event
message its instance and whether it is a Sync, which the port completes in flight (R248). -/
structure TxFrame where
  bytes : List Byte
  due : Nat
  ptp : Option (Nat × Bool)
  deriving DecidableEq, Repr

/-- An Ethernet port's state beside its registers. -/
structure EthPort where
  /-- the transmit queues by priority: pair link, media, PTP, other control (R240) -/
  queues : Vector (List TxFrame) 4
  /-- octets received and sent beyond the last multiple of 64 (R249) -/
  rxOct : Nat
  txOct : Nat
  /-- the instants, in 3,072ths of a ps from SCTR 0, at which the running pause ends and up to which its time has been counted, and the
  counted time short of a whole µs (R246) -/
  pauseEnd : Nat
  pausedTo : Nat
  pausedAcc : Nat
  /-- the policer's credit in 96,000ths of a frame, and the SCTR of its last refill (R239) -/
  credit : Nat
  refillAt : Nat
  /-- multicast addresses the CP registered for its listeners (R236) -/
  listen : List (BitVec 48)
  deriving DecidableEq, Repr

/-- A wake pattern of `ETH3` (R251, R255): its mask bit by bit, and its bytes. -/
structure WakePat where
  on : Bool
  mask : BitVec 128
  bytes : List Byte
  deriving DecidableEq, Repr

/-- A leg of a receive flow: its addresses, counters, last sequence number, the SCTR of its last packet written or
duplicated, and whether it is up and has been down (R263, R264, R271). -/
structure RxLeg where
  dst : Nat
  src : Nat
  port : Nat
  vid : Nat
  received : Word
  duplicate : Word
  late : Word
  early : Word
  formatErr : Word
  srcMismatch : Word
  seqGap : Word
  seq : Option Nat
  okAt : Option Nat
  up : Bool
  wasDown : Bool
  deriving DecidableEq, Repr

/-- A packet in a jitter buffer: the media sp of its first sample, and its samples, sample by sample (R265, R267). -/
structure RxPkt where
  n : Int
  samples : List Word
  deriving DecidableEq, Repr

/-- A receive flow (R263, R269 to R273). -/
structure RxFlow where
  idx : Nat
  l24 : Bool
  r96 : Bool
  filter : Bool
  ssrcCheck : Bool
  ptime : Nat
  ch : Nat
  pt : Nat
  base : Nat
  depth : Nat
  legs : Nat
  hold : Nat
  source : Nat
  ssrc : Nat
  tsOfs : Nat
  leg : List RxLeg
  pages : Nat
  /-- state of R272, without REMOVING, with its counts -/
  st : Nat
  h : Nat
  k : Nat
  /-- the value last staged, and the value held when the fade began -/
  last : List Word
  v : List Word
  /-- the fade-in followed FADING or SILENT (R274) -/
  restoring : Bool
  buf : List RxPkt
  /-- media sp modulo P at which the packets begin -/
  phase : Option Nat
  /-- the removal: its first staging sp, the fade steps staged, and the channel that waits -/
  rm : Option Nat
  rmk : Nat
  rmCh : Option Nat
  /-- a transition of R272 that ends the staging of this sp: 1 hold limit, 2 fade complete, 3 fade-in complete -/
  due : Nat
  /-- the last 64 sp at the interpolator, newest first (R200) -/
  hist : List (List Word)
  heldSp : Word
  holds : Word
  fades : Word
  missing : Word
  deriving DecidableEq, Repr

/-- A leg of a transmit flow (R275); `mac` is the destination's MAC address (R278). -/
structure TxLeg where
  dst : Nat
  src : Nat
  dport : Nat
  sport : Nat
  vid : Nat
  mac : BitVec 48
  deriving DecidableEq, Repr

/-- A transmit flow (R275 to R280). -/
structure TxFlow where
  idx : Nat
  l24 : Bool
  r96 : Bool
  filter : Bool
  ptime : Nat
  ch : Nat
  pt : Nat
  base : Nat
  ofs : Nat
  legs : Nat
  pcp : Nat
  ssrc : Nat
  leg : List TxLeg
  /-- sp of its first packet -/
  first : Nat
  /-- the sink values of the packet being gathered, sp by sp, the samples to send, and whether it has been formed -/
  acc : List (List Word)
  samples : List (List Word)
  formed : Bool
  /-- the last 64 sp at the decimator, newest first (R200) -/
  hist : List (List Word)
  /-- packets held by the flow hardware: leg, first sp, frame (R279) -/
  held : List (Nat × Nat × TxFrame)
  /-- the first sp of the last packet of a removal, and the channel that waits -/
  rm : Option Nat
  rmCh : Option Nat
  deriving DecidableEq, Repr

/-- What a loss window reports (R274): kind 0 lost, 1 restored, 2 leg down, 3 leg up; leg; flow; source ID; and when. -/
structure LossMark where
  kind : Nat
  leg : Nat
  flow : Nat
  source : Nat
  at_ : Nat
  deriving DecidableEq, Repr

/-- The network side of the node. -/
structure Net where
  ports : Vector EthPort 4
  wake : Vector WakePat 8
  rx : List RxFlow
  tx : List TxFlow
  marks : List LossMark
  /-- PEER_LOSS reports of kind 2 that wait: source ID, count and the SCTR from which each is sent; and the SCTR of each source's last
  report (R371) -/
  lostQ : List (Nat × Nat × Nat)
  lostAt : List (Nat × Nat)
  /-- IGMP messages that wait for the CP: the leg, the group, the source or 0, and whether it is a join (R282, R283) -/
  igmp : List (Nat × Nat × Nat × Bool)
  /-- what woke the node last: 0 nothing, 1 a magic packet, 2 + k pattern k (R251) -/
  wokeBy : Nat
  deriving DecidableEq, Repr

def EthPort.reset : EthPort := ⟨Vector.replicate 4 [], 0, 0, 0, 0, 0, 0, 0, []⟩

def Net.reset : Net where
  ports := Vector.replicate 4 EthPort.reset
  wake := Vector.replicate 8 ⟨false, 0, []⟩
  rx := []
  tx := []
  marks := []
  lostQ := []
  lostAt := []
  igmp := []
  wokeBy := 0

/-! ### Serial audio ports and the converter bank (chapters 07 and 10) -/

/-- An input frame of a serial port: its number since the start, the SCTR and fraction of its edge, and its slot values;
a quiet frame has none (R299, R300, R302). -/
structure SapFrame where
  num : Nat
  at_ : Nat
  frac : BitVec 16
  /-- the slots as the Drypoint sees them, and as the receive mask leaves them -/
  slots : Option (List Word)
  masked : List Word
  deriving DecidableEq, Repr

/-- A serial port's state beside its registers. -/
structure SapPort where
  /-- the rate it runs at, coded as `SAP_CFG.RATE` -/
  rate : Nat
  /-- a leader's start boundary, the SCTR of the edge of frame 0, and the number of the last frame (R300) -/
  startAt : Nat
  edge0 : Nat
  num : Nat
  edgeAt : Nat
  edgeFrac : BitVec 16
  /-- the latest block stamp (R299) -/
  stampAt : Nat
  stampFrac : BitVec 16
  /-- the last frames, oldest first -/
  frames : List SapFrame
  /-- staging: 0 off, 1 fading in, 2 playing, 3 holding, 4 fading out; its counts, the value last staged and the value held
  when the fade began (R300, R302, R307) -/
  inSt : Nat
  h : Nat
  k : Nat
  last : List Word
  v : List Word
  /-- the last 64 sp at the adaptors, newest first (R200) -/
  histIn : List (List Word)
  histOut : List (List Word)
  /-- the decimator's newest output sample and the one before (R201) -/
  decNow : List Word
  decPrev : List Word
  /-- SYNC mode: the frame to stage next once anchored, the output frame FIFO, consecutive stagings at a high and at a low
  fill, and the boundary of the last slip (R303, R304) -/
  nextIn : Option Nat
  outq : List (List Word)
  hi : Nat
  lo : Nat
  slipAt : Option Nat
  /-- the rotation of each direction, and the slot values of the previous frame (R306) -/
  rotIn : Int
  rotOut : Int
  prevIn : List Word
  prevOut : List Word
  /-- masks written and not in effect, each with whether it was written since the last edge; the held update (R308, R309) -/
  maskRx : Option (Word × Bool)
  maskTx : Option (Word × Bool)
  timed : Option (Nat × Option Word × Option Word)
  /-- the first frame of a stop; the reason for a restart after it: 1 alignment, 3 command (R302, R306, R315) -/
  stopFrom : Option Nat
  restart : Nat
  /-- the output frame being sent: the engine's values, its mask, whether data and clocks are driven; the Drypoint's values by
  frame number and slot (R208, R209, R310) -/
  cur : Option (List Word)
  curMask : Word
  curDrive : Bool
  curClk : Bool
  dp : List (Nat × Nat × Word)
  deriving DecidableEq, Repr

/-- A ratio tracker (R204 to R206): its rate, the number of its anchor frame, the 64-bit read position, what the next boundary
applies, whether its next update carries the anchor, and the staging of its source channels. -/
structure Trk where
  rate : Nat
  /-- the estimate of port rate / 96,000 in units of 2^-62, the port's last block stamps in 65,536ths of an sp, newest first, and the SCTR
  since which the frequency error has stayed below 10 ppm (R204) -/
  rho : Nat
  stamps : List Nat
  goodFrom : Option Nat
  /-- the SCTR of the entry to TRACK, and of the last boundary that decided an update (R205) -/
  trackAt : Nat
  decidedAt : Option Nat
  /-- the sink side: the ratios this node decided, with their boundaries, and the one in use (R206) -/
  sinkNext : List (Nat × Word)
  sinkRatio : Word
  anchor : Option Nat
  pos : Nat
  nextRatio : Option Word
  nextAnchor : Option Nat
  first : Bool
  inSt : Nat
  h : Nat
  k : Nat
  last : List (Nat × Word)
  v : List (Nat × Word)
  deriving DecidableEq, Repr

/-- A Drypoint gain ramp (R210, R212): its crosspoint by 64 * output + input, its ends and length in frames, and the steps made. -/
structure DpRamp where
  xp : Nat
  g0 : Word
  gt : Word
  n : Nat
  k : Nat
  deriving DecidableEq, Repr

/-- A gain accepted and not begun (R210): its crosspoint, its value, the ramp's frames, and the instant, in 65,536ths of an sp, from
which an output frame begins it. -/
structure DpSet where
  xp : Nat
  gt : Word
  n : Nat
  from_ : Nat
  deriving DecidableEq, Repr

/-- What the window of a meter point has folded (R213). -/
structure MeterAcc where
  max : Word
  count : Nat
  sum : Nat
  inf : Bool
  n : Nat
  lo : Option (Word × Word)
  hi : Option (Word × Word)
  deriving DecidableEq, Repr

/-- A snapshot that waits to be written (R214): the header's flags, boundary, hash and count, and the points by 4 q + i. -/
structure Snapshot where
  flags : Nat
  at_ : Nat
  hash : Word
  folded : Nat
  points : Cells 32
  deriving DecidableEq, Repr

/-- The converter bank, the Drypoint, the meters and the taps. -/
structure Conv where
  trk : Vector Trk 16
  /-- the last 96 sink values of each used sink channel, newest first (R203) -/
  sinkHist : List (Nat × List Word)
  /-- the Drypoint's gains by 64 * output + input, ramps, live crosspoints and those a group change broke (R210, R212) -/
  gains : Cells 32
  dpSets : List DpSet
  dpRamps : List DpRamp
  dpLive : List Nat
  dpBroken : List Nat
  dpEver : List Nat
  /-- the frame each group's Drypoint formed last: group, and SCTR or frame number -/
  dpAt : List (Nat × Nat)
  /-- Drypoint values for power-stage channels: boundary, channel, value (R209) -/
  dpPsc : List (Nat × Nat × Word)
  /-- the meter window: the bank whose map it folds, the sp folded and the points; SEQ; whether the next record carries GAP,
  and whether the running window began before a CP restart ended (R214, R215) -/
  mBank : Nat
  mFolded : Nat
  mAcc : List (Nat × MeterAcc)
  mSeq : Nat
  mGap : Bool
  mLost : Bool
  snap : Option Snapshot
  /-- the capture block being gathered, the block that is complete, SEQ and GAP (R217, R218) -/
  capRows : List (List Word)
  capBlock : Option (Nat × List (List Word))
  capSeq : Nat
  capGap : Bool
  /-- playback blocks fetched, by their first sp, and the fetch that is due (R219) -/
  play : List (Nat × List (List Word))
  fetchDue : Option Nat
  deriving DecidableEq, Repr

/-- The paired-quantity sets of R360: this node's own decisions by their boundary, and the sets received: boundary, parts by
number, and the number of the last part. -/
structure PqSet where
  n : Nat
  parts : List (Nat × List PqRec)
  last : Option Nat
  deriving DecidableEq, Repr

structure Paired where
  own : List (Nat × PqRec)
  got : List PqSet
  /-- the last boundary that applied a set -/
  doneTo : Nat
  deriving DecidableEq, Repr

def SapPort.reset : SapPort where
  rate := 0
  startAt := 0
  edge0 := 0
  num := 0
  edgeAt := 0
  edgeFrac := 0
  stampAt := 0
  stampFrac := 0
  frames := []
  inSt := 0
  h := 0
  k := 0
  last := []
  v := []
  histIn := []
  histOut := []
  decNow := []
  decPrev := []
  nextIn := none
  outq := []
  hi := 0
  lo := 0
  slipAt := none
  rotIn := 0
  rotOut := 0
  prevIn := []
  prevOut := []
  maskRx := none
  maskTx := none
  timed := none
  stopFrom := none
  restart := 0
  cur := none
  curMask := 0
  curDrive := false
  curClk := false
  dp := []

def Trk.reset : Trk := ⟨0, 0, [], none, 0, none, [], 0, none, 0, none, none, false, 0, 0, 0, [], []⟩

def MeterAcc.reset : MeterAcc := ⟨0, 0, 0, false, 0, none, none⟩

def Conv.reset : Conv where
  trk := Vector.replicate 16 Trk.reset
  sinkHist := []
  gains := []
  dpSets := []
  dpRamps := []
  dpLive := []
  dpBroken := []
  dpEver := []
  dpAt := []
  dpPsc := []
  mBank := 0
  mFolded := 0
  mAcc := []
  mSeq := 0
  mGap := false
  mLost := false
  snap := none
  capRows := []
  capBlock := none
  capSeq := 0
  capGap := false
  play := []
  fetchDue := none

def Paired.reset : Paired := ⟨[], [], 0⟩

/-! ### Power stage control (chapter 11) -/

/-- A power-stage channel's state beside its registers. -/
structure PscCh where
  /-- loop state: e1, e2, s1_1, s1_2, s2_1, s2_2 (R328) -/
  e1 : Word
  e2 : Word
  s1a : Word
  s1b : Word
  s2a : Word
  s2b : Word
  /-- modulator error in units of 2^-149 counts (R321) -/
  q1 : Int
  q2 : Int
  /-- target voltages of the last 64 sp, newest first (R323, R324) -/
  hist : List Word
  /-- the last channel input, the fade steps made, and the input held when a fade-out began (R323, R335) -/
  held : Word
  fade : Nat
  /-- whether the running period is limited, the last OC_WIN periods, and the SCTR of the last limited one (R330, R331) -/
  limNow : Bool
  win : List Bool
  limAt : Option Nat
  /-- this sp had a limited, a clipped period; SCTR of the last clipped sp (R323, R327) -/
  limSp : Bool
  clipSp : Bool
  clipAt : Option Nat
  /-- the readback of the sp that completes: v, i, p in SI units (R325, R327) -/
  sense : Word × Word × Word
  /-- SCTR of the shutdown or failed retry that waits, of the retry that began last and of the last pass of a retry, whether the queued
  test is a retry, and the failed retries (R332) -/
  waitFrom : Nat
  began : Nat
  passedAt : Option Nat
  retrying : Bool
  fails : List Nat
  /-- the result of the first test that the running diagnostics failed (R334) -/
  failed : Option Nat
  /-- SCTR at which its supply was last seen outside its limits (R326) -/
  outAt : Option Nat
  /-- the legs stay low, or at high impedance, through a fade-out (log entry 60) -/
  dark : Bool
  /-- queued by `PSC_DIAG` while disabled, or passively: the state it returns to (R334, R338) -/
  back : Option Nat
  /-- state to return to after a calibration, its mode, and the SCTR of its beginning (R329, R335) -/
  calBack : Nat
  calMode : Nat
  calAt : Nat
  /-- an observer last saw its group enable asserted and its leg toggle (R337) -/
  seenAt : Option Nat
  deriving DecidableEq, Repr

/-- The power stage control. -/
structure Psc where
  ch : Vector PscCh 16
  /-- `AMP_EN[3:0]` as this node drives them -/
  en : Vector Bool 4
  /-- the units that wait for the diagnostic sequencer: channels in the order they were queued (R333) -/
  queue : List Nat
  /-- the unit under test, and whether the test is passive -/
  test : Option (List Nat × Bool)
  /-- SCTR at which the running test began (R334) -/
  testAt : Nat
  /-- which supply inputs are outside the limits of a channel (R326) -/
  pvddOut : Vector Bool 2
  deriving DecidableEq, Repr

def PscCh.reset : PscCh where
  e1 := 0
  e2 := 0
  s1a := 0
  s1b := 0
  s2a := 0
  s2b := 0
  q1 := 0
  q2 := 0
  hist := []
  held := 0
  fade := 0
  limNow := false
  win := []
  limAt := none
  limSp := false
  clipSp := false
  clipAt := none
  sense := (0, 0, 0)
  waitFrom := 0
  began := 0
  passedAt := none
  retrying := false
  fails := []
  failed := none
  outAt := none
  dark := false
  back := none
  calBack := 0
  calMode := 0
  calAt := 0
  seenAt := none

def Psc.reset : Psc := ⟨Vector.replicate 16 PscCh.reset, Vector.replicate 4 false, [], none, 0, Vector.replicate 2 false⟩

/-! ### Pair operation and the witness (chapter 12) -/

/-- A session of the pair link or of Omzor (R557, R558): the key in use, the key before and the key to come with its switch
boundary, the SESSION number, the handshake (0 none, 1 HELLO sent, 2 REPLY sent, 3 FINISH sent) with this side's ephemeral
key, the payloads of HELLO and REPLY and the key agreed before DONE, its start, the SCTR from which another may begin and why a check failed (R560 codes, 4 timeout),
and the last SEQ sent and accepted, by subtype. -/
structure Session where
  key : Option (List Byte)
  oldKey : Option (List Byte)
  newKey : Option (List Byte)
  switchAt : Nat
  id : Word
  hs : Nat
  priv : Nat
  hello : List Byte
  reply : List Byte
  cand : List Byte
  startAt : Nat
  retryAt : Nat
  why : Nat
  txSeq : List (Nat × Nat)
  rxSeq : List (Nat × Nat)
  deriving DecidableEq, Repr

/-- What the last heartbeat of the peer reported (R358). -/
structure Peer where
  role : Nat
  flags : Nat
  hash : Word
  deriving DecidableEq, Repr

/-- A proof digest: its group, the SCTR of its period's end and its CRC (R361). -/
structure Digest where
  group : Nat
  end_ : Nat
  crc : Word
  deriving DecidableEq, Repr

/-- A ROLE_COMMAND that waits for its boundary (R365). -/
structure RoleCmd where
  at_ : Nat
  cmd : Nat
  force : Bool
  id : Word
  deriving DecidableEq, Repr

/-- The pair logic beside its registers. -/
structure PairSt where
  ses : Session
  peer : Option Peer
  /-- consecutive heartbeats received and missed; consecutive ones that report ACTIVE; the SCTR of the last that does (R356,
  R359, R365) -/
  got : Nat
  miss : Nat
  dual : Nat
  activeAt : Option Nat
  /-- the last heartbeat received: its SEQ and when it came; the boundary whose heartbeat has come, and the one last judged -/
  hbSeq : Nat
  hbSctr : Word
  hbFrac : BitVec 16
  hbFor : Option Nat
  hbJudged : Option Nat
  /-- this node's own heartbeats: SEQ, SCTR and fraction at send (R350) -/
  sent : List (Nat × Nat × BitVec 16)
  tofsBad : Bool
  /-- the sp in which this node drives `YIELD_N` low, and whether as a yield (R352) -/
  yieldOut : Option Nat
  yielding : Bool
  /-- a grant being executed: the boundary from which the node drives, and the cause (R348) -/
  grant : Option (Nat × Nat)
  /-- the level of `ROLE_IN` (R351) -/
  roleIn : Bool
  /-- the boundary at which the node last ceased to be ACTIVE: it still sends the set of that boundary (R360, R369) -/
  leftActive : Option Nat
  /-- role changes that the next boundary makes: the channel that waits, the role, 5 for a yield, and the cause (R348, R377) -/
  setTo : List (Option Nat × Nat × Nat)
  /-- the SCTR at which RATIFY_MS and PROMOTE_WIN end (R355, R366) -/
  ratifyBy : Option Nat
  promoteTo : Option Nat
  /-- writing 0 to the engine's ENABLE left an own fault that lasts until it runs again (R354) -/
  stopFault : Bool
  /-- `PAIR_YIELD` has been accepted and its boundary has not come (R354) -/
  yieldAsked : Bool
  /-- the agreement run ended since the last boundary (R362) -/
  agreeHit : Bool
  /-- the reason for which `PAIR_AGREE` last returned to 0, as R379 codes it -/
  agreeWhy : Nat
  /-- digest groups: the CRC register of each running period, digests formed and not yet sent, and those a STANDBY holds for
  comparison (R361, R362) -/
  digRun : List (Nat × Word)
  digDue : List Digest
  digOwn : List Digest
  /-- Omzor on a pair node (R363 to R366): its session, the SCTR of the last valid message, whether the witness is lost, when the next
  HEARTBEAT and HEALTH are due, the last command's result and ID, the messages that wait and the commands accepted -/
  om : Session
  omAt : Nat
  omLost : Bool
  omBeat : Nat
  omHealth : Nat
  omResult : Nat
  omCmd : Word
  omQ : List (Nat × List Byte)
  cmds : List RoleCmd
  deriving DecidableEq, Repr

/-- What the witness holds of a node (R367): its session, its latest HEALTH and when that came, and whether it is recorded as
lost or not promotable. -/
structure WitNode where
  ses : Session
  role : Nat
  flags : Nat
  result : Nat
  cmd : Word
  at_ : Option Nat
  lost : Bool
  silent : Bool
  /-- completed restrikes, as its health word counts them (R404) -/
  done : Nat
  /-- when the next HEARTBEAT to it is due -/
  beat : Nat
  deriving DecidableEq, Repr

/-- What the witness holds of a pair: restrikes counted, alarm reason (R368), a node whose RESTRIKE waits for its fault to end
with the row that orders it (rows 7 and 13), the step of row 12 with its command and node, and since when both are STANDBY, or the pair Matched;
the completed restrikes that its STANDBY counted when the last one under row 8 was ordered, and whether none is ordered any more. -/
structure WitPair where
  count : Nat
  alarm : Nat
  base : Nat
  barred : Bool
  wait : Option (Nat × Nat)
  force : Nat
  forceCmd : Word
  bothAt : Option Nat
  matchedAt : Option Nat
  deriving DecidableEq, Repr

structure Wit where
  nodes : Vector WitNode 64
  pairs : Vector WitPair 32
  cmdId : Nat
  /-- reports of this window: source ID and the nodes that reported, and when the window began (R371) -/
  src : List (Nat × List Nat)
  srcFrom : Nat
  /-- a WIT_COMMAND to a node, with its ID, whose result no HEALTH has returned (R594) -/
  asked : List (Nat × Word)
  deriving DecidableEq, Repr

def Session.reset : Session := ⟨none, none, none, 0, 0, 0, 0, [], [], [], 0, 0, 4, [], []⟩

def PairSt.reset : PairSt where
  ses := Session.reset
  peer := none
  got := 0
  miss := 0
  dual := 0
  activeAt := none
  hbSeq := 0
  hbSctr := 0
  hbFrac := 0
  hbFor := none
  hbJudged := none
  sent := []
  tofsBad := false
  yieldOut := none
  yielding := false
  grant := none
  roleIn := false
  leftActive := none
  setTo := []
  ratifyBy := none
  promoteTo := none
  stopFault := false
  yieldAsked := false
  agreeHit := false
  agreeWhy := 4
  digRun := []
  digDue := []
  digOwn := []
  om := Session.reset
  omAt := 0
  omLost := false
  omBeat := 0
  omHealth := 0
  omResult := 0
  omCmd := 0
  omQ := []
  cmds := []

def WitNode.reset : WitNode := ⟨Session.reset, 0, 0, 0, 0, none, false, false, 0, 0⟩
def WitPair.reset : WitPair := ⟨0, 0, 0, false, none, 0, 0, none, none⟩

def Wit.reset : Wit := ⟨Vector.replicate 64 WitNode.reset, Vector.replicate 32 WitPair.reset, 0, [], 0, []⟩

/-! ### Restrike and standby self-test (chapter 13) -/

/-- Parts of a chunk as they have come: INDEX, copy point, the sp in which the latest part came, parts by number, and the number
of the last part (R396). -/
structure Chunk where
  index : Nat
  at_ : Nat
  cameAt : Nat
  parts : List (Nat × List Byte)
  last : Option Nat
  deriving DecidableEq, Repr

/-- The ACTIVE's side of a restrike (R388 to R393): c0, the next coefficient chunk, whether the ramps have gone, the unit at the
cursor by its first group, its next copy point, whether its ACK has come, and whether a copy of it is out. -/
structure RsServe where
  c0 : Nat
  q : Nat
  ramps : Bool
  unit : Nat
  copyAt : Nat
  acked : Bool
  out : Bool
  /-- failures of the unit in a row -/
  fails : Nat
  d : Nat
  deriving DecidableEq, Repr

/-- What a replay issues for one group (R386): REPLAY_AT, LOAD_SLOTS, PASS_SLOTS and INPUTS. -/
structure ReplayPart where
  at_ : Nat
  load : Nat
  pass : Nat
  inputs : List Nat
  deriving DecidableEq, Repr

/-- A replay in its sp (R386): the press, the copied sp n, D, and its groups. -/
structure Replay where
  press : Nat
  n : Nat
  d : Nat
  parts : List ReplayPart
  deriving DecidableEq, Repr

/-- A sense cross-check (R402): its channel and start, the sums of |v| and |i| differences in units of 2^-149, how many sp it has
compared, and whether a value was not finite. -/
structure SenseChk where
  ch : Nat
  start : Nat
  v : Nat
  i : Nat
  n : Nat
  bad : Bool
  deriving DecidableEq, Repr

structure Rs where
  /-- the STANDBY's side: the SCTR of START, of the last chunk, c0, the chunks applied, and the chunks that have come -/
  startAt : Nat
  chunkAt : Nat
  c0 : Nat
  q : Nat
  coef : List Chunk
  ramps : Option Chunk
  units : List Chunk
  /-- the replay of this sp (R386), and the unit that waits to be copied or replayed by its first group (R384) -/
  replay : Option Replay
  unit : Nat
  /-- the input ring of that unit: sp and the values of the listed words, newest first (R384) -/
  ring : List (Nat × Cells 32)
  /-- the ACTIVE's side -/
  serve : Option RsServe
  /-- the press whose copy window this sp has, on the ACTIVE, with COPY_AT and COPY_SLOTS of each group (R385) -/
  copying : Option (Nat × List (Nat × Nat))
  /-- the accumulator areas: press * 512 + 128 * LA + 32 * segment + lane (R385) -/
  acc : Cells 32
  /-- the SCTR from which the fill clock counts, and the latest swap boundary that restarted it (R398) -/
  fillFrom : Option Nat
  /-- state-proven by an engine start, once a state digest compares equal (R397) -/
  provenNext : Bool
  /-- the rolling state digest: window start, CRC register of each press, and whether the window counts; digests of this
  window's end, own and received (R399) -/
  sdCrc : List Word
  sdBad : Bool
  sdDue : Option (Nat × List Word)
  sdOwn : Option (Nat × List Word)
  /-- coefficient words written while a restrike runs: boundary, place (bank * 262,144 + press * 65,536 + word) and the value
  before (R387, R391) -/
  wrote : List (Nat × Nat × Word)
  /-- presses under BIST, by the SCTR of their pass (R400) -/
  bist : List (Nat × Nat)
  /-- the sense cross-check that runs, and the start and channel of the last (R402) -/
  sense : Option SenseChk
  senseAt : Nat
  senseLast : Nat
  /-- presses still to be tested, the press under test with the start of its test, all named, those that failed, and the
  channel (R403) -/
  tests : List Nat
  testing : Option (Nat × Nat)
  testMask : Nat
  testFail : Nat
  /-- what the health word counts: the SCTR of each ECC correction of the last second, and digest mismatches, restrikes completed and
  aborted since enable (R404) -/
  eccAt : List Nat
  mismTotal : Nat
  doneTotal : Nat
  abortTotal : Nat
  deriving DecidableEq, Repr

def Rs.reset : Rs where
  startAt := 0
  chunkAt := 0
  c0 := 0
  q := 0
  coef := []
  ramps := none
  units := []
  replay := none
  unit := 0
  ring := []
  serve := none
  copying := none
  acc := []
  fillFrom := none
  provenNext := false
  sdCrc := [0xFFFFFFFF, 0xFFFFFFFF, 0xFFFFFFFF, 0xFFFFFFFF]
  sdBad := true
  sdDue := none
  sdOwn := none
  wrote := []
  bist := []
  sense := none
  senseAt := 0
  senseLast := 0
  tests := []
  testing := none
  testMask := 0
  testFail := 0
  eccAt := []
  mismTotal := 0
  doneTotal := 0
  abortTotal := 0

/-! ### Two-wire buses (chapter 17) -/

/-- A transfer (R504): address, PEC, repeated START, write bytes and read count, its attempts, the SCTR at which it was queued, and
the mailbox channel that waits; `pm` is 1 for a PAGE write of the power manager, 2 for its VOUT_COMMAND of `mv`, 3 for the
repeat (R530, R532), else 0. -/
structure TwXfer where
  addr : Nat
  pec : Bool
  rstart : Bool
  wr : List Byte
  rd : Nat
  attempts : Nat
  at_ : Nat
  ch : Option Nat
  pm : Nat
  mv : Nat
  deriving DecidableEq, Repr

/-- A two-wire controller beside its registers: the transfers that wait and the one that runs, the channels whose bus clear waits,
the attention FIFO, and alert reads that no target acknowledged, the SCTR of the last and whether reading has stopped. -/
structure Twc where
  queue : List TwXfer
  cur : Option TwXfer
  clears : List Nat
  fifo : List Nat
  miss : Nat
  readAt : Nat
  off : Bool
  deriving DecidableEq, Repr

/-- The two-wire target's pointer and the SCTR that byte 0x50 latched (R516). -/
structure Twt where
  ptr : Byte
  sctr : BitVec 64
  deriving DecidableEq, Repr

structure TwoWire where
  twc : Vector Twc 2
  twt : Twt
  deriving DecidableEq, Repr

def TwoWire.reset : TwoWire := ⟨Vector.replicate 2 ⟨[], none, [], [], 0, 0, false⟩, ⟨0, 0⟩⟩

/-! ### Power and start-up (chapter 18) -/

/-- The firmware image that runs, or that system SRAM retains (R549, R550, R553). -/
structure RunImage where
  version : Nat
  build : Nat
  slot : Nat
  rollback : Nat
  measure : List Byte
  deriving DecidableEq, Repr

/-- The power manager's state beside its registers. -/
structure Pm where
  /-- wake sources armed by `PM_DORMANT`, as its payload names them, with the GPIO and its level and the seconds of the timer (R539,
  R540) -/
  armed : Nat
  wakeGpio : Nat
  wakeLevel : Bool
  wakeTimer : Nat
  /-- `WAKE_OUT_N` and `THERM_TRIP_N` are driven low (R529, R540) -/
  wakeOut : Bool
  thermTrip : Bool
  /-- SCTR at which each rail last left its window (R525) -/
  railOutAt : Vector Nat 10
  /-- the thresholds in force, and consecutive readings at or above each of 115, 120 and 125 °C, and below the clear levels
  of the first two (R528) -/
  warm : Bool
  hot : Bool
  above : List Nat
  below : List Nat
  /-- the image verified at `BOOT_CTL.GO` (R537) -/
  goImage : Option RunImage
  /-- the image in system SRAM (R535, R537) -/
  retained : Option RunImage
  /-- AVS stopped after a failed step (R532) -/
  avsFailed : Bool
  /-- the exponent of LINEAR16 (R531), the SCTR of the last rise and of the last fall (R530), and the repeat that is due (R532) -/
  vexp : Int
  riseAt : Option Nat
  fallAt : Option Nat
  avsRetry : Option (Nat × Nat)
  /-- the commanded value before the last acknowledged step, and the SCTR of that step: the window follows 1 ms later (R530) -/
  oldMv : Nat
  ackAt : Option Nat
  /-- the source of the wake start that runs (R540) -/
  wakeSrc : Option Nat
  deriving DecidableEq, Repr

def Pm.reset : Pm where
  armed := 0
  wakeGpio := 0
  wakeLevel := false
  wakeTimer := 0
  wakeOut := false
  thermTrip := false
  railOutAt := Vector.replicate 10 0
  warm := false
  hot := false
  above := [0, 0, 0]
  below := [0, 0]
  goImage := none
  retained := none
  avsFailed := false
  vexp := 0
  riseAt := none
  fallAt := none
  avsRetry := none
  oldMv := 800
  ackAt := none
  wakeSrc := none

/-! ### Identity and firmware (chapter 19) -/

/-- What OTP holds beside the identity registers: the base MAC address, the customer key hashes, the revoke fuses,
VENDOR_OFF and the rollback count (R231, R548, R551, R553). -/
structure Otp where
  mac : BitVec 48
  keyA : Option (List Byte)
  keyB : Option (List Byte)
  revokedA : Bool
  revokedB : Bool
  deriving DecidableEq, Repr

/-- A read of an image in progress: source, address or offset, length, and the channel that waits (R554). -/
structure StageJob where
  source : Nat
  addr : Nat
  len : Nat
  ch : Nat
  deriving DecidableEq, Repr

/-- The rollback count that fuses are blown for, one each 1 ms, the SCTR at which the next is blown, and the channels that wait
(R553). -/
structure FuseJob where
  target : Nat
  next : Nat
  chs : List Nat
  deriving DecidableEq, Repr

/-- The security block's state beside its registers. -/
structure Sec where
  otp : Otp
  /-- ROLLBACK of the running image -/
  runRollback : Nat
  stage : Option StageJob
  /-- length of the staged image at offset 0 of the staging area -/
  staged : Nat
  verifyCh : Option Nat
  /-- a CP restart of `FW_ACTIVATE` runs (R556) -/
  activating : Bool
  /-- new firmware runs and its automatic commit is to come; the SCTR from which its 60 s count (R556) -/
  autoPending : Bool
  autoAt : Nat
  /-- fuses are being blown (R553) -/
  fuses : Option FuseJob
  /-- the debug nonce and the failures against it (R559) -/
  nonce : Option (List Byte)
  nonceFails : Nat
  deriving DecidableEq, Repr

/-- The security block at reset; OTP as manufactured is a part's own, zero here (log entry 4). -/
def Sec.reset : Sec where
  otp := ⟨0, none, none, false, false⟩
  runRollback := 0
  stage := none
  staged := 0
  verifyCh := none
  activating := false
  autoPending := false
  autoAt := 0
  fuses := none
  nonce := none
  nonceFails := 0
/-! ### The whole state -/

/-- Why the machine stops with a fault. -/
inductive Fault where
  /-- Raised by no meaning: the spec gives every command an effect or none at all. Kept so that the type is inhabited;
  safe. -/
  | none
  deriving DecidableEq, Repr

/-- Why a command has no meaning. -/
inductive Refusal where
  /-- Raised by the arms of exec for a command that has no meaning yet, with its mnemonic. Safe. -/
  | notModelled (mnemonic : String)
  deriving DecidableEq, Repr

/-- The state of the block. -/
structure State where
  /-- the commands that wait, first in, first out -/
  pending : List Instr
  /-- what the block has sent outside, oldest first: the model's own field (log entry 2) -/
  out : List Out
  /-- the index of the next free value: the model's own field (log entry 1) -/
  free : Nat
  /-- the sp counter (R30) -/
  sctr : BitVec 64
  /-- BAR0 registers and configuration words (R9, R426, R447) -/
  regs : Cells 32
  log : Recorder
  cp : Cp
  host : HostLink
  clock : Clock
  dsp : Dsp
  eng : Engine
  net : Net
  sec : Sec
  pm : Pm
  sap : Vector SapPort 16
  conv : Conv
  paired : Paired
  psc : Psc
  pair : PairSt
  wit : Wit
  rs : Rs
  tw : TwoWire
  deriving DecidableEq, Repr

/-- The registers outside the configuration blocks whose reset value is not zero, in ascending order. ORDER is 0, a UA-2048A-E:
R449 gives it by the part, R3 has two (log entry 39). -/
def resetRegs : List (Nat × Word) :=
  [(R.ID_DEVICE, 0x00B12048), (R.NODE_STAT, 1)] ++
  (fnAssigned.flatMap (fun f =>
    (if f = 0x00 ∨ f = 0x68 then [(R.FN_CTL f, (5 : Word))] else []) ++ [(R.FN_STAT f, 0x0001FFFF)])) ++
  [(R.CP_STAT, 3), (R.DW_CTL, 3)] ++ (List.range 4).map (fun p => (R.PRESS_STAT p, 0x10)) ++
  [(R.POOL_STAT, 2048)] ++
  (List.range 16).flatMap (fun n => [(R.PSC_CAL_V_GAIN n, (0x3F800000 : Word)), (R.PSC_CAL_I_GAIN n, 0x3F800000),
    (R.PSC_LOOP_TRIM n, 0x3F800000)]) ++
  [(R.PAIR_STAT, 0x1000), (R.HL_CTL, 2), (R.BM_QOS, 0x1EBC2A68), (R.BM_AGE, 256)] ++
  (List.range 32).map (fun v => (R.MSIX_TABLE (4 * v + 3), (1 : Word))) ++
  [(R.LOG_STAT, 0x10000000),
   (R.LOG_SEQ_NEXT, 1), (R.TWC_STAT 0, 1), (R.TWC_STAT 1, 1), (R.TWT_STAT, 0x58), (R.PM_VCORE, 800),
   (R.PM_RESET_CAUSE, 1)]

/-- Every configuration block at its reset values (R426), in ascending order. -/
def resetCfg : List (Nat × Word) :=
  fnAssigned.flatMap (fun f => (cfgReset f).map (fun c => (cfgKey f c.1, c.2)))

/-- The machine right after a power-on reset, at the release of `RESET_N`: the node is in BOOT (R534, R542), no rail group
is enabled yet, and every register holds the reset value of its table. -/
def State.reset : State where
  pending := []
  out := []
  free := 0
  sctr := 0
  regs := resetRegs ++ resetCfg
  log := Recorder.reset
  cp := Cp.reset
  host := HostLink.reset
  clock := Clock.reset
  dsp := Dsp.reset
  eng := Engine.reset
  net := Net.reset
  sec := Sec.reset
  pm := Pm.reset
  sap := Vector.replicate 16 SapPort.reset
  conv := Conv.reset
  paired := Paired.reset
  psc := Psc.reset
  pair := PairSt.reset
  wit := Wit.reset
  rs := Rs.reset
  tw := TwoWire.reset

end Sys2Proof.Machine
end

