-- ==== Sys2Proof/Machine/Ops.lean ====
section
/-! DEFINITION. The named operations that every meaning uses: sparse memories, registers and their fields, free values,
sticky faults, interrupts, the event recorder's intake, and functions. -/

namespace Sys2Proof.Machine

/-! ### Sparse memories -/

/-- What address `a` holds: zero where nothing is listed. -/
def memGet {w : Nat} (m : Cells w) (a : Nat) : BitVec w :=
  match m with
  | [] => 0
  | c :: t => if c.1 = a then c.2 else memGet t a

/-- Insert an address that is not listed, keeping the order. -/
def memIns {w : Nat} (m : Cells w) (a : Nat) (v : BitVec w) : Cells w :=
  match m with
  | [] => [(a, v)]
  | c :: t => if a < c.1 then (a, v) :: c :: t else c :: memIns t a v

/-- Write one address; writing zero unlists it, so equal memories are equal lists. -/
def memSet {w : Nat} (m : Cells w) (a : Nat) (v : BitVec w) : Cells w :=
  let r := m.filter (fun c => c.1 != a)
  if v = 0 then r else memIns r a v

/-- Write consecutive addresses from `a`. -/
def memSetList {w : Nat} (m : Cells w) (a : Nat) : List (BitVec w) → Cells w
  | [] => m
  | v :: t => memSetList (memSet m a v) (a + 1) t

/-- `n` consecutive contents from `a`. -/
def memGetList {w : Nat} (m : Cells w) (a n : Nat) : List (BitVec w) :=
  (List.range n).map (fun i => memGet m (a + i))

/-- The canonical form: addresses strictly rising, no content zero. -/
def memWf {w : Nat} (m : Cells w) : Bool :=
  match m with
  | [] => true
  | c :: t => c.2 != 0 && t.all (fun d => decide (c.1 < d.1)) && memWf t

/-! ### Bytes -/

/-- The `n` low bytes of `v`, little-endian. -/
def le (n v : Nat) : List Byte := (List.range n).map (fun i => BitVec.ofNat 8 (v / 256 ^ i))

/-- The value of little-endian bytes. -/
def leVal : List Byte → Nat
  | [] => 0
  | b :: t => b.toNat + 256 * leVal t

/-- The unsigned little-endian value of `n` bytes at offset `o` of a payload; bytes beyond its end count as zero. -/
def leAt (p : List Byte) (o n : Nat) : Nat := leVal ((p.drop o).take n)

/-- The 32-bit words of a little-endian byte list, whole words only. -/
def leWords : List Byte → List Word
  | a :: b :: c :: d :: t => (d ++ c ++ b ++ a) :: leWords t
  | _ => []

/-! ### Registers -/

/-- Read a register or configuration word by its place in the register file (no side effect). -/
def getR (s : State) (o : Nat) : Word := memGet s.regs o

/-- Write a register or configuration word. -/
def setR (s : State) (o : Nat) (w : Word) : State := { s with regs := memSet s.regs o w }

/-- The ones of a field's width. -/
def Fld.ones (f : Fld) : Word := BitVec.ofNat 32 (2 ^ f.w - 1)

/-- A field of a word. -/
def fldGet (w : Word) (f : Fld) : Nat := ((w >>> f.lo) &&& Fld.ones f).toNat

/-- A word with one field replaced. -/
def fldSet (w : Word) (f : Fld) (v : Nat) : Word :=
  (w &&& ~~~(Fld.ones f <<< f.lo)) ||| ((BitVec.ofNat 32 v &&& Fld.ones f) <<< f.lo)

/-- Read a field of a register. -/
def getF (s : State) (f : Fld) : Nat := fldGet (getR s f.off) f

/-- Write a field of a register, leaving its other bits. -/
def setF (s : State) (f : Fld) (v : Nat) : State := setR s f.off (fldSet (getR s f.off) f v)

/-- Whether a one-bit field is set. -/
def isF (s : State) (f : Fld) : Bool := getF s f == 1

/-- Write a one-bit field from a truth value. -/
def putF (s : State) (f : Fld) (b : Bool) : State := setF s f (if b then 1 else 0)

/-- Saturating addition on 32 bits (R9, and the counters of every chapter). -/
def satAdd (w : Word) (n : Nat) : Word := BitVec.ofNat 32 (min (w.toNat + n) 0xFFFFFFFF)

/-- Count `n` in a saturating counter register. -/
def bump (s : State) (o : Nat) (n : Nat := 1) : State := setR s o (satAdd (getR s o) n)

/-- Whether bit `b` of a word is set. -/
def wbit (w : Word) (b : Nat) : Bool := w.getLsbD b

/-- A word with bit `b` set or cleared. -/
def wput (w : Word) (b : Nat) (v : Bool) : Word :=
  if v then w ||| (1 <<< b) else w &&& ~~~((1 : Word) <<< b)

/-- Send something outside. -/
def emit (s : State) (o : Out) : State := { s with out := s.out ++ [o] }

/-! ### Free values -/

/-- Take the next free-value index. -/
def nextFree (s : State) : State := { s with free := s.free + 1 }

/-- Take the next `n` free-value indices. -/
def nextFrees (s : State) (n : Nat) : State := { s with free := s.free + n }

/-- `n` bytes that the spec leaves open, from the next free values; the caller takes them with `nextFrees`. -/
def freeList (s : State) (n : Nat) : List Byte :=
  (List.range n).map (fun i => (Config.freeWord (s.free + i)).setWidth 8)

/-! ### Functions (R421, R423, R428) -/

/-- Whether the device is a UA-2048A-E (R3, R449). -/
def modelA (s : State) : Bool := getF s F.ID_DEVICE_ORDER == 0

/-- Whether function `f` exists on this device (R428). -/
def fnPresent (s : State) (f : Nat) : Bool :=
  fnAssigned.contains f && (modelA s || !(decide (0x30 ≤ f) && decide (f ≤ 0x3F)))

/-- `FN_CTL.STATE` codes (R421). -/
def fnDisabled : Nat := 0
def fnEnabled : Nat := 1
def fnStopping : Nat := 2
def fnFaulted : Nat := 3

def fnState (s : State) (f : Nat) : Nat := getF s (F.FN_CTL_STATE f)
def fnOn (s : State) (f : Nat) : Bool := fnState s f == fnEnabled
def fnBusy (s : State) (f : Nat) : Bool := isF s (F.FN_CTL_BUSY f)

/-- Set a function's state; ENABLE reads 1 while it is enabled or faulted (R421). -/
def setFn (s : State) (f st : Nat) : State :=
  putF (setF s (F.FN_CTL_STATE f) st) (F.FN_CTL_ENABLE f) (st == fnEnabled || st == fnFaulted)

/-- The enabled Ethernet port with role `r` (R232), as a port number 0 to 3. -/
def portOfRole (s : State) (r : Nat) : Option Nat :=
  (List.range 4).find? (fun p => fnOn s (p + 1) && getF s (F.ETH_CFG_ROLE (p + 1)) == r)

/-- Whether the engine, function 0x40, is disabled (R54, R125). -/
def engineOff (s : State) : Bool := fnState s 0x40 == fnDisabled

/-- Pair roles (R346). -/
def roleOff : Nat := 0
def roleSolo : Nat := 1
def roleWitness : Nat := 2
def roleStandby : Nat := 3
def roleActive : Nat := 4

def roleOf (s : State) : Nat := getF s F.PAIR_STAT_ROLE

/-- Whether the role is unpaired: OFF, SOLO or WITNESS (R346). -/
def unpaired (s : State) : Bool := decide (roleOf s ≤ 2)

/-- Whether the output guard acts (R21). -/
def guarded (s : State) : Bool := isF s F.PAIR_STAT_GUARD

/-- A 32-bit word as a signed number. -/
def sgn (w : Word) : Int := w.toInt

/-- A signed number as a 32-bit word. -/
def ofInt (i : Int) : Word := BitVec.ofInt 32 i

/-! ### Interrupts (R452, R453) -/

/-- Send or hold the message for bit `b`: a masked MSI-X vector holds it in the pending-bit array (R453). -/
def sendIrq (s : State) (b : Nat) : State :=
  let s := { s with host := { s.host with irqOut := s.host.irqOut ||| (1 <<< b) } }
  if isF s F.HL_STAT_MSIX && wbit (getR s (R.MSIX_TABLE (4 * b + 3))) 0 then
    setR s (R.MSIX_PBA 0) (wput (getR s (R.MSIX_PBA 0)) b true)
  else emit s (.irq b)

/-- A source sets status bit `b` (R452); the message follows R453. -/
def raiseIrq (s : State) (b : Nat) : State :=
  let s := setR s R.IRQ_STATUS (wput (getR s R.IRQ_STATUS) b true)
  if wbit (getR s R.IRQ_ENABLE) b && !(s.host.irqOut.getLsbD b) then sendIrq s b else s

/-! ### Sticky faults (R476 to R478) -/

/-- The UNMASKED field that the class registers and masks give (R477). -/
def unmaskedOf (s : State) : Nat :=
  ((List.range' 1 14).map (fun c =>
    if (getR s (R.SFAULT c) &&& ~~~(getR s (R.SFAULT_MASK c))) = 0 then 0 else 2 ^ (c - 1))).sum

/-- The RAW field that the class registers give (R477). -/
def rawOf (s : State) : Nat :=
  ((List.range' 1 14).map (fun c => if getR s (R.SFAULT c) = 0 then 0 else 2 ^ (c - 1))).sum

/-- The value of `SFAULT_SUM` that the class registers and masks give (R477). -/
def faultSum (s : State) : Word :=
  BitVec.ofNat 32 (unmaskedOf s * 2 + (if unmaskedOf s = 0 then 0 else 0x8000) + rawOf s * 0x20000)

/-- Bring `SFAULT_SUM` up to date after a class register or a mask changed. A bit of UNMASKED that rises raises
`IRQ_STATUS[12]` (R477) and, with `TWT_CFG.ALERT_EN`, drives `TWT_ALERT_N` low (R517). -/
def refreshFaults (s : State) : State :=
  let was := getF s F.SFAULT_SUM_UNMASKED
  let now := unmaskedOf s
  let s := setR s R.SFAULT_SUM (faultSum s)
  if BitVec.ofNat 14 now &&& ~~~(BitVec.ofNat 14 was) = 0 then s
  else
    let s := if fnOn s 0x5A && isF s F.TWT_CFG_ALERT_EN then setF s F.TWT_STAT_ALERT 1 else s
    raiseIrq s 12

/-- The hardware sets bits `m` of the sticky fault register of class `c` (R476). -/
def setFaults (s : State) (c : Nat) (m : Word) : State :=
  refreshFaults (setR s (R.SFAULT c) (getR s (R.SFAULT c) ||| m))

/-- The hardware sets bit `b` of the sticky fault register of class `c` (R476). -/
def setFault (s : State) (c b : Nat) : State := setFaults s c (1 <<< b)

/-! ### Event intake (R479 to R484) -/

/-- Severities (R481). -/
def sevTrace : Nat := 0
def sevInfo : Nat := 1
def sevNotice : Nat := 2
def sevWarning : Nat := 3
def sevError : Nat := 4
def sevSevere : Nat := 5
def sevCritical : Nat := 6
def sevFatal : Nat := 7

/-- The severity limits in force: the block's while function 0x50 is enabled, else the reset values (R495). -/
def logMinSev (s : State) : Nat := if fnOn s 0x50 then getF s F.LOG_CFG_MIN_SEV else 0
def logGaspSev (s : State) : Nat := if fnOn s 0x50 then getF s F.LOG_CFG_GASP_SEV else 6

/-- Arguments packed into bytes 22 to 29 of a record (R479). -/
def packArgs (a : List Byte) : BitVec 64 := BitVec.ofNat 64 (leVal (a.take 8))

/-- Whether an offered event equals record `r` and falls within 96,000 sp of its first occurrence (R483). -/
def mergesWith (e r : Rec) : Bool :=
  r.code == e.code && r.source == e.source && r.args == e.args && decide ((e.first - r.first).toNat < 96000)

/-- A record after one more occurrence (R483). -/
def mergeInto (e r : Rec) : Rec :=
  { r with rep := BitVec.ofNat 16 (min (r.rep.toNat + 1) 65535), merged := true, last := e.first.setWidth 32 }

/-- Merge into the youngest matching entry of the FIFO, if one matches; `fifo` is oldest first. -/
def mergeFifo (e : Rec) (fifo : List Rec) : Option (List Rec) :=
  match fifo with
  | [] => none
  | r :: t =>
    match mergeFifo e t with
    | some t' => some (r :: t')
    | none => if mergesWith e r then some (mergeInto e r :: t) else none

/-- The content a written record has or will have after its pending rewrite. -/
def recNow (l : Recorder) (bank : Bool) (slot : Nat) (r : Rec) : Rec :=
  match l.rewrites.find? (fun w => w.bank == bank && w.slot == slot) with
  | some w => w.content
  | none => r

/-- The written records an event may merge with, with their slots: the 32 most recently written, or the bank's records
while the log memory has failed (R483, R492). -/
def mergeCandidates (s : State) : List (Bool × Nat × Rec) :=
  if getF s F.LOG_STAT_STATE = 0 then
    s.log.recent.filterMap (fun k =>
      (s.log.slots.find? (fun c => c.1 == k)).map (fun c => (false, k, recNow s.log false k c.2)))
  else s.log.bank.map (fun c => (true, c.1, recNow s.log true c.1 c.2))

/-- The candidate of highest SEQ that an event matches (R483). -/
def bestMatch (e : Rec) (cs : List (Bool × Nat × Rec)) : Option (Bool × Nat × Rec) :=
  cs.foldl (fun b c =>
    if mergesWith e c.2.2 then
      match b with
      | none => some c
      | some x => if x.2.2.seq.toNat < c.2.2.seq.toNat then some c else some x
    else b) none

/-- The lowest severity in the FIFO. -/
def lowestSev (fifo : List Rec) : Nat := fifo.foldl (fun m r => min m r.sev) 7

/-- Remove the youngest entry of severity `v`; `none` where there is none. -/
def dropYoungest (v : Nat) (fifo : List Rec) : Option (List Rec) :=
  match fifo with
  | [] => none
  | r :: t =>
    match dropYoungest v t with
    | some t' => some (r :: t')
    | none => if r.sev = v then some t else none

/-- Count an event of severity `v` dropped at the full FIFO (R484). -/
def countDrop (s : State) (v : Nat) : State :=
  let s := setFault (bump s (R.LOG_DROP v)) 9 1
  let d : DropSummary :=
    match s.log.summary with
    | none => ⟨1, v, v, s.sctr.setWidth 32⟩
    | some d => ⟨min (d.count + 1) 65535, min d.lowest v, max d.highest v, d.first⟩
  { s with log := { s.log with summary := some d } }

/-- Keep `LOG_STAT.FIFO_FULL` and FIFO_HWM up to date with the FIFO (R496). -/
def refreshFifo (s : State) : State :=
  let n := s.log.fifo.length
  setF (putF s F.LOG_STAT_FIFO_FULL (decide (32 ≤ n))) F.LOG_STAT_FIFO_HWM
    (max (getF s F.LOG_STAT_FIFO_HWM) (min n 31))

/-- Put a new record at the tail of the intake FIFO, or drop one entry at a full FIFO (R484). -/
def enqueue (s : State) (e : Rec) : State :=
  if s.log.fifo.length < 32 then
    refreshFifo { s with log := { s.log with fifo := s.log.fifo ++ [e] } }
  else
    let v := lowestSev s.log.fifo
    if v < e.sev then
      match dropYoungest v s.log.fifo with
      | some f => refreshFifo (countDrop { s with log := { s.log with fifo := f ++ [e] } } v)
      | none => s
    else countDrop s e.sev

/-- The intake takes an event whose record would be `e` (R482, R483). -/
def offer (s : State) (e : Rec) : State :=
  if e.sev < logMinSev s then s
  else
    match mergeFifo e s.log.fifo with
    | some f => bump { s with log := { s.log with fifo := f } } R.LOG_MERGES
    | none =>
      match bestMatch e (mergeCandidates s) with
      | some (bank, k, r) =>
        let marked := s.log.rewrites.any (fun w => w.bank == bank && w.slot == k)
        let ws := if marked then
            s.log.rewrites.map (fun w => if w.bank == bank && w.slot == k then { w with content := mergeInto e r } else w)
          else s.log.rewrites ++ [⟨bank, k, mergeInto e r, s.log.fifo.length⟩]
        bump { s with log := { s.log with rewrites := ws } } R.LOG_MERGES
      | none => enqueue s e

/-- Log an event at fraction `frac` of the current sp (R482). -/
def logAt (s : State) (frac : BitVec 16) (code source sev : Nat) (args : List Byte) : State :=
  offer s { seq := 0, first := s.sctr.setWidth 48, frac := frac, code := BitVec.ofNat 16 code,
            source := BitVec.ofNat 8 source, sev := sev, merged := false, gasp := false, rep := 1,
            last := s.sctr.setWidth 32, args := packArgs args }

/-- The sub-sp fraction of ENG cycle `c` (R31). -/
def fracOf (c : Nat) : BitVec 16 := BitVec.ofNat 16 (c * 65536 / 10240)

/-- The fraction of an ENG cycle that the command does not carry: the cycle is a free value (log entry 5). -/
def freeFrac (s : State) : BitVec 16 := fracOf (Config.freeCycle s.free % 10240)

/-- Log an event whose ENG cycle the command does not carry: its fraction is a free value (log entry 5). -/
def logEv (s : State) (code source sev : Nat) (args : List Byte) : State :=
  logAt (nextFree s) (freeFrac s) code source sev args

/-! ### CRCs -/

/-- One bit step of a CRC-16 with polynomial 0x1021, not reflected. -/
def crc16Bit (r : BitVec 16) : BitVec 16 := if r.getLsbD 15 then (r <<< 1) ^^^ 0x1021 else r <<< 1

/-- The CRC-16 of R480 over a byte list, from register value `r`. -/
def crc16From (r : BitVec 16) : List Byte → BitVec 16
  | [] => r
  | b :: t =>
    let x := r ^^^ (b.setWidth 16 <<< 8)
    crc16From (crc16Bit (crc16Bit (crc16Bit (crc16Bit (crc16Bit (crc16Bit (crc16Bit (crc16Bit x)))))))) t

/-- The CRC of a record's first 30 bytes (R480). -/
def crc16 (p : List Byte) : BitVec 16 := crc16From 0xFFFF p

/-- The first 30 bytes of a record (R479). -/
def recBody (r : Rec) : List Byte :=
  le 4 r.seq.toNat ++ le 6 r.first.toNat ++ le 2 r.frac.toNat ++ le 2 r.code.toNat ++ [r.source] ++
  [BitVec.ofNat 8 (r.sev % 8 + (if r.merged then 8 else 0) + (if r.gasp then 16 else 0))] ++
  le 2 r.rep.toNat ++ le 4 r.last.toNat ++ le 8 r.args.toNat

/-- The 32 bytes of a record, its CRC recomputed (R479, R480). -/
def recBytes (r : Rec) : List Byte := recBody r ++ le 2 (crc16 (recBody r)).toNat

/-- One bit step of the reflected CRC-32C. -/
def crc32cBit (r : Word) : Word := if r.getLsbD 0 then (r >>> 1) ^^^ 0x82F63B78 else r >>> 1

/-- The CRC-32C register after a byte list. -/
def crc32cFrom (r : Word) : List Byte → Word
  | [] => r
  | b :: t =>
    let x := r ^^^ b.setWidth 32
    crc32cFrom (crc32cBit (crc32cBit (crc32cBit (crc32cBit (crc32cBit (crc32cBit (crc32cBit (crc32cBit x)))))))) t

/-- The CRC-32C of R137 over a byte list. -/
def crc32c (p : List Byte) : Word := ~~~(crc32cFrom 0xFFFFFFFF p)

end Sys2Proof.Machine
end

