-- ==== Sys2Proof/Machine/Matrix.lean ====
section
/-! DEFINITION. The arbitration of the bus matrix (R467, R468). -/

namespace Sys2Proof.Machine

/-- A request that has not been served whole: its master, the FAB cycle since which it waits, and what is left of its burst, with
whether the burst was longer than 16 beats as requested. -/
structure BusWait where
  master : Nat
  since : Nat
  addr : Nat
  beats : Nat
  long : Bool
  deriving DecidableEq, Repr

/-- A piece granted: its master, address and beats, and the FAB cycle in which it starts. -/
structure BusGrant where
  master : Nat
  addr : Nat
  beats : Nat
  start : Nat
  deriving DecidableEq, Repr

/-- The beats of the next piece: a burst longer than 16 beats is split at every 256-byte address boundary. -/
def pieceBeats (w : BusWait) : Nat := if w.long then min w.beats ((256 - w.addr % 256 + 15) / 16) else w.beats

/-- The pieces a request needs at most. -/
def pieceCount (q : BusReq) : Nat := q.beats / 16 + 2

/-- The QoS of a request at cycle `now`: 15 once it has waited `BM_AGE` cycles, of which values below 16 act as 16. -/
def busQos (s : State) (now : Nat) (w : BusWait) : Nat :=
  if max 16 (getF s F.BM_AGE_CYCLES) ≤ now - w.since then 15 else (getR s R.BM_QOS).toNat / 16 ^ w.master % 16

/-- How far master `m` stands behind the one granted last, in the round robin: the next one first. -/
def robinRank (last m : Nat) : Nat := (m + 7 - last) % 8

/-- The cycle from which a request can be granted: its own for the master the target is parked on, else the next. -/
def readyAt (last : Nat) (w : BusWait) : Nat := if w.master = last then w.since else w.since + 1

/-- Whether `a` is granted before `b` at cycle `now`: the higher effective QoS, then the round robin, then the older request. -/
def granted (s : State) (last now : Nat) (a b : BusWait) : Bool :=
  let x := busQos s now a
  let y := busQos s now b
  decide (y < x) || (x == y && (decide (robinRank last a.master < robinRank last b.master) ||
    (a.master == b.master && decide (a.since ≤ b.since))))

/-- The request granted at cycle `now` among those that can be. -/
def grantNow (s : State) (last now : Nat) (l : List BusWait) : Option BusWait :=
  (l.filter (fun w => decide (readyAt last w ≤ now))).foldl (fun b w =>
    match b with
    | some x => if granted s last now x w then b else some w
    | none => some w) none

/-- The rest of a burst after its next piece: it waits anew from the end of that piece. -/
def afterPiece (w : BusWait) (stop : Nat) : List BusWait :=
  let n := pieceBeats w
  if w.beats ≤ n then [] else [{ w with since := stop, addr := w.addr + 16 * n, beats := w.beats - n }]

/-- The pieces granted from cycle `now` on, and the master the target parks on at last. An idle target waits for the first request that
can be granted. -/
def busRun (s : State) : Nat → Nat → Nat → List BusWait → List BusGrant × Nat
  | 0, last, _, _ => ([], last)
  | k + 1, last, now, l =>
    match l.map (readyAt last) with
    | [] => ([], last)
    | r :: t =>
      let now := max now (t.foldl min r)
      match grantNow s last now l with
      | none => ([], last)
      | some w =>
        let stop := now + max 1 (pieceBeats w)
        let x := busRun s k w.master stop (l.erase w ++ afterPiece w stop)
        (⟨w.master, w.addr, pieceBeats w, now⟩ :: x.1, x.2)

/-- A request as it begins to wait. -/
def busWait (q : BusReq) : BusWait := ⟨q.master.val, q.at_, q.addr, q.beats, decide (16 < q.beats)⟩

/-- The schedule of target `t` for the requests `l`, from the master it is parked on. -/
def schedule (s : State) (t : Nat) (l : List BusReq) : List BusGrant × Nat :=
  busRun s ((l.map pieceCount).sum) (s.host.parked.getD t 0) 0 (l.map busWait)

/-- The target serves the requests: the pieces it carries, and the master it parks on at last. -/
def arbitrate (s : State) (t : Nat) (l : List BusReq) : State :=
  let x := schedule s t l
  let s := x.1.foldl (fun s g => emit s (.bus t g.master g.addr g.beats g.start)) s
  { s with host := { s.host with parked := s.host.parked.setIfInBounds t x.2 } }

end Sys2Proof.Machine
end

