-- ==== Sys2Proof/Machine/Guard.lean ====
section
/-! DEFINITION. The output guard (R21, R353), the withdrawal of the outputs it and the STANDBY role bring about, and the FAULTED
state of the node (R534). -/

namespace Sys2Proof.Machine

/-! ### Power-stage channels (R335, R336) -/

/-- Channel states (R335). -/
def psOff : Nat := 0
def psQueued : Nat := 1
def psDiag : Nat := 2
def psFadeIn : Nat := 3
def psRunning : Nat := 4
def psPvddHold : Nat := 5
def psGroupHold : Nat := 6
def psShutdown : Nat := 7
def psLatched : Nat := 8
def psStopping : Nat := 9
def psObserving : Nat := 10
def psCal : Nat := 11

def pscState (s : State) (n : Nat) : Nat := getF s (F.PSC_STAT_STATE n)
def pscSetState (s : State) (n st : Nat) : State := setF s (F.PSC_STAT_STATE n) st

def pscCh (s : State) (n : Nat) : PscCh := s.psc.ch.getD n PscCh.reset

def setPsc (s : State) (n : Nat) (x : PscCh) : State := { s with psc := { s.psc with ch := s.psc.ch.setIfInBounds n x } }

/-- Drive or release `AMP_EN[g]` (R318, R341). -/
def setAmpEn (s : State) (g : Nat) (on : Bool) : State :=
  let s := { s with psc := { s.psc with en := s.psc.en.setIfInBounds g on } }
  (List.range 4).foldl (fun s j => putF s (F.PSC_STAT_EN (4 * g + j)) on) s

/-- Abort the running test and empty the queue: result 7 (R334). -/
def pscAbort (s : State) : State :=
  let hit := match s.psc.test with
    | some (l, _) => l
    | none => []
  let s := hit.foldl (fun s n => setF s (F.PSC_STAT_DIAG_RESULT n) 7) s
  let s := (hit ++ s.psc.queue).foldl (fun s n =>
    match (pscCh s n).back with
    | some st => setPsc (pscSetState s n st) n { pscCh s n with back := none }
    | none => s) s
  { s with psc := { s.psc with queue := [], test := none } }

/-- Channel `n` no longer drives: it observes if it is enabled, on a STANDBY even where it was latched; a fade-out goes on in the dark, and
a calibration on return observes (R335, R336). -/
def pscDark (s : State) (n : Nat) : State :=
  let st := pscState s n
  let x := pscCh s n
  if (1 ≤ st ∧ st ≤ 7) ∨ (st = psLatched ∧ roleOf s = roleStandby) then
    setPsc (pscSetState s n psObserving) n { x with seenAt := none, limNow := false, win := [] }
  else if st = psStopping then setPsc s n { x with dark := true }
  else if st = psCal ∧ x.calBack = psQueued then setPsc s n { x with calBack := psObserving }
  else s

/-- The power stage's balls go to high impedance (R335, R336). -/
def pscObserve (s : State) : State :=
  let s := pscAbort s
  let s := (List.range 4).foldl (fun s g => setAmpEn s g false) s
  (List.range 16).foldl pscDark s

/-- Serial data outputs go to high impedance, and on a STANDBY the shared clocks (R310). -/
def sapWithdraw (s : State) : State :=
  let standby := roleOf s == roleStandby
  (List.range 16).foldl (fun s n =>
    let f := 0x10 + n
    let clocks := !isF s (F.SAP_CFG_FOLLOWER f) && decide (2 ≤ getF s (F.SAP_STAT_PHASE n)) &&
      (isF s (F.SAP_CFG_PAIR_CLK f) || !standby)
    let s := { s with sap := s.sap.setIfInBounds n { s.sap.getD n SapPort.reset with curDrive := false, curClk := clocks } }
    putF s (F.SAP_STAT_DRIVING n) clocks) s

/-- The outputs of R21 go to high impedance. -/
def withdrawOutputs (s : State) : State := sapWithdraw (pscObserve s)

/-- The output guard acts: every output it names is at high impedance while `PAIR_STAT.GUARD` is 1 (R21). -/
def guardAct (s : State) : State := withdrawOutputs (setF s F.PAIR_STAT_GUARD 1)

/-! ### Node faults -/

/-- The node enters FAULTED with a cause (R534, R542). -/
def enterFaulted (s : State) (cause : Nat) : State :=
  setF (setF s F.NODE_STAT_STATE 5) F.NODE_STAT_FAULT_CAUSE cause

/-- Whether the node is in BOOT, READY or RUNNING (R534). -/
def nodeAlive (s : State) : Bool :=
  decide (1 ≤ getF s F.NODE_STAT_STATE) && decide (getF s F.NODE_STAT_STATE ≤ 3)

end Sys2Proof.Machine
end

