-- ==== Sys2Proof/Machine/Mailbox.lean ====
section
/-! DEFINITION. Serving a mailbox request: the channel's state machine (R412), the request and response layouts (R414,
R415), the order of the checks (R417) and the order in which the CP takes channels (R418). -/

namespace Sys2Proof.Machine

/-- `MB_STAT.STATE` codes (R412). -/
def mbIdle : Nat := 0
def mbPending : Nat := 1
def mbRunning : Nat := 2
def mbDone : Nat := 3

/-- `CP_STAT.CP_STATE` codes (R438). -/
def cpIsRunning (s : State) : Bool := getF s F.CP_STAT_CP_STATE == 0
def cpRestarting (s : State) : Bool := getF s F.CP_STAT_CP_STATE == 1
def cpIsHalted (s : State) : Bool := getF s F.CP_STAT_CP_STATE == 2

/-- BAR0 offsets of a channel's areas (R411). -/
def mbReqArea (c : Nat) : Nat := 0x1000 + 0x400 * c
def mbRspArea (c : Nat) : Nat := 0x1200 + 0x400 * c

/-- A request (R414). -/
structure Req where
  ch : Nat
  opcode : Nat
  tag : Nat
  len : Nat
  flags : Nat
  fn : Nat
  reserved : Nat
  applyAt : Nat
  payload : List Byte
  deriving DecidableEq, Repr

/-- Read the request area of channel `c` (R414). -/
def reqOf (s : State) (c : Nat) : Req :=
  let h := memGetList s.cp.mbx (mbReqArea c) 16
  let len := leAt h 4 2
  { ch := c, opcode := leAt h 0 2, tag := leAt h 2 2, len := len, flags := leAt h 6 2, fn := leAt h 8 1,
    reserved := leAt h 9 3, applyAt := leAt h 12 4,
    payload := memGetList s.cp.mbx (mbReqArea c + 16) (min len 496) }

/-- A response status and what goes with it (R415). -/
inductive Reply where
  /-- OK with this payload -/
  | ok (payload : List Byte)
  /-- REFUSED with this code and detail -/
  | refused (code detail : Nat)
  /-- MALFORMED with this code and the offset of the first offending field -/
  | malformed (code detail : Nat)
  /-- UNSUPPORTED with this code -/
  | unsupported (code : Nat)
  /-- BUSY with this detail -/
  | busy (detail : Nat)
  /-- no response yet: the command waits on hardware and its channel stays RUNNING -/
  | later
  deriving DecidableEq, Repr

def Reply.status : Reply → Nat
  | .ok _ => 0
  | .refused _ _ => 1
  | .busy _ => 2
  | .malformed _ _ => 3
  | .unsupported _ => 4
  | .later => 0

def Reply.code : Reply → Nat
  | .refused c _ => c
  | .malformed c _ => c
  | .unsupported c => c
  | _ => 0

def Reply.detail : Reply → Nat
  | .refused _ d => d
  | .malformed _ d => d
  | .busy d => d
  | _ => 0

def Reply.payload : Reply → List Byte
  | .ok p => p
  | _ => []

/-- The bytes of a response (R415). -/
def respBytes (status code tag detail : Nat) (payload : List Byte) : List Byte :=
  le 2 status ++ le 2 code ++ le 2 tag ++ le 2 payload.length ++ le 4 detail ++ payload

/-- The channel becomes DONE with a response of these fields, written by the hardware if `hw`; the completion interrupt follows
the request's IRQ flag (R412). -/
def finishWith (s : State) (c status code detail : Nat) (payload : List Byte) (hw : Bool) : State :=
  let q := reqOf s c
  let s := { s with cp := { s.cp with mbx := memSetList s.cp.mbx (mbRspArea c) (respBytes status code q.tag detail payload),
                                      committed := s.cp.committed.filter (· != c) } }
  let s := putF (setF s (F.MB_STAT_STATE c) mbDone) (F.MB_STAT_HW_ANSWER c) hw
  let s := setR s (R.MB_DONE_SCTR c) (s.sctr.setWidth 32)
  if q.flags % 2 = 1 then raiseIrq s c else s

/-- The channel becomes DONE with a response (R412). -/
def finish (s : State) (c : Nat) (r : Reply) (hw : Bool) : State := finishWith s c r.status r.code r.detail r.payload hw

/-- The channel the CP takes next: round robin from the one after the last taken (R418). -/
def nextChannel (s : State) : Option Nat :=
  ((List.range 8).map (fun i => (s.cp.lastTaken + 1 + i) % 8)).find? (fun c => getF s (F.MB_STAT_STATE c) == mbPending)

/-- The CP takes channel `c`: it is RUNNING and the acceptance is recorded (R412, R413). -/
def accept (s : State) (c : Nat) : State :=
  setR (setF { s with cp := { s.cp with lastTaken := c } } (F.MB_STAT_STATE c) mbRunning)
    (R.MB_ACCEPT_SCTR c) (s.sctr.setWidth 32)

/-- The first of the checks of R417 that a request fails before its command's own, but for BUSY and an undefined opcode.
`lenOk` says which lengths the command defines, `anyFn` that FUNCTION names its target (R416). -/
def headerCheck (s : State) (q : Req) (lenOk : Nat → Bool) (anyFn : Bool) : Option Reply :=
  if q.flags / 2 ≠ 0 then some (.malformed 0x0121 6)
  else if q.reserved ≠ 0 then some (.malformed 0x0121 9)
  else if 496 < q.len ∨ !lenOk q.len then some (.malformed 0x0120 4)
  else if !anyFn ∧ q.fn ≠ 0 then some (.malformed 0x0123 8)
  else if anyFn ∧ !fnPresent s q.fn then some (.unsupported 0x0124)
  else none

/-- Whether the CP takes channel `c` now and its request is of opcode `op`. -/
def canServe (s : State) (c op : Nat) : Bool :=
  cpIsRunning s && nextChannel s == some c && (reqOf s c).opcode == op

/-- Serve the request of channel `c` with the command of opcode `op`. `body` answers steps 6 to 8 of R417 with the state
and the reply. Where the CP does not take this channel, or the channel holds another command, nothing happens (log
entry 3). -/
def serve (s : State) (c op : Nat) (lenOk : Nat → Bool) (anyFn : Bool) (body : State → Req → State × Reply) : State :=
  if canServe s c op then
    let s := accept s c
    let q := reqOf s c
    match headerCheck s q lenOk anyFn with
    | some r => finish s c r false
    | none =>
      let (s, r) := body s q
      match r with
      | .later => s
      | r => finish s c r false
  else s

/-- Mark the command of channel `c` as committed (R413). -/
def commit (s : State) (c : Nat) : State :=
  { s with cp := { s.cp with committed := c :: s.cp.committed.filter (· != c) } }

/-- Answer a channel that waits RUNNING, at the end of its wait; during a CP restart the response waits for the CP (R413). -/
def answer (s : State) (c : Option Nat) (r : Reply) : State :=
  match c with
  | none => s
  | some c =>
    if getF s (F.MB_STAT_STATE c) ≠ mbRunning then s
    else if cpIsRunning s then finish s c r false
    else { s with cp := { s.cp with late := s.cp.late ++ [(c, r.status, r.code, r.detail, r.payload)] } }

/-- The restarted CP writes the responses that waited for it (R413). -/
def answerLate (s : State) : State :=
  s.cp.late.foldl (fun s x => finishWith s x.1 x.2.1 x.2.2.1 x.2.2.2.1 x.2.2.2.2 false) { s with cp := { s.cp with late := [] } }

/-- The opcodes of the class chapters (R417, step 2). -/
def opcodes : List Nat :=
  [0x0101, 0x0102, 0x0103, 0x0104, 0x0105, 0x0106, 0x0107, 0x0201, 0x0202, 0x0301, 0x0302, 0x0303, 0x0304, 0x0305, 0x0306,
   0x0401, 0x0402, 0x0501, 0x0502, 0x0503, 0x0504, 0x0601, 0x0602, 0x0603, 0x0604, 0x0605, 0x0606, 0x0607, 0x0608, 0x0609,
   0x06F0, 0x06F1, 0x0701, 0x0702, 0x0703, 0x0801, 0x0802, 0x0803, 0x0804, 0x0805, 0x0806, 0x0807, 0x0901, 0x0902, 0x0903,
   0x0A01, 0x0A02, 0x0B01, 0x0B02, 0x0B03, 0x0C01, 0x0C02, 0x0C03, 0x0C04, 0x0C05, 0x0C06, 0x0C07, 0x0C08, 0x0C09, 0x0C0A,
   0x0C0B, 0x0C0C, 0x0C0D, 0x0D01, 0x0D02, 0x0E01]

/-- Whether the host may write the request area of channel `c`: it is IDLE or DONE (R411). -/
def mbUnlocked (s : State) (c : Nat) : Bool :=
  getF s (F.MB_STAT_STATE c) == mbIdle || getF s (F.MB_STAT_STATE c) == mbDone

/-- A doorbell or request write is ignored (R412): `what` 1 doorbell, 2 request write. -/
def mbProtocol (s : State) (c what : Nat) : State :=
  setFault (logEv s 0x0168 0x00 sevWarning (le 1 c ++ le 1 what)) 1 4

end Sys2Proof.Machine
end

