-- ==== Sys2Proof/Machine/Clock.lean ====
section
/-! DEFINITION. Clocks, time base and reference selection (chapter 02): the reference monitors and their states, the
selector, the stages of the DPLL, phase steps, output offsets, and the meanings of their commands. The loop filter and the
phase detector stand outside: their values arrive with the commands (notes/assumptions/9.md). -/

namespace Sys2Proof.Machine

/-! ### Codes and accessors -/

/-- Slot states (R38). -/
def refUnused : Nat := 0
def refAbsent : Nat := 1
def refMonitoring : Nat := 2
def refWait : Nat := 3
def refAvailable : Nat := 4
def refDisqualified : Nat := 5

/-- DPLL stages (R46). -/
def stFreerun : Nat := 0
def stAcquire : Nat := 1
def stSettle : Nat := 2
def stTrack : Nat := 3
def stHoldover : Nat := 4

/-- Time-base states (R32). -/
def timeUnset : Nat := 0
def timeFree : Nat := 1
def timeTimed : Nat := 2

/-- The state field of slot `i` in `REF_STATE`. -/
def refField (i : Nat) : Fld := ⟨R.REF_STATE, 4 * i, 4⟩

def refState (s : State) (i : Nat) : Nat := getF s (refField i)

/-- What the model holds of slot `i` beside its registers. -/
def refSlot (s : State) (i : Nat) : RefSlot := s.clock.slots.getD i RefSlot.reset

def setRefSlot (s : State) (i : Nat) (x : RefSlot) : State :=
  { s with clock := { s.clock with slots := s.clock.slots.setIfInBounds i x } }

def refType (s : State) (i : Nat) : Nat := getF s (F.REF_CFG_TYPE i)

/-- Whether slot `i` is time-bearing: a PTP instance, or type 5 once a second is named (R32, R35). -/
def timeBearing (s : State) (i : Nat) : Bool :=
  refType s i == 1 || refType s i == 2 || (refType s i == 5 && s.clock.timeSet.isSome)

/-- The quality level an announced clockClass gives (R37). -/
def qlOfClass (c : Nat) : Nat :=
  if c = 6 then 2 else if c = 7 then 3 else if c = 52 ∨ c = 187 then 5 else if c = 248 then 8
  else if c = 255 then 15 else 10

def ptpInst (s : State) (i : Nat) : PtpInst := s.clock.ptp.getD i PtpInst.reset

def setPtpInst (s : State) (i : Nat) (x : PtpInst) : State :=
  { s with clock := { s.clock with ptp := s.clock.ptp.setIfInBounds i x } }

/-- The quality level of slot `i` (R37). -/
def slotQl (s : State) (i : Nat) : Nat :=
  if (refType s i = 1 ∨ refType s i = 2) ∧ isF s (F.REF_CFG_QL_AUTO i) then
    qlOfClass (ptpInst s (refType s i - 1)).cls
  else getF s (F.REF_CFG_QL i)

/-- Whether slot `i` ranks above slot `j`: quality level first, then priority (R36). -/
def outranks (s : State) (i j : Nat) : Bool :=
  decide (slotQl s i < slotQl s j) ||
  (slotQl s i == slotQl s j && decide (getF s (F.REF_CFG_PRIORITY i) < getF s (F.REF_CFG_PRIORITY j)))

/-- Whether the selector may choose slot `i`: AVAILABLE, better than level 15, not held back, and the forced slot where one
is forced (R36, R37, R55). -/
def selectable (s : State) (i : Nat) : Bool :=
  refState s i == refAvailable && decide (slotQl s i < 15) && !(refSlot s i).blocked &&
  (!isF s F.DPLL_CFG_FORCE || getF s F.DPLL_CFG_FORCE_SLOT == i)

/-- The best slot the selector may choose. -/
def bestSlot (s : State) : Option Nat :=
  (List.range 8).foldl (fun b i =>
    if selectable s i then
      match b with
      | none => some i
      | some j => if outranks s i j then some i else some j
    else b) none

def selValid (s : State) : Bool := isF s F.DPLL_STAT_SEL_VALID
def selSlot (s : State) : Nat := getF s F.DPLL_STAT_SELECTED
def selIs (s : State) (i : Nat) : Bool := selValid s && selSlot s == i

/-- Log an event of the reference selector, function 0x20 (R66). -/
def clkEv (s : State) (code sev : Nat) (args : List Byte) : State := logEv s code 0x20 sev args

/-- The four bytes of a signed number. -/
def le32i (i : Int) : List Byte := le 4 (ofInt i).toNat

/-! ### Stages and slewing -/

/-- Enter a DPLL stage; a change is logged (R46). -/
def setStage (s : State) (st : Nat) : State :=
  let old := getF s F.DPLL_STAT_STAGE
  let s := setF s F.DPLL_STAT_STAGE st
  let s := if st = stTrack then { s with clock := { s.clock with everTrack := true } } else s
  if old = st then s else clkEv s 0x0567 sevInfo (le 1 old ++ le 1 st)

def slewRemain (s : State) : Int := sgn (getR s R.SLEW_REMAIN)
def slewing (s : State) : Bool := isF s F.TIME_STAT_SLEWING

/-- Give the slew a new remainder; zero ends it silently (R53). -/
def setSlew (s : State) (r : Int) : State :=
  let s := setR s R.SLEW_REMAIN (ofInt r)
  let s := { s with clock := { s.clock with slewAcc := 0 } }
  putF s F.TIME_STAT_SLEWING (r != 0)

/-- What one sp takes off a slew remainder `r`, with the fraction carried: whole ps and the new fraction (R53). -/
def slewStep (s : State) (r : Int) : Nat × Nat :=
  let n := getF s F.DPLL_CFG_SLEW * 10 ^ 12
  let d := 96000 * (if 0 < r then 10 ^ 6 - getF s F.DPLL_CFG_SLEW else 10 ^ 6 + getF s F.DPLL_CFG_SLEW)
  ((s.clock.slewAcc + n) / d, (s.clock.slewAcc + n) % d)

/-- The remainder after one more sp: never past zero (R53). -/
def slewTick (s : State) : State :=
  if !slewing s then s
  else
    let r := slewRemain s
    let (d, acc) := slewStep s r
    let left : Int := if r.natAbs ≤ d then 0 else if 0 < r then r - d else r + d
    let s := setR s R.SLEW_REMAIN (ofInt left)
    { s with clock := { s.clock with slewAcc := if left = 0 then 0 else acc } }

/-- TIMED becomes FREE when no time-bearing reference steers the grid any more (R32, R52). -/
def loseTime (s : State) : State :=
  if getF s F.TIME_STAT_SCTR_STATE = timeTimed then setF s F.TIME_STAT_SCTR_STATE timeFree else s

/-- The time error of the selected slot is gone: the time base is TIMED (R42). -/
def timeGained (s : State) : State :=
  if s.clock.timePending && selValid s && timeBearing s (selSlot s) then
    setF { s with clock := { s.clock with timePending := false } } F.TIME_STAT_SCTR_STATE timeTimed
  else s

/-! ### The selector (R36, R41 to R47, R55) -/

/-- A switch to slot `i` begins (R41, R42, R46, R54). It starts in SETTLE from FREERUN too, as the sentence under R46's table has it
(log entry 25), and leaves a slew that still runs running where the slot is phase-only (log entry 26). -/
def startSwitch (s : State) (i : Nat) : State :=
  let old := if selValid s then selSlot s else 0xFF
  let held := getF s F.DPLL_STAT_STAGE == stHoldover
  let s := clkEv s 0x0565 sevNotice (le 1 old ++ le 1 i)
  let s := if held then clkEv s 0x0569 sevNotice (le 1 i) else s
  let s := putF (setF (putF s F.DPLL_STAT_SEL_VALID true) F.DPLL_STAT_SELECTED i) F.DPLL_STAT_SWITCHING true
  let s := setStage s stSettle
  let e := (refSlot s i).phase
  if timeBearing s i then
    let s := { s with clock := { s.clock with buildOut := 0, timePending := true } }
    if e = 0 then timeGained (setSlew s 0)
    else if engineOff s then { setSlew s 0 with clock := { (setSlew s 0).clock with hardStep := some e } }
    else setSlew s e
  else loseTime { s with clock := { s.clock with buildOut := e, timePending := false } }

/-- The first `n` sp of a steering history, newest first. -/
def trimHist (n : Nat) : List (Int × Nat) → List (Int × Nat)
  | [] => []
  | x :: t => if n ≤ x.2 then (if n = 0 then [] else [(x.1, n)]) else x :: trimHist (n - x.2) t

/-- One more sp of steering `v`. -/
def pushHist (v : Int) : List (Int × Nat) → List (Int × Nat)
  | [] => [(v, 1)]
  | x :: t => if x.1 = v then (v, x.2 + 1) :: t else (v, 1) :: x :: t

/-- An sp ends: in TRACK its steering joins the history of the last 60 s spent there (R47). -/
def trackTick (s : State) : State :=
  if getF s F.DPLL_STAT_STAGE = stTrack then
    { s with clock := { s.clock with hist := trimHist 5760000 (pushHist (sgn (getR s R.FREQ_OFS)) s.clock.hist) } }
  else s

/-- The mean steering of the last 60 s spent in TRACK, rounded down (R47, log entry 32). -/
def heldSteering (s : State) : Int :=
  let n := (s.clock.hist.map (·.2)).sum
  if n = 0 then sgn (getR s R.FREQ_OFS) else (s.clock.hist.map (fun x => x.1 * (x.2 : Int))).sum / (n : Int)

/-- No slot can be selected: HOLDOVER, or FREERUN where TRACK was never reached (R45, R47). A slew that still runs goes on (log
entry 26). -/
def enterHoldover (s : State) : State :=
  let type5 := selValid s && refType s (selSlot s) == 5 && getF s F.DPLL_STAT_STAGE == stTrack
  let s := putF (putF s F.DPLL_STAT_SEL_VALID false) F.DPLL_STAT_SWITCHING false
  let s := loseTime { s with clock := { s.clock with timePending := false, heldType5 := type5 } }
  if s.clock.everTrack then
    let h := heldSteering s
    let s := setR (setStage s stHoldover) R.FREQ_OFS (ofInt h)
    setFault (clkEv s 0x0568 sevError (le32i h)) 5 1
  else
    let s := setR (setStage s stFreerun) R.FREQ_OFS 0
    setFault (clkEv s 0x056A sevError []) 5 1

/-- Whether choosing slot `i` would bring a time error above 1 ms into a live engine (R55). -/
def bigError (s : State) (i : Nat) : Bool :=
  timeBearing s i && !engineOff s && decide (10 ^ 9 < (refSlot s i).phase.natAbs)

/-- Slot `i` is held back (R55). -/
def blockSlot (s : State) (i : Nat) : State :=
  let x := refSlot s i
  let s := putF (setRefSlot s i { x with blocked := true }) F.TIME_STAT_TIME_BLOCKED true
  setFault (clkEv s 0x056B sevError (le 1 i ++ le 4 (x.phase.natAbs / 10 ^ 9))) 5 3

/-- The slot the selector names, after holding back those of R55. -/
def pickSlot (fuel : Nat) (s : State) : State × Option Nat :=
  match fuel with
  | 0 => (s, none)
  | n + 1 =>
    match bestSlot s with
    | none => (s, none)
    | some i => if selIs s i || !bigError s i then (s, some i) else pickSlot n (blockSlot s i)

/-- The selector decides again (R36, R43, R45, R47). While the CP does not run, only the hardware's holdover acts (R48). A selected
slot whose level rises to 15 is left, with REVERTIVE 0 too (log entry 31). -/
def reselect (s : State) : State :=
  let ok := selValid s && selectable s (selSlot s)
  if !cpIsRunning s then (if selValid s && !ok then enterHoldover s else s)
  else if ok then
    if isF s F.DPLL_STAT_SWITCHING || !isF s F.DPLL_CFG_REVERTIVE then s
    else
      let (s, b) := pickSlot 9 s
      match b with
      | some i => if selIs s i then s else startSwitch s i
      | none => s
  else
    let (s, b) := pickSlot 9 s
    match b with
    | some i => startSwitch s i
    | none => if selValid s then enterHoldover s else s

/-- The running switch ends when TRACK is reached with no slew left; a waiting slot is then taken (R41, R43). -/
def endSwitch (s : State) : State :=
  if isF s F.DPLL_STAT_SWITCHING && getF s F.DPLL_STAT_STAGE == stTrack && slewRemain s == 0 && s.clock.hardStep.isNone then
    reselect (clkEv (putF s F.DPLL_STAT_SWITCHING false) 0x0566 sevInfo (le 1 (selSlot s)))
  else s

/-- New phase measurements, where the command carries them. -/
def setPhases (s : State) (ph : List Int) : State :=
  (List.range 8).foldl (fun s i => setRefSlot s i { refSlot s i with phase := ph.getD i (refSlot s i).phase }) s

/-- A slot becomes AVAILABLE; while a switch to a worse slot runs it waits (R38, R43). -/
def becomeAvailable (s : State) (i : Nat) : State :=
  let s := setF s (refField i) refAvailable
  let s := setRefSlot s i { refSlot s i with ever := true, good := 0, bad := 0 }
  if isF s F.DPLL_STAT_SWITCHING && isF s F.DPLL_CFG_REVERTIVE && selectable s i && outranks s i (selSlot s) then
    clkEv s 0x0570 sevInfo (le 1 i)
  else s

/-- The engine is disabled: the blocks of R55 lift and the selector decides again. -/
def liftBlocks (s : State) : State :=
  if isF s F.TIME_STAT_TIME_BLOCKED then
    let s := (List.range 8).foldl (fun s i => setRefSlot s i { refSlot s i with blocked := false }) s
    reselect (putF s F.TIME_STAT_TIME_BLOCKED false)
  else s

/-! ### Monitoring (R38 to R40) -/

/-- Insertion into an ascending list. -/
def insAsc (x : Int) : List Int → List Int
  | [] => [x]
  | y :: t => if x ≤ y then x :: y :: t else y :: insAsc x t

/-- Twice the median of a list: with an even count, the sum of the middle two (R40). -/
def median2 (l : List Int) : Int :=
  let a := l.foldl (fun b x => insAsc x b) []
  let n := a.length
  if n % 2 = 1 then 2 * a.getD (n / 2) 0 else a.getD (n / 2 - 1) 0 + a.getD (n / 2) 0

/-- The test values of the slots, in 0.001 ppm: offsets less the median with three or more, the offsets else (R40). Half a unit is
rounded down (log entry 27). -/
def testValues (ofs : List (Option Int)) : List (Option Int) :=
  let have_ := ofs.filterMap id
  if 3 ≤ have_.length then
    let m := median2 have_
    ofs.map (fun o => o.map (fun x => (2 * x - m) / 2))
  else ofs

def hardLimit (s : State) : Nat := 100 * getF s F.MON_CFG_HARD_LIM
def softLimit (s : State) : Nat := 100 * getF s F.MON_CFG_SOFT_LIM
def driftLimit (s : State) : Nat := 10 * getF s F.MON_CFG_DRIFT_LIM

/-- Why a window with test value `v` is not good: 1 hard limit, 2 drift rate, 0 good (R38). -/
def windowReason (s : State) (i : Nat) (v : Int) : Nat :=
  if hardLimit s < v.natAbs then 1
  else
    match (refSlot s i).prev with
    | some p => if driftLimit s < (v - p).natAbs then 2 else 0
    | none => 0

/-- Log the soft-limit excursion of slot `i`, once (R39). -/
def softCheck (s : State) (i : Nat) (v : Int) : State :=
  let x := refSlot s i
  if softLimit s < v.natAbs then
    if x.soft then s else clkEv (setRefSlot s i { x with soft := true }) 0x0561 sevWarning (le 1 i ++ le32i v)
  else setRefSlot s i { x with soft := false }

/-- Log slot `i` as the suspect, once, where another slot passes the hard limit (R40). -/
def suspectCheck (s : State) (i : Nat) (v : Int) (others : List (Option Int)) : State :=
  let x := refSlot s i
  if hardLimit s < v.natAbs && others.any (fun o => match o with
      | some w => decide (w.natAbs ≤ hardLimit s)
      | none => false) then
    if x.suspect then s else clkEv (setRefSlot s i { x with suspect := true }) 0x0564 sevWarning (le 1 i ++ le32i v)
  else setRefSlot s i { x with suspect := false }

/-- A slot has four good windows: AVAILABLE if it never was, else the wait-to-restore (R38). A type 5 slot first needs
`TIME_SET`. -/
def qualify (s : State) (i : Nat) : State :=
  let x := refSlot s i
  if refType s i = 5 ∧ s.clock.timeSet.isNone then s
  else
    let s := clkEv s 0x0560 sevInfo (le 1 i)
    if refState s i = refMonitoring ∧ !x.ever then becomeAvailable s i
    else setF (setRefSlot s i { x with good := 0, bad := 0 }) (refField i) refWait

/-- One window of slot `i` with test value `v` moves the slot's state machine (R38). -/
def windowSlot (s : State) (i : Nat) (v : Int) : State :=
  let why := windowReason s i v
  let x := refSlot s i
  let x := { x with prev := some v, reason := why, good := if why = 0 then x.good + 1 else 0,
                    bad := if why = 0 then 0 else x.bad + 1 }
  let s := setRefSlot s i x
  let st := refState s i
  if st = refMonitoring ∨ st = refDisqualified then (if 4 ≤ x.good then qualify s i else s)
  else if st = refWait then
    (if why = 0 then s else setF (setRefSlot s i { x with good := 0 }) (refField i) refMonitoring)
  else if st = refAvailable ∧ 4 ≤ x.bad then
    setFault (clkEv (setF (setRefSlot s i { x with good := 0 }) (refField i) refDisqualified) 0x0562 sevError
      (le 1 i ++ le 1 why)) 5 2
  else s

/-- Whether slot `i` has a signal: a state from MONITORING to DISQUALIFIED. -/
def refPresent (s : State) (i : Nat) : Bool := decide (2 ≤ refState s i) && decide (refState s i ≤ 5)

/-- Whether the window of slot `i` counts: not the selected PTP slot's while the servo paused in it (R48). One that does not count
stays out of the other slots' median too (log entry 28). -/
def windowCounts (s : State) (i : Nat) : Bool :=
  !((s.clock.paused || isF s F.DPLL_STAT_SERVO_PAUSED) && selIs s i && (refType s i == 1 || refType s i == 2))

/-- The windows of all slots end. -/
def windowEnd (s : State) (ofs : List (Option (BitVec 32))) : State :=
  let offs := (List.range 8).map (fun i =>
    if refPresent s i && windowCounts s i then (ofs.getD i none).map sgn else none)
  let tv := testValues offs
  (List.range 8).foldl (fun s i =>
    match tv.getD i none with
    | none => s
    | some v =>
      let s := setR s (R.REF_OFS i) (ofInt v)
      let s := softCheck s i v
      let s := suspectCheck s i v (tv.set i none)
      windowSlot s i v) s

/-- The steering stays within ±100 ppm, in units of 10⁻¹² (R27, R34). -/
def clampSteer (w : Word) : Int := max (-100000000) (min 100000000 (sgn w))

/-- Fresh phase error and steering while the loop is closed (R34, R46). -/
def setLoop (s : State) (steer perr : Word) : State :=
  let st := getF s F.DPLL_STAT_STAGE
  if st = stFreerun ∨ st = stHoldover then s
  else
    let s := setR s R.PHASE_ERR perr
    if isF s F.DPLL_STAT_SERVO_PAUSED then s else setR s R.FREQ_OFS (ofInt (clampSteer steer))

/-! ### PTP instances and their slots (R35, R50) -/

/-- An enabled instance of MODE 1 without an external leader leads (R50). -/
def ptpLeads (s : State) (i : Nat) : Bool :=
  fnOn s (0x21 + i) && getF s (F.PTP_CFG0_MODE (0x21 + i)) == 1 && (ptpInst s i).leader.isNone

/-- The reference slot of instance `i`, if used (R35). -/
def ptpSlot (s : State) (i : Nat) : Option Nat := (List.range 8).find? (fun k => refType s k == i + 1)

/-- Whether slot `i` can have a signal: a PTP slot only of an enabled instance that does not lead (R35, R50). -/
def canSignal (s : State) (i : Nat) : Bool :=
  let t := refType s i
  !(t == 1 || t == 2) || (fnOn s (0x20 + t) && !ptpLeads s (t - 1))

/-- Slot `i` loses its signal, at once (R35, R38). A PTP slot's instance has then lost its leader (R63, log entry 33). -/
def loseSignal (s : State) (i : Nat) : State :=
  let s := setRefSlot s i { refSlot s i with good := 0, bad := 0, prev := none }
  let s := setFault (clkEv (setF s (refField i) refAbsent) 0x0563 sevError (le 1 i)) 5 2
  let t := refType s i
  let s := if t = 1 ∨ t = 2 then setFault (setPtpInst s (t - 1) { ptpInst s (t - 1) with leader := none, cls := 255 }) 5 4 else s
  reselect s

/-- Instance `i` stops: it has no leader, and its slot has lost its signal (log entry 34). -/
def ptpStop (s : State) (i : Nat) : State :=
  let s := match ptpSlot s i with
    | some k => if refPresent s k then loseSignal s k else s
    | none => s
  setPtpInst s i { ptpInst s i with leader := none, cls := 255 }

/-! ### Meanings -/

def execXoFault (kind : Fin 3) (s : State) : Host.Outcome State Fault Refusal :=
  if kind.val = 0 ∨ !nodeAlive s then .next s
  else
    let s := setFault (guardAct (enterFaulted s 1)) 5 0
    .next (clkEv s 0x0571 sevCritical (le 1 kind.val))

def execRefSignalPresent (slot : Fin 8) (s : State) : Host.Outcome State Fault Refusal :=
  if refState s slot.val ≠ refAbsent ∨ !canSignal s slot.val then .next s
  else
    let s := setRefSlot s slot.val { refSlot s slot.val with good := 0, bad := 0, prev := none, soft := false, suspect := false }
    .next (setF s (refField slot.val) refMonitoring)

def execRefLos (slot : Fin 8) (ph : List Int) (s : State) : Host.Outcome State Fault Refusal :=
  if refPresent s slot.val then .next (loseSignal (setPhases s ph) slot.val) else .next s

/-- Whether the windows end now: at a boundary where SCTR mod 96,000 = 0, once (R38). -/
def windowDue (s : State) : Bool := s.sctr.toNat % 96000 == 0 && s.clock.winAt != s.sctr.toNat

def execRefWindowEnd (ofs : List (Option (BitVec 32))) (steer perr : Word) (ph : List Int) (s : State) :
    Host.Outcome State Fault Refusal :=
  if windowDue s then
    let s := windowEnd (setLoop (setPhases s ph) steer perr) ofs
    .next (reselect { s with clock := { s.clock with paused := isF s F.DPLL_STAT_SERVO_PAUSED, winAt := s.sctr.toNat } })
  else .next s

/-- Whether the wait-to-restore of slot `i` is over: the windows since it began, all good, make up WTR (R38). -/
def waitOver (s : State) (i : Nat) : Bool := refState s i == refWait && decide (getF s F.WTR_CFG_WTR ≤ (refSlot s i).good)

def execWaitToRestoreExpiry (slot : Fin 8) (ph : List Int) (s : State) : Host.Outcome State Fault Refusal :=
  if waitOver s slot.val then .next (reselect (becomeAvailable (setPhases s ph) slot.val)) else .next s

def execDpllStageAdvance (perr : Word) (ph : List Int) (s : State) : Host.Outcome State Fault Refusal :=
  let st := getF s F.DPLL_STAT_STAGE
  let e := (sgn perr).natAbs
  if st = stAcquire ∧ e < 10 ^ 6 then .next (setStage (setR (setPhases s ph) R.PHASE_ERR perr) stSettle)
  else if st = stSettle ∧ e < 10 ^ 5 then
    .next (endSwitch (setStage (setR (setPhases s ph) R.PHASE_ERR perr) stTrack))
  else .next s

def execDpllStageFallback (perr : Word) (s : State) : Host.Outcome State Fault Refusal :=
  let st := getF s F.DPLL_STAT_STAGE
  let e := (sgn perr).natAbs
  if st = stSettle ∧ 5 * 10 ^ 7 < e then .next (setStage (setR s R.PHASE_ERR perr) stAcquire)
  else if st = stTrack ∧ 10 ^ 6 < e then .next (setStage (setR s R.PHASE_ERR perr) stSettle)
  else .next s

/-- A slew reached zero: it ends, and with it a time error and a switch (R41, R42, R52). -/
def slewEnd (s : State) : State :=
  endSwitch (timeGained (clkEv (setSlew s 0) 0x056E sevInfo []))

/-- The refusal of a phase step, if any (R52, R54). -/
def phaseStepRefusal (s : State) (a : Int) (hard : Bool) : Option Nat :=
  if 10 ^ 9 < a.natAbs then some 0x0526
  else if !hard ∧ 10 ^ 9 < (slewRemain s + a).natAbs then some 0x0526
  else if selValid s && timeBearing s (selSlot s) then some 0x0527
  else if hard && !engineOff s then some 0x0528
  else none

def execPhaseStep (c : Fin 8) (s : State) : Host.Outcome State Fault Refusal :=
  .next (serve s c.val 0x0501 (· == 8) false (fun s q =>
    let a := sgn (BitVec.ofNat 32 (leAt q.payload 0 4))
    let hard := leAt q.payload 4 4 % 2 == 1
    match phaseStepRefusal s a hard with
    | some code => (s, .refused code 0)
    | none =>
      let s := loseTime { s with clock := { s.clock with buildOut := s.clock.buildOut + a } }
      if hard then
        ({ s with clock := { s.clock with hardStep := some (s.clock.hardStep.getD 0 + a) } }, .ok [])
      else
        let r := slewRemain s + a
        if r = 0 then (slewEnd s, .ok []) else (setSlew s r, .ok [])))

def execPhaseStepDone (ph : List Int) (s : State) : Host.Outcome State Fault Refusal :=
  if slewing s ∧ (slewRemain s).natAbs ≤ (slewStep s (slewRemain s)).1 then .next (slewEnd (setPhases s ph))
  else .next s

/-- The periods of `WCLK_OUT`, `PPS_OUT` and `FRM_OUT` in thirds of a ps (R56, R58). -/
def framePeriod (code : Nat) : Nat :=
  match code with
  | 0 => 125000000000
  | 1 => 120000000000
  | 2 => 100000000000
  | 3 => 62500000000
  | 4 => 60000000000
  | 5 => 50000000000
  | 6 => 125125000000
  | 7 => 100100000000
  | 8 => 50050000000
  | _ => 0

def outPeriod (s : State) (k : Nat) : Nat :=
  if k = 0 then (if isF s F.OUT_CFG_WCLK_RATE then 31250000 else 62500000)
  else if k = 1 then 3000000000000
  else framePeriod (getF s F.OUT_CFG_FRM_OUT_RATE)

/-- The negative of `b` reduced into (−p/2, p/2] (R57). -/
def realignOfs (b : Int) (p : Nat) : Int :=
  let m := (-b) % (p : Int)
  if (p : Int) < 2 * m then m - p else m

def execRealign (c : Fin 8) (s : State) : Host.Outcome State Fault Refusal :=
  .next (serve s c.val 0x0502 (· == 4) false (fun s q =>
    let st := getF s F.DPLL_STAT_STAGE
    if st = stFreerun ∨ st = stHoldover then (s, .refused 0x052F 0)
    else
      let mask := leAt q.payload 0 4
      let b : Int := if selValid s && timeBearing s (selSlot s) then 0 else 3 * s.clock.buildOut
      let next := Vector.ofFn (fun k : Fin 3 =>
        if mask / 2 ^ k.val % 2 = 1 then some (realignOfs b (outPeriod s k)) else s.clock.nextOfs[k])
      (clkEv { s with clock := { s.clock with nextOfs := next } } 0x056F sevInfo (le 4 mask), .ok [])))

def execTimeSet (c : Fin 8) (pps : Bool) (s : State) : Host.Outcome State Fault Refusal :=
  .next (serve s c.val 0x0503 (· == 8) false (fun s q =>
    if pps && (List.range 8).any (fun i => refType s i == 5) then
      ({ s with clock := { s.clock with timeSet := some (leAt q.payload 0 8) } }, .ok [])
    else (s, .refused 0x052A 0)))

/-- An instance beyond 1 does not exist: it is answered like an absent function (log entry 29). -/
def execPtpDatasetGet (c : Fin 8) (s : State) : Host.Outcome State Fault Refusal :=
  .next (serve s c.val 0x0504 (· == 1) false (fun s q =>
    if 2 ≤ leAt q.payload 0 1 then (s, .unsupported 0x0124)
    else (nextFrees s 96, .ok (freeList s 96))))

/-! ### The boundary (R30, R54, R57) -/

/-- SCTR at a boundary: one more, or after a hard step the count of the moved grid (R30, R54). -/
def nextSctr (s : State) : BitVec 64 :=
  match s.clock.hardStep with
  | some e => BitVec.ofInt 64 ((s.sctr.toNat : Int) + 1 - (e * 96000).tdiv (10 ^ 12))
  | none => s.sctr + 1

/-! Output edges, in thirds of a ps from SCTR 0: edge `j` of an output of period `p` falls at `j * p` plus its offset. -/

/-- The offset that edge `j` carries: that of the newest change that reaches it (R57). -/
def edgeOfs : List (Int × Int) → Int → Int
  | [], _ => 0
  | x :: t, j => if x.1 ≤ j then x.2 else edgeOfs t j

/-- Where edge `j` falls. -/
def edgeAt (l : List (Int × Int)) (p : Nat) (j : Int) : Int := j * (p : Int) + edgeOfs l j

/-- The first edge of an output of offset `o` that falls at or after `x`. -/
def firstEdge (p : Nat) (o x : Int) : Int := -((o - x) / (p : Int))

/-- The first edge that falls at or after `x`: every offset lies within half a period, so it is one of three. -/
def nextEdge (l : List (Int × Int)) (p : Nat) (x : Int) : Int :=
  let j := firstEdge p 0 x
  if x ≤ edgeAt l p (j - 1) then j - 1 else if x ≤ edgeAt l p j then j else j + 1

/-- From `x` on the output has offset `o`: the change takes the first edge that falls at or after `x` with either offset, so that no
edge is added or lost and one period is longer or shorter by the change (R57). -/
def moveEdges (l : List (Int × Int)) (p : Nat) (o x : Int) : List (Int × Int) :=
  let j := max (nextEdge l p x) (firstEdge p o x)
  (j, o) :: (l.filter (fun y => decide (y.1 < j))).take 5

/-- An sp boundary at `x` installs the offset that `REALIGN` asked for, if any. -/
def installOfs (l : List (Int × Int)) (p : Nat) (x : Int) : Option Int → List (Int × Int)
  | none => l
  | some o => if p = 0 then l else moveEdges l p o x

/-- After a hard step to `x` the outputs follow the new count with their newest offsets (R54). -/
def settleOfs (l : List (Int × Int)) (p : Nat) (x : Int) : List (Int × Int) :=
  match l with
  | [] => []
  | y :: _ => if p = 0 then [] else [(firstEdge p y.2 x - 4, y.2)]

/-- The offset in force on output `k`. -/
def newestOfs (s : State) (k : Nat) : Int :=
  match s.clock.outOfs.getD k [] with
  | [] => 0
  | y :: _ => y.2

/-- A boundary's place in thirds of a ps from SCTR 0. -/
def spPlace (s : State) : Int := 31250000 * (s.sctr.toNat : Int)

/-- The output offsets at a boundary, `SCTR` being the boundary's already. -/
def outputBoundary (s : State) (hard : Bool) : State :=
  let ofs := Vector.ofFn (fun k : Fin 3 =>
    let l := if hard then settleOfs s.clock.outOfs[k] (outPeriod s k) (spPlace s) else s.clock.outOfs[k]
    installOfs l (outPeriod s k) (spPlace s) s.clock.nextOfs[k])
  { s with clock := { s.clock with outOfs := ofs, nextOfs := Vector.replicate 3 none } }

/-- The clock system at an sp boundary: SCTR, a hard step, the slew and the output offsets. -/
def clockBoundary (s : State) : State :=
  let hard := s.clock.hardStep.isSome
  let s := trackTick s
  let s := outputBoundary { s with sctr := nextSctr s, clock := { s.clock with hardStep := none } } hard
  let s := if hard then endSwitch (timeGained s) else s
  slewTick s

/-! ### The clock outputs (R56, R58) -/

/-- How many AUD cycles output `k` (0 `WCLK_OUT`, 1 `PPS_OUT`, 2 `FRM_OUT`) stays high; 0 where it is not driven. -/
def outWidth (s : State) (k : Nat) : Int :=
  if k = 0 then (if isF s F.OUT_CFG_WCLK_OUT_EN then (if isF s F.OUT_CFG_WCLK_RATE then 256 else 512) else 0)
  else if k = 1 then (if isF s F.OUT_CFG_PPS_OUT_EN then 512 * getF s F.OUT_CFG_PPS_WIDTH else 0)
  else if isF s F.OUT_CFG_FRM_OUT_EN then 512 else 0

/-- The level of output `k` in AUD cycle `c` of the current sp: its edges lie at the multiples of its period plus its offset,
rounded down to an AUD cycle (R56, R58). Before an edge that a change brings nearer than the width it is low for one cycle (log
entry 35). -/
def outHigh (s : State) (k : Fin 3) (c : Nat) : Bool :=
  let l := s.clock.outOfs[k]
  let p := outPeriod s k
  let n : Int := s.sctr.toNat * 512 + c
  let cyc := fun j => edgeAt l p j * 512 / 31250000
  let j := nextEdge l p (((n + 1) * 31250000 + 511) / 512) - 1
  fnOn s 0x20 && decide (n - cyc j < outWidth s k) && decide (n + 1 < cyc (j + 1))

/-- The frame boundary sp of frame `j` at a rate code: ceil(j × T / 1 sp) (R58). -/
def frameBoundary (code j : Nat) : Nat := (j * framePeriod code + 31249999) / 31250000

/-- The cadence index of frame `j` at the rates with a non-integer period (R58). -/
def cadenceIndex (j : Nat) : Nat := j % 5

/-- The level of `MCLK_OUT[m]` in half AUD cycle `h` of the current sp, 0 to 1,023: it rises at the boundary (R56). -/
def mclkHigh (s : State) (m h : Nat) : Bool :=
  let d := getF s F.MCLK_CFG_MCLK_DIV / 4 ^ m % 4
  fnOn s 0x20 && getF s F.MCLK_CFG_MCLK_EN / 2 ^ m % 2 == 1 && h / 2 ^ d % 2 == 0

/-! ### Function 0x20, and the PTP functions' checks (R61, R62, R65) -/

/-- The enable check of function 0x20: refusal code and field. A TYPE of 8 to 15 is refused as an absent source (log entry 29); a
PPS_WIDTH outside 1 to 48,000 has no code and is taken as it is (log entry 30). -/
def clockCheck (s : State) : Option (Nat × Nat) :=
  let used := (List.range 8).filter (fun i => refType s i != 0)
  let src := fun i => (refType s i, if refType s i = 7 then getF s (F.REF_CFG_SAP i) else 0)
  let prio := fun i => getF s (F.REF_CFG_PRIORITY i)
  let absent := fun i =>
    let t := refType s i
    decide (8 ≤ t) || (t == 1 && !fnOn s 0x21) || (t == 2 && !fnOn s 0x22) ||
    (t == 7 && (!fnOn s (0x10 + getF s (F.REF_CFG_SAP i)) || !isF s (F.SAP_CFG_FOLLOWER (0x10 + getF s (F.REF_CFG_SAP i)))))
  match used.find? (fun i => used.any (fun j => decide (j < i) && src j == src i)) with
  | some i => some (0x0520, 0x20 + 4 * i)
  | none =>
    match used.find? (fun i => prio i == 0 || decide (8 < prio i) || used.any (fun j => decide (j < i) && prio j == prio i)) with
    | some i => some (0x0521, 0x20 + 4 * i)
    | none =>
      match used.find? absent with
      | some i => some (0x0522, 0x20 + 4 * i)
      | none =>
        if 10 ≤ getF s F.DPLL_CFG_TRACK_BW then some (0x0523, 0)
        else if getF s F.MON_CFG_HARD_LIM ≤ getF s F.MON_CFG_SOFT_LIM ∨ getF s F.MON_CFG_SOFT_LIM = 0 ∨
          getF s F.MON_CFG_DRIFT_LIM = 0 then some (0x0524, 4)
        else if getF s F.WTR_CFG_WTR = 0 ∨ 3600 < getF s F.WTR_CFG_WTR then some (0x0525, 8)
        else if getF s F.DPLL_CFG_SLEW = 0 ∨ 50 < getF s F.DPLL_CFG_SLEW then some (0x0529, 0)
        else if 9 ≤ getF s F.OUT_CFG_FRM_OUT_RATE then some (0x052E, 0x0C)
        else if 9 ≤ getF s F.FRM_CFG_FRM_IN_RATE then some (0x052E, 0x10)
        else none

/-- A field of `w` bits as a signed number. -/
def sgnField (v w : Nat) : Int := if 2 ^ (w - 1) ≤ v then (v : Int) - 2 ^ w else v

/-- The enable check of a PTP function `f` (R62, R65). A DOMAIN above 127 is refused as an option out of range (log entry 29). -/
def ptpCheck (s : State) (f : Nat) : Option (Nat × Nat) :=
  let out := fun v lo hi => decide (sgnField v 4 < lo) || decide (hi < sgnField v 4)
  let t := getF s (F.PTP_CFG1_ANN_TIMEOUT f)
  if getF s (F.PTP_CFG0_PROFILE f) = 3 ∨ 2 ≤ getF s (F.PTP_CFG0_MODE f) ∨ 127 < getF s (F.PTP_CFG0_DOMAIN f) then some (0x052B, 0)
  else if out (getF s (F.PTP_CFG1_LOG_SYNC f)) (-4) 1 || out (getF s (F.PTP_CFG1_LOG_ANNOUNCE f)) (-3) 3 ||
    out (getF s (F.PTP_CFG1_LOG_DELAYREQ f)) (-4) 4 || decide (t < 2) then some (0x052B, 4)
  else if (portOfRole s (f - 0x21)).isNone then some (0x052C, 0)
  else if getF s (F.PTP_CFG0_MODE f) = 1 ∧ !(List.range 8).any (fun i => refType s i == 5) then some (0x052D, 0)
  else none

/-- Function 0x20 starts: used slots are ABSENT, output offsets zero (R38, R56). -/
def clockStart (s : State) : State :=
  let s := { s with clock := { s.clock with slots := Vector.replicate 8 RefSlot.reset, outOfs := Vector.replicate 3 [],
                                            nextOfs := Vector.replicate 3 none,
                                            hist := [], everTrack := false, paused := false } }
  (List.range 8).foldl (fun s i => setF s (refField i) (if refType s i = 0 then refUnused else refAbsent)) s

/-- Function 0x20 stops: no slot is used and the oscillator runs free (log entry 10). -/
def clockStop (s : State) : State :=
  let s := putF (putF s F.DPLL_STAT_SEL_VALID false) F.DPLL_STAT_SWITCHING false
  let s := loseTime { s with clock := { s.clock with timePending := false, slots := Vector.replicate 8 RefSlot.reset } }
  putF (setR (setR (setStage s stFreerun) R.FREQ_OFS 0) R.REF_STATE 0) F.TIME_STAT_TIME_BLOCKED false

/-! ### Reading the time (R34) -/

/-- The TAI nanoseconds of ENG cycle `c` of the current sp (R30). -/
def taiNs (s : State) (c : Nat) : Nat := (s.sctr.toNat * 10240 + c) * 10 ^ 9 / 983040000

/-- Latch the readout group at ENG cycle `c`; while UNSET the TAI words are free values (R32, R34). -/
def latchTime (s : State) (c : Nat) : State :=
  let s := setR s R.SCTR_LO (s.sctr.setWidth 32)
  let s := setR s R.SCTR_HI ((s.sctr >>> 32).setWidth 32)
  let s := setR s R.SCTR_FRAC ((fracOf c).setWidth 32)
  if getF s F.TIME_STAT_SCTR_STATE = timeUnset then
    let s := setR (setR s R.TAI_SEC_LO (Config.freeWord s.free)) R.TAI_SEC_HI (Config.freeWord (s.free + 1) &&& 0xFFFF)
    nextFrees (setR s R.TAI_NS (Config.freeWord (s.free + 2) &&& 0x3FFFFFFF)) 3
  else
    let t := taiNs s c
    let sec := t / 10 ^ 9
    let s := setR (setR s R.TAI_SEC_LO (BitVec.ofNat 32 sec)) R.TAI_SEC_HI (BitVec.ofNat 32 (sec / 2 ^ 32 % 2 ^ 16))
    setR s R.TAI_NS (BitVec.ofNat 32 (t % 10 ^ 9))

end Sys2Proof.Machine
end

