-- ==== Sys2Proof/Machine/Reset.lean ====
section
/-! DEFINITION. The resets of R535 and the start of a boot (R534, R536, R573). A reset clears every domain but the always-on
one; what stands outside every domain is kept too: the one-time-programmable words, and the model's own fields. -/

namespace Sys2Proof.Machine

/-- Node states (R534, R542). -/
def nsOff : Nat := 0
def nsBoot : Nat := 1
def nsReady : Nat := 2
def nsRunning : Nat := 3
def nsDormant : Nat := 4
def nsFaulted : Nat := 5

def nodeState (s : State) : Nat := getF s F.NODE_STAT_STATE

/-- Copy one register of `t` into `s`. -/
def keepR (t s : State) (o : Nat) : State := setR s o (getR t o)

/-- Copy one field of `t` into `s`. -/
def keepF (t s : State) (f : Fld) : State := setF s f (getF t f)

/-- The registers outside every reset: identity and what OTP gives `SEC_STAT` (R548, R562). -/
def keepOtp (t s : State) : State :=
  let s := [R.ID_DEVICE, R.ID_SERIAL_LO, R.ID_SERIAL_HI].foldl (keepR t) s
  let s := [F.SEC_STAT_ROLLBACK, F.SEC_STAT_SLOT_A, F.SEC_STAT_SLOT_B, F.SEC_STAT_VENDOR_OFF].foldl (keepF t) s
  { s with pending := t.pending, out := t.out, free := t.free, sec := { s.sec with otp := t.sec.otp } }

/-- The straps as last sampled (R573). -/
def keepStraps (t s : State) : State :=
  [F.NODE_STAT_BOOTSEL, F.NODE_STAT_TEST_EN, F.TWT_STAT_ADDR].foldl (keepF t) s

/-- The always-on domain (R535). -/
def keepAon (t s : State) : State :=
  let s := [R.LOG_SEQ_NEXT, R.LOG_GASP_STAT, R.ETH_WAKE_SRC, R.PM_RESET_CAUSE, R.PM_WAKE_SRC].foldl (keepR t) s
  { s with net := { s.net with wake := t.net.wake }, log := { s.log with bank := t.log.bank } }

/-- The highest group the sequencer uses: `SEQ_EN[5]` is held low on a UA-2048N-E (R523). -/
def lastGroup (s : State) : Nat := if modelA s then 5 else 4

/-- The group the sequencer brings up next: the lowest whose power-good is low (R524). -/
def nextGroup (s : State) : Option Nat :=
  (List.range (lastGroup s + 1)).find? (fun g => getF s F.PM_RAIL_STAT_PG / 2 ^ g % 2 == 0)

/-- Assert the enable of the next group (R524). -/
def enableNext (s : State) : State :=
  match nextGroup s with
  | some g =>
    let en := getF s F.PM_RAIL_STAT_EN
    let s := if en / 2 ^ g % 2 = 0 then emit s (.seqEn g true) else s
    setF s F.PM_RAIL_STAT_EN (en ||| 2 ^ g)
  | none => s

/-- Deassert the enables of the groups that `keep` does not name, in descending order; their power-good inputs fall (R524). -/
def groupsDown (s : State) (keep : Nat) : State :=
  let en := getF s F.PM_RAIL_STAT_EN
  let s := [5, 4, 3, 2, 1, 0].foldl (fun s g => if en / 2 ^ g % 2 = 1 ∧ keep / 2 ^ g % 2 = 0 then emit s (.seqEn g false) else s) s
  setF (setF s F.PM_RAIL_STAT_EN (en &&& keep)) F.PM_RAIL_STAT_PG (getF s F.PM_RAIL_STAT_PG &&& keep)

/-- A power-on reset: everything is cleared, and the node is OFF until its permanent rails are valid (R534, R535). -/
def powerOn (s : State) : State := setF (keepOtp s State.reset) F.NODE_STAT_STATE nsOff

/-- A node reset with cause `cause`: every domain but the always-on one; the rails are powered down (R535). -/
def nodeReset (s : State) (cause : Nat) : State :=
  let s := groupsDown s 0
  setF (keepAon s (keepStraps s (keepOtp s State.reset))) F.PM_RESET_CAUSE_CAUSE cause

/-- Sample the straps: BOOTSEL, TEST_EN and the address of the two-wire target (R516, R573). -/
def sampleStraps (s : State) (bootsel : Nat) (testEn : Bool) (a : Nat) : State :=
  setF (putF (setF s F.NODE_STAT_BOOTSEL bootsel) F.NODE_STAT_TEST_EN testEn) F.TWT_STAT_ADDR (0x58 + a)

/-- The node enters BOOT and its sequencer starts (R534, R536). -/
def enterBoot (s : State) : State := enableNext (setF s F.NODE_STAT_STATE nsBoot)

/-- Keep every configuration block (R426, R535): they stand from place 0x10000 of the register file. -/
def keepBlocks (t s : State) : State :=
  { s with regs := s.regs.filter (fun c => decide (c.1 < 0x10000)) ++ t.regs.filter (fun c => decide (0x10000 ≤ c.1)) }

/-- A wake start from source `src` (0 `ETH3`, 1 GPIO, 2 timer, 3 `PERST_N`): system SRAM with the firmware image and the
configuration blocks is kept, and so are the levels of the groups that stayed up (R535, R538, R540). `WAKE_OUT_N` goes low, and
`PCIE_WAKE_N` where PME and WAKE_EN were set (R446). -/
def wakeStart (s : State) (src : Nat) : State :=
  let t := setF (keepAon s (keepStraps s (keepOtp s State.reset))) F.PM_RESET_CAUSE_CAUSE 5
  let t := keepF s (keepF s t F.PM_RAIL_STAT_PG) F.PM_RAIL_STAT_EN
  let t := keepBlocks s t
  let t := setF t F.PM_WAKE_SRC_SOURCE (getF t F.PM_WAKE_SRC_SOURCE ||| 2 ^ src)
  let t := { t with pm := { t.pm with wakeOut := true, wakeSrc := some src, retained := s.pm.retained },
                    host := { t.host with pcieWake := s.host.pme, staging := s.host.staging,
                                            sram := s.host.sram } }
  enterBoot t

/-- Whether wake source `src` is armed (R539, R540). -/
def wakeArmed (s : State) (src : Nat) : Bool := nodeState s == nsDormant && s.pm.armed / 2 ^ src % 2 == 1

end Sys2Proof.Machine
end

