-- ==== Sys2Proof/Machine/Arith.lean ====
section
/-! DEFINITION. The arithmetic of the presses (chapter 03): the classes of R77, exact sums and products, the delivery rules
of R79 and R80, the approximations of R81 and the long accumulators of R82 to R85, and the exact forms the delay port and
the maintenance instructions use. Every function is exact integer arithmetic. -/

namespace Sys2Proof.Machine

/-- An exact value: NaN, an infinity, or (−1)^neg · m · 2^e, where m = 0 is a zero. -/
inductive Ex where
  | nan
  | inf (neg : Bool)
  | num (neg : Bool) (m : Nat) (e : Int)
  deriving DecidableEq, Repr

/-- What an arithmetic instruction delivers: the word and the NAN and INF flags it sets (R79). -/
structure FR where
  w : Word
  nan : Bool
  inf : Bool
  deriving DecidableEq, Repr

/-- The class of an operand (R77): a subnormal is the zero of its sign. -/
def cls (w : Word) : Ex :=
  let neg := w.getLsbD 31
  let e := ((w >>> 23) &&& 0xFF).toNat
  let f := (w &&& 0x7FFFFF).toNat
  if e = 0 then .num neg 0 0
  else if e = 255 then (if f = 0 then .inf neg else .nan)
  else .num neg (2 ^ 23 + f) ((e : Int) - 150)

/-- The number of bits of a natural number. -/
def bitLen (n : Nat) : Nat := if n = 0 then 0 else Nat.log2 n + 1

/-- `m / 2^k` rounded to nearest, ties to even. -/
def rne (m k : Nat) : Nat :=
  let q := m / 2 ^ k
  let r := m % 2 ^ k
  if k = 0 then m else if 2 ^ k < 2 * r ∨ (2 * r = 2 ^ k ∧ q % 2 = 1) then q + 1 else q

/-- Round a positive `m · 2^e` to `bits` significant bits. -/
def roundSig (bits m : Nat) (e : Int) : Nat × Int :=
  let l := bitLen m
  if l ≤ bits then (m, e)
  else
    let k := l - bits
    (rne m k, e + k)

/-- Sign, biased exponent and fraction as a word. -/
def packF (neg : Bool) (e f : Nat) : Word :=
  BitVec.ofNat 32 ((if neg then 2 ^ 31 else 0) + e * 2 ^ 23 + f)

def zeroF (neg : Bool) : Word := packF neg 0 0
def infF (neg : Bool) : Word := packF neg 255 0
def nanF : Word := 0x7FC00000

/-- Deliver a finite non-zero exact value (R79). -/
def deliverNum (neg : Bool) (m : Nat) (e : Int) : FR :=
  let (q, e) := roundSig 24 m e
  let l := bitLen q
  let x := e + ((l : Int) - 1)
  if 128 ≤ x then ⟨infF neg, false, true⟩
  else if x < -126 then ⟨zeroF neg, false, false⟩
  else
    let f := if l ≤ 24 then q * 2 ^ (24 - l) else q / 2 ^ (l - 24)
    ⟨packF neg (x + 127).toNat (f - 2 ^ 23), false, false⟩

/-- Deliver an exact result (R79, R80). -/
def deliver (x : Ex) : FR :=
  match x with
  | .nan => ⟨nanF, true, false⟩
  | .inf neg => ⟨infF neg, false, false⟩
  | .num neg m e => if m = 0 then ⟨zeroF neg, false, false⟩ else deliverNum neg m e

/-- The exact product (R80). -/
def mulX (a b : Ex) : Ex :=
  match a, b with
  | .nan, _ => .nan
  | _, .nan => .nan
  | .inf s, .inf t => .inf (s != t)
  | .inf s, .num t m _ => if m = 0 then .nan else .inf (s != t)
  | .num s m _, .inf t => if m = 0 then .nan else .inf (s != t)
  | .num s m e, .num t n f => .num (s != t) (m * n) (e + f)

/-- A signed mantissa. -/
def signed (neg : Bool) (m : Nat) : Int := if neg then -(m : Int) else m

/-- The exact sum (R80): a zero sum of non-zero values is +0, the sum of two zeros −0 only if both are −0. -/
def addX (a b : Ex) : Ex :=
  match a, b with
  | .nan, _ => .nan
  | _, .nan => .nan
  | .inf s, .inf t => if s = t then .inf s else .nan
  | .inf s, .num _ _ _ => .inf s
  | .num _ _ _, .inf t => .inf t
  | .num s m e, .num t n f =>
    if m = 0 ∧ n = 0 then .num (s && t) 0 0
    else if m = 0 then .num t n f
    else if n = 0 then .num s m e
    else
      let lo := min e f
      let v := signed s m * 2 ^ (e - lo).toNat + signed t n * 2 ^ (f - lo).toNat
      if v = 0 then .num false 0 0 else .num (decide (v < 0)) v.natAbs lo

/-- The negation of an exact value. -/
def negX (a : Ex) : Ex :=
  match a with
  | .nan => .nan
  | .inf s => .inf !s
  | .num s m e => .num (!s) m e

/-- The magnitude of an exact value. -/
def absX (a : Ex) : Ex :=
  match a with
  | .nan => .nan
  | .inf _ => .inf false
  | .num _ m e => .num false m e

def fadd (a b : Word) : FR := deliver (addX (cls a) (cls b))
def fsub (a b : Word) : FR := deliver (addX (cls a) (negX (cls b)))
def fmul (a b : Word) : FR := deliver (mulX (cls a) (cls b))
def ffma (a b c : Word) : FR := deliver (addX (mulX (cls a) (cls b)) (cls c))
def fabs (a : Word) : FR := deliver (absX (cls a))
def fneg (a : Word) : FR := deliver (negX (cls a))

/-- The bits of a value as R77 classifies it: a subnormal becomes the zero of its sign, a NaN the canonical one. -/
def canon (w : Word) : Word := (deliver (cls w)).w

/-- An order key of a canonical non-NaN word, with −0 below +0. -/
def orderKey (w : Word) : Int :=
  let m := (w &&& 0x7FFFFFFF).toNat
  if w.getLsbD 31 then -(m : Int) - 1 else m

def isNan (w : Word) : Bool := cls w == .nan

/-- `FMIN` and `FMAX` (R80, R104). -/
def fminmax (max : Bool) (a b : Word) : FR :=
  if isNan a || isNan b then ⟨nanF, true, false⟩
  else
    let x := canon a
    let y := canon b
    let takeX := if max then decide (orderKey y ≤ orderKey x) else decide (orderKey x ≤ orderKey y)
    ⟨if takeX then x else y, false, false⟩

/-- A comparison key in which −0 equals +0 (R80). -/
def cmpKey (w : Word) : Int :=
  let m := (w &&& 0x7FFFFFFF).toNat
  if w.getLsbD 31 then -(m : Int) else m

/-- `FCMP`: the mask bit and the NAN flag (R80, R104). -/
def fcmp (r : Rel) (a b : Word) : Bool × Bool :=
  if isNan a || isNan b then (decide (r = .ne), true)
  else
    let x := cmpKey (canon a)
    let y := cmpKey (canon b)
    (match r with
     | .eq => decide (x = y)
     | .ne => decide (x ≠ y)
     | .lt => decide (x < y)
     | .le => decide (x ≤ y)
     | .gt => decide (y < x)
     | .ge => decide (y ≤ x), false)

/-! ### Approximations (R81) -/

/-- Round a positive exact value to a 21-bit significand, then apply the range rules (R81). -/
def deliver21 (neg : Bool) (m : Nat) (e : Int) : FR :=
  let (q, e) := roundSig 21 m e
  deliverNum neg q e

/-- Fraction bits of the working numbers of the logarithm. -/
def logP : Nat := 256

/-- The first `n` fraction bits of log2(y / 2^256) for 2^256 ≤ y < 2^257, after `acc`: repeated squaring. -/
def logBits : Nat → Nat → Nat → Nat
  | 0, _, acc => acc
  | n + 1, y, acc =>
    let z := y * y / 2 ^ logP
    if 2 ^ (logP + 1) ≤ z then logBits n (z / 2) (2 * acc + 1) else logBits n z (2 * acc)

/-- `LOG2A` (R81). The fraction of the logarithm of a value that is no power of two never ends, so a trailing one bit after
100 exact bits stands for the rest (log entry 12). -/
def log2a (w : Word) : FR :=
  match cls w with
  | .nan => ⟨nanF, true, false⟩
  | .inf neg => if neg then ⟨nanF, true, false⟩ else ⟨infF false, false, false⟩
  | .num neg m e =>
    if m = 0 then ⟨infF true, false, true⟩
    else if neg then ⟨nanF, true, false⟩
    else
      let x := e + 23
      if m = 2 ^ 23 then (if x = 0 then ⟨zeroF false, false, false⟩ else deliver21 (decide (x < 0)) x.natAbs 0)
      else
        let t := logBits 100 (m * 2 ^ (logP - 23)) 0
        if 0 ≤ x then deliver21 false (2 * (x.toNat * 2 ^ 100 + t) + 1) (-101)
        else deliver21 true (2 * (x.natAbs * 2 ^ 100 - t) - 1) (-101)

/-- Whether log2(q / 2^k), for 2^k < q < 2^(k+1), lies below the fraction `fr` in units of 2^-60. -/
def logBelow (q k fr : Nat) : Bool := decide (logBits 100 (q * 2 ^ (logP - k)) 0 < fr * 2 ^ 40)

/-- Search bit by bit for the greatest q / 2^20 in [1, 2) whose logarithm lies below `fr`. -/
def expSearch : Nat → Nat → Nat → Nat
  | 0, q, _ => q
  | n + 1, q, fr => if logBelow (q + 2 ^ n) 20 fr then expSearch n (q + 2 ^ n) fr else expSearch n q fr

/-- `EXP2A` (R81). Below 2^-30 in magnitude the result is 1.0; from 256 up it overflows or flushes. -/
def exp2a (w : Word) : FR :=
  match cls w with
  | .nan => ⟨nanF, true, false⟩
  | .inf neg => ⟨if neg then zeroF false else infF false, false, false⟩
  | .num neg m e =>
    if m = 0 ∨ e ≤ -54 then ⟨0x3F800000, false, false⟩
    else if -15 ≤ e then (if neg then ⟨zeroF false, false, false⟩ else ⟨infF false, false, true⟩)
    else
      let x := signed neg m * 2 ^ (e + 60).toNat
      let i := x / 2 ^ 60
      let fr := (x % 2 ^ 60).toNat
      if fr = 0 then deliverNum false 1 i
      else
        let q := expSearch 20 (2 ^ 20) fr
        let q := if logBelow (2 * q + 1) 21 fr then q + 1 else q
        deliverNum false q (i - 20)

/-- `RCPA` (R81). -/
def rcpa (w : Word) : FR :=
  match cls w with
  | .nan => ⟨nanF, true, false⟩
  | .inf neg => ⟨zeroF neg, false, false⟩
  | .num neg m e =>
    if m = 0 then ⟨infF neg, false, true⟩
    else if m = 2 ^ 23 then deliverNum neg 1 (-e - 23)
    else
      let q := 2 ^ 44 / m
      let q := if m < 2 * (2 ^ 44 % m) then q + 1 else q
      deliverNum neg q (-e - 44)

/-- The greatest q below 2^n more than `q` with q² · m ≤ lim. -/
def rootSearch : Nat → Nat → Nat → Nat → Nat
  | 0, q, _, _ => q
  | n + 1, q, m, lim => if (q + 2 ^ n) * (q + 2 ^ n) * m ≤ lim then rootSearch n (q + 2 ^ n) m lim else rootSearch n q m lim

/-- 2^k / √m rounded to nearest; an exact tie cannot occur. -/
def rsqRound (m k : Nat) : Nat :=
  let q := rootSearch 22 0 m (2 ^ (2 * k))
  if (2 * q + 1) * (2 * q + 1) * m < 2 ^ (2 * k + 2) then q + 1 else q

/-- `RSQA` (R81). -/
def rsqa (w : Word) : FR :=
  match cls w with
  | .nan => ⟨nanF, true, false⟩
  | .inf neg => if neg then ⟨nanF, true, false⟩ else ⟨zeroF false, false, false⟩
  | .num neg m e =>
    if m = 0 then ⟨infF neg, false, true⟩
    else if neg then ⟨nanF, true, false⟩
    else
      let (m, e) := if e % 2 = 0 then (m, e) else (2 * m, e - 1)
      let k := if rootSearch 22 0 m (2 ^ 66) < 2 ^ 21 then 33 else 32
      deliverNum false (rsqRound m k) (-(e / 2) - k)

/-! ### Long accumulators (R82 to R85, R107, R118) -/

/-- The floor of an exact finite value in units of 2^-64 (R83). -/
def floorQ (neg : Bool) (m : Nat) (e : Int) : Int :=
  let x := e + 64
  if 0 ≤ x then signed neg m * 2 ^ x.toNat else signed neg m / 2 ^ x.natAbs

/-- V of an accumulator in units of 2^-64 (R82). -/
def accV (a : Acc) : Int := a.tally.toInt * 2 ^ 96 + a.value.toInt

/-- `lose` of R84: `v` is the new sum, 0 for an infinite term. -/
def accLose (a : Acc) (neg : Bool) (v : Int) : Acc :=
  { a with lost := true, tally := BitVec.ofInt 4 (if neg then -7 else 7), value := BitVec.ofInt 96 v }

/-- The result of an accumulate: the accumulator, and the NAN and TALLY_LOST flags it sets (R84). -/
def accAdd (a : Acc) (x : Ex) : Acc × Bool × Bool :=
  if a.poison then (a, false, false)
  else
    match x with
    | .nan => ({ a with poison := true }, true, false)
    | .inf neg => (accLose a neg 0, false, true)
    | .num neg m e =>
      let v := accV a + floorQ neg m e
      if a.lost then ({ a with value := BitVec.ofInt 96 v }, false, false)
      else if v < -(15 * 2 ^ 95) ∨ 15 * 2 ^ 95 ≤ v then (accLose a (decide (v < 0)) v, false, true)
      else
        let t := (v + 2 ^ 95) / 2 ^ 96
        ({ a with tally := BitVec.ofInt 4 t, value := BitVec.ofInt 96 (v - t * 2 ^ 96) }, false, false)

/-- `ARD` (R85): the word, and the NAN and OVF flags it sets. -/
def accRead (a : Acc) : Word × Bool × Bool :=
  if a.poison then (nanF, true, false)
  else if a.tally ≠ 0 then (if 0 < a.tally.toInt then 0x4F000000 else 0xCF000000, false, true)
  else
    let v := a.value.toInt
    if v = 0 then (0, false, false) else ((deliverNum (decide (v < 0)) v.natAbs (-64)).w, false, false)

/-- The normalising shift L of R118: the most that keeps W within 96 signed bits. -/
def normShift (a : Acc) : Nat :=
  let w := a.value.toInt
  if w = 0 then 0 else 95 - bitLen (if 0 < w then w.toNat else (-w - 1).toNat)

/-- The status word of `NORM` SEG 3 (R118). -/
def accStatus (a : Acc) : Word :=
  BitVec.ofNat 32 (normShift a + a.tally.toNat * 2 ^ 8 + (if a.lost then 2 ^ 12 else 0) + (if a.poison then 2 ^ 13 else 0))

/-- `NORM` (R118). -/
def accNorm (a : Acc) (seg : Nat) : Word :=
  let n := a.value <<< normShift a
  if seg = 3 then accStatus a else (n >>> (64 - 32 * seg)).setWidth 32

/-- `AINS` (R107): `a` the data word, `b` the status word. -/
def accIns (x : Acc) (seg : Nat) (a b : Word) : Acc :=
  if seg = 3 then x
  else
    let t := ((b >>> 8) &&& 0xF).setWidth 4
    let y := if seg = 0 then
        { value := 0, tally := if t = 8 then BitVec.ofInt 4 (-7) else t, lost := b.getLsbD 12, poison := b.getLsbD 13 }
      else x
    let l := (b &&& 0x7F).toNat
    let m : Int := if seg = 0 then a.toInt else a.toNat
    let k : Int := 64 - 32 * (seg : Int) - l
    let d := if 0 ≤ k then m * 2 ^ k.toNat else m / 2 ^ k.natAbs
    { y with value := y.value + BitVec.ofInt 96 d }

/-! ### Filters -/

/-- The exact sum of the products of pairs of values, read out once (R83 to R85). -/
def dot (l : List (Word × Word)) : Word :=
  (accRead (l.foldl (fun a p => (accAdd a (mulX (cls p.1) (cls p.2))).1) Acc.reset)).1

/-- The coefficient of an adaptor for the sample of age `i` in a window of `n`. The linear-phase filter, number 0, is symmetric about its
group delay, half the window; the other's delay is the spec's figure for its free coefficients (R199, log entry 13). -/
def firTap (k : Nat) (filter : Bool) (n i : Nat) : Word :=
  if filter then Config.firCoef k true i
  else if i = 0 then 0
  else Config.firCoef k false (min i (n - i))

/-- An adaptor's output: its window of 64 sp, newest sample first, under fixed coefficients, summed exactly and rounded once (R200). -/
def fir (k : Nat) (filter : Bool) (win : List Word) : Word :=
  let n := if k = 2 then 128 else 64
  dot (win.zipIdx.map (fun x => (x.1, firTap k filter n x.2)))

/-! ### Exact conversions -/

/-- A fraction `n / d` rounded to an integer, ties to even. -/
def roundEven (n d : Nat) : Nat :=
  let q := n / d
  if 2 * (n % d) < d then q else if d < 2 * (n % d) then q + 1 else q + q % 2

/-- A whole number as a float, exact below 2^24. -/
def natF (n : Nat) : Word := if n = 0 then 0 else (deliverNum false n 0).w

/-- A signed number times 2^e as a float. -/
def intF (n : Int) (e : Int) : Word := if n = 0 then 0 else (deliverNum (decide (n < 0)) n.natAbs e).w

/-- A non-negative rational `a / n` times 2^e delivered with one rounding: 32 quotient bits more than needed, and a sticky
bit. -/
def ratioF (neg : Bool) (a n : Nat) (e : Int) : Word :=
  let q := a * 2 ^ 64 / n
  let sticky := if a * 2 ^ 64 % n = 0 then 0 else 1
  (deliverNum neg (2 * q + sticky) (e - 65)).w

/-- A quotient under R79, as the loop of R328 uses it. -/
def fdiv (a b : Word) : Word :=
  match cls a, cls b with
  | .nan, _ => nanF
  | _, .nan => nanF
  | .inf _, .inf _ => nanF
  | .inf s, .num t _ _ => infF (s != t)
  | .num s _ _, .inf t => zeroF (s != t)
  | .num s m e, .num t n f =>
    if n = 0 then (if m = 0 then nanF else infF (s != t))
    else if m = 0 then zeroF (s != t)
    else ratioF (s != t) m n (e - f)

/-- The binary32 nearest to v0 + (vt − v0) · k / n; at k = n it is vt (R184, R210). -/
def lerp (v0 vt : Word) (k n : Nat) : Word :=
  if n ≤ k then vt
  else
    match cls v0, cls vt with
    | .num s m e, .num t p f =>
      let lo := min e f
      let v := signed s m * 2 ^ (e - lo).toNat * ((n : Int) - k) + signed t p * 2 ^ (f - lo).toNat * k
      if v = 0 then zeroF (s && t && m == 0 && p == 0) else ratioF (decide (v < 0)) v.natAbs n lo
    | a, b => (deliver (addX a (addX b (negX a)))).w

/-- `n · 2^-23`, the float of a 24-bit fraction (R114). -/
def fracF (n : Int) : Word := intF n (-23)

/-- The 24-bit fraction of a float, clamped and rounded (R114). -/
def toFrac24 (w : Word) : Int :=
  match cls w with
  | .nan => 0
  | .inf neg => if neg then -(2 ^ 23) else 2 ^ 23 - 1
  | .num neg m e =>
    if m = 0 then 0
    else
      let k := e + 23
      let q : Nat := if 0 ≤ k then m * 2 ^ (min k.toNat 64) else rne m k.natAbs
      max (-(2 ^ 23)) (min (2 ^ 23 - 1) (signed neg q))

/-- A float as a signed fraction of `b` bits, clamped to [−1, 1 − 2^(1−b)] and rounded to nearest, ties to even; a NaN is
zero (R277). -/
def toPcm (b : Nat) (w : Word) : Int :=
  let top : Int := 2 ^ (b - 1)
  match cls w with
  | .nan => 0
  | .inf neg => if neg then -top else top - 1
  | .num neg m e =>
    let k := e + (b : Int) - 1
    let q : Nat := if 0 ≤ k then m * 2 ^ (min k.toNat 64) else rne m k.natAbs
    max (-top) (min (top - 1) (signed neg q))

/-- The exponent `EXPX` delivers (R119). -/
def expOf (w : Word) : Int :=
  let e := ((w >>> 23) &&& 0xFF).toNat
  if e = 0 then -127 else if e = 255 then 128 else (e : Int) - 127

end Sys2Proof.Machine
end

