-- ==== Sys2Proof/Machine/EthTx.lean ====
section
/-! DEFINITION. The transmit side of the Ethernet ports (R231, R240 to R244): the address in use, the building of frames,
the queues and the handing of a frame to a port. -/

namespace Sys2Proof.Machine

/-! ### Byte strings -/

/-- The `n` low bytes of `v`, most significant first. -/
def be (n v : Nat) : List Byte := (le n v).reverse

/-- The value of big-endian bytes. -/
def beVal (p : List Byte) : Nat := leVal p.reverse

/-- The big-endian value of `n` bytes at offset `o`. -/
def beAt (p : List Byte) (o n : Nat) : Nat := beVal ((p.drop o).take n)

/-- The sum of the big-endian 16-bit words of a byte string, an odd last byte as the upper half of a word. -/
def sum16 : List Byte → Nat
  | [] => 0
  | [a] => 256 * a.toNat
  | a :: b :: t => 256 * a.toNat + b.toNat + sum16 t

/-- A sum folded to 16 bits with end-around carry. -/
def fold16 (n : Nat) : Nat := if n = 0 then 0 else (n - 1) % 65535 + 1

/-- The Internet checksum of a byte string: the complement of its folded sum. -/
def inetSum (n : Nat) : Nat := 65535 - fold16 n

/-! ### Ports and addresses -/

def ethPort (s : State) (p : Nat) : EthPort := s.net.ports.getD p EthPort.reset

def setEthPort (s : State) (p : Nat) (x : EthPort) : State :=
  { s with net := { s.net with ports := s.net.ports.setIfInBounds p x } }

/-- Whether port `p` is enabled; its function is 0x01 + p. -/
def ethOn (s : State) (p : Nat) : Bool := fnOn s (p + 1)

def ethUp (s : State) (p : Nat) : Bool := ethOn s p && isF s (F.ETH_STAT_LINK p)

def ethRole (s : State) (p : Nat) : Nat := getF s (F.ETH_CFG_ROLE (p + 1))

/-- Count `n` in counter `k` of port `p` (R249). -/
def ethCount (s : State) (p k : Nat) (n : Nat := 1) : State := bump s (R.ETH_CNT p k) n

/-- The address in use on port `p`, octet 0 most significant (R231). -/
def ethMac (s : State) (p : Nat) : Nat :=
  (getR s (R.ETH_ADDR_LO p)).toNat + 2 ^ 32 * getF s (F.ETH_ADDR_HI_ADDR_HI p)

/-- The address that port `p` takes at enable (R231). -/
def ethMacAtEnable (s : State) (p : Nat) : Nat :=
  if isF s (F.ETH_CFG_MAC_OVR (p + 1)) then
    (getR s (R.ETH_MAC_LO (p + 1))).toNat + 2 ^ 32 * getF s (F.ETH_MAC_HI_MAC_HI (p + 1))
  else (s.sec.otp.mac.toNat + p) % 2 ^ 48

/-- An address word in network byte order, its first octet most significant (log entry 14). -/
def ipOfWord (w : Word) : Nat := beVal (le 4 w.toNat)

/-- The port's own IPv4 address. -/
def ethIp (s : State) (p : Nat) : Nat := ipOfWord (getR s (R.ETH_IP_ADDR (p + 1)))

/-- Whether an IPv4 address is a multicast group. -/
def ipMulticast (a : Nat) : Bool := a / 2 ^ 28 == 14

/-- The group address of an IPv4 multicast group: 01-00-5E and the group's low 23 bits. -/
def groupMac (a : Nat) : Nat := 0x01005E000000 + a % 2 ^ 23

/-! ### Frames -/

/-- The 802.1Q tag of a frame, none where the VID is 0 (R241). -/
def vlanTag (vid pcp : Nat) : List Byte := if vid = 0 then [] else be 2 0x8100 ++ be 2 (pcp * 8192 + vid)

/-- A frame without its FCS. -/
def ethFrame (dst src vid pcp etype : Nat) (payload : List Byte) : List Byte :=
  be 6 dst ++ be 6 src ++ vlanTag vid pcp ++ be 2 etype ++ payload

/-- A byte string with the bytes at offset `o` replaced. -/
def putBytes (b : List Byte) (o : Nat) (x : List Byte) : List Byte := b.take o ++ x ++ b.drop (o + x.length)

/-- An IPv4 packet as the CP supplies it, its checksum field zero: addresses, DSCP, TTL, protocol and body; DF set and identification 0
(R241, log entry 52). -/
def ctlIp (src dst dscp ttl proto : Nat) (body : List Byte) : List Byte :=
  [0x45, BitVec.ofNat 8 (dscp * 4)] ++ be 2 (20 + body.length) ++ be 2 0 ++ be 2 0x4000 ++
  [BitVec.ofNat 8 ttl, BitVec.ofNat 8 proto] ++ be 2 0 ++ be 4 src ++ be 4 dst ++ body

/-- A UDP datagram as the CP supplies it, its checksum field zero. -/
def ctlUdp (sport dport : Nat) (payload : List Byte) : List Byte :=
  be 2 sport ++ be 2 dport ++ be 2 (8 + payload.length) ++ be 2 0 ++ payload

/-- The checksum that a port writes into a transport header at offset `o`: over the pseudo-header of IPv4 header `h` and the segment
`u`, its own field zero; UDP sends a sum of zero as 0xFFFF (R241). -/
def l4Sum (h u : List Byte) (proto o : Nat) : List Byte :=
  let z := putBytes u o (be 2 0)
  let c := inetSum (sum16 ((h.drop 12).take 8 ++ be 2 proto ++ be 2 u.length) + sum16 z)
  be 2 (if c = 0 ∧ proto = 17 then 0xFFFF else c)

/-- An IPv4 packet with the checksums that the port computes: of its header, and of UDP or TCP (R241). -/
def fillSums (b : List Byte) : List Byte :=
  let n := 4 * (leAt b 0 1 % 16)
  let z := putBytes (b.take n) 10 (be 2 0)
  let h := putBytes z 10 (be 2 (inetSum (sum16 z)))
  let u := b.drop n
  let proto := leAt b 9 1
  if proto = 17 then h ++ putBytes u 6 (l4Sum h u proto 6)
  else if proto = 6 then h ++ putBytes u 16 (l4Sum h u proto 16)
  else h ++ u

/-- The IPv4 header of a UDP datagram of `len` bytes after the header, DF set and identification 0 (R278). -/
def ipHeader (src dst dscp ttl len : Nat) : List Byte :=
  let h := [0x45, BitVec.ofNat 8 (dscp * 4)] ++ be 2 (20 + len) ++ be 2 0 ++ be 2 0x4000 ++ [BitVec.ofNat 8 ttl, 17]
  let a := be 4 src ++ be 4 dst
  h ++ be 2 (inetSum (sum16 (h ++ a))) ++ a

/-- A UDP datagram with its checksum over the pseudo-header (R241); a sum of zero is sent as 0xFFFF. -/
def udpDatagram (src dst sport dport : Nat) (payload : List Byte) : List Byte :=
  let len := 8 + payload.length
  let h := be 2 sport ++ be 2 dport ++ be 2 len
  let c := inetSum (sum16 (be 4 src ++ be 4 dst ++ be 2 17 ++ be 2 len ++ h) + sum16 payload)
  h ++ be 2 (if c = 0 then 0xFFFF else c) ++ payload

/-- The depth of transmit queue `q` (R240). -/
def queueDepth (q : Nat) : Nat := if q = 0 then 32 else if q = 2 then 16 else 64

/-- Count `n` frames of queue `q` dropped (R234, R240). -/
def countQueueDrop (s : State) (p q n : Nat) : State := ethCount s p (if q = 1 then 42 else 43) n

def ethQueue (s : State) (p q : Nat) : List TxFrame := (ethPort s p).queues.getD q []

def setEthQueue (s : State) (p q : Nat) (l : List TxFrame) : State :=
  let x := ethPort s p
  setEthPort s p { x with queues := x.queues.setIfInBounds q l }

/-- Hand a frame to queue `q` of port `p` (R233, R240): a disabled port discards it uncounted, a link that is down and a full
queue discard and count it. -/
def ethSend (s : State) (p q : Nat) (f : TxFrame) : State :=
  if !ethOn s p then s
  else if !isF s (F.ETH_STAT_LINK p) || decide (queueDepth q ≤ (ethQueue s p q).length) then countQueueDrop s p q 1
  else setEthQueue s p q (ethQueue s p q ++ [f])

/-- Hand a control frame to port `p`; the port inserts its control tag and computes the checksums (R241). -/
def ethSendCtl (s : State) (p q dst etype : Nat) (payload : List Byte) (ptp : Option (Nat × Bool) := none) : State :=
  ethSend s p q ⟨ethFrame dst (ethMac s p) (getF s (F.ETH_CFG_VLAN_CTL_VID (p + 1))) (getF s (F.ETH_CFG_VLAN_CTL_PCP (p + 1)))
    etype (if etype = 0x0800 then fillSums payload else payload), 0, ptp⟩

/-- The MAC address to which control goes for an IPv4 address: the group's, or what ARP resolved, which is open (log entry 52). -/
def ctlMac (s : State) (dst : Nat) : Nat :=
  if ipMulticast dst then groupMac dst
  else (Config.freeWord s.free).toNat + 2 ^ 32 * ((Config.freeWord (s.free + 1)).toNat % 2 ^ 16)

/-- Send a control datagram from port `p`; DSCP and TTL are open (log entry 52). -/
def sendUdp (s : State) (p dst sport dport : Nat) (payload : List Byte) : State :=
  let mac := ctlMac s dst
  let w := (Config.freeWord (s.free + 2)).toNat
  ethSendCtl (nextFrees s 3) p 3 mac 0x0800 (ctlIp (ethIp s p) dst (w % 64) (w / 64 % 256) 17 (ctlUdp sport dport payload))

/-! ### ARP and IGMP (R239, R262, R282, R283; log entry 53) -/

/-- An ARP packet of Ethernet and IPv4: operation, sender and target. -/
def arpPacket (op sha spa tha tpa : Nat) : List Byte :=
  be 2 1 ++ be 2 0x0800 ++ [6, 4] ++ be 2 op ++ be 6 sha ++ be 4 spa ++ be 6 tha ++ be 4 tpa

/-- The address that ARP resolves to reach `dst` from port `p`: itself on the port's own subnet or without a gateway, else the gateway. -/
def nextHop (s : State) (p dst : Nat) : Nat :=
  let m := ipOfWord (getR s (R.ETH_IP_MASK (p + 1)))
  let g := ipOfWord (getR s (R.ETH_IP_GW (p + 1)))
  if g = 0 ∨ dst &&& m = ethIp s p &&& m then dst else g

/-- Ask for the MAC address that reaches `dst` from port `p`. -/
def arpAsk (s : State) (p dst : Nat) : State :=
  ethSendCtl s p 3 0xFFFFFFFFFFFF 0x0806 (arpPacket 1 (ethMac s p) (ethIp s p) 0 (nextHop s p dst))

/-- An IGMP message with its checksum. -/
def igmpSum (b : List Byte) : List Byte := putBytes b 2 (be 2 (inetSum (sum16 b)))

/-- Send an IGMP message from port `p`: TTL 1, with the router alert option. -/
def igmpSend (s : State) (p dst : Nat) (body : List Byte) : State :=
  let b := igmpSum body
  ethSendCtl s p 3 (groupMac dst) 0x0800
    ([0x46, 0xC0] ++ be 2 (24 + b.length) ++ be 2 0 ++ be 2 0x4000 ++ [1, 2] ++ be 2 0 ++ be 4 (ethIp s p) ++ be 4 dst ++
     [0x94, 4, 0, 0] ++ b)

/-- The body of an IGMPv3 report of one record: its type, the group and the one source. -/
def igmpV3 (type group src : Nat) : List Byte :=
  [0x22, 0] ++ be 2 0 ++ be 2 0 ++ be 2 1 ++ [BitVec.ofNat 8 type, 0] ++ be 2 1 ++ be 4 group ++ be 4 src

/-- The body of an IGMPv2 message. -/
def igmpV2 (type group : Nat) : List Byte := [BitVec.ofNat 8 type, 0] ++ be 2 0 ++ be 4 group

/-- Join or leave a group on port `p`, for one source where `src` is not zero (R283). -/
def igmpReport (s : State) (p group src : Nat) (join : Bool) : State :=
  if src ≠ 0 then igmpSend s p 0xE0000016 (igmpV3 (if join then 5 else 6) group src)
  else if join then igmpSend s p group (igmpV2 0x16 group)
  else igmpSend s p 0xE0000002 (igmpV2 0x17 group)

/-- The CP joins or leaves a group on a leg's port; while it does not run the message waits (R282, R283). -/
def igmpDo (s : State) (x : Nat × Nat × Nat × Bool) : State :=
  if cpIsRunning s then
    match portOfRole s x.1 with
    | some p => igmpReport s p x.2.1 x.2.2.1 x.2.2.2
    | none => s
  else { s with net := { s.net with igmp := s.net.igmp ++ [x] } }

/-- What IGMP owes is sent, the CP running again (R282). -/
def igmpFlush (s : State) : State := s.net.igmp.foldl igmpDo { s with net := { s.net with igmp := [] } }

/-- The port that carries Omzor: the CLUSTER port where one is enabled, else the MEDIA_P port (R232, R363). -/
def omzorPort (s : State) : Option Nat :=
  match portOfRole s 3 with
  | some p => some p
  | none => portOfRole s 0

/-- Whether the node may not drive its outputs: the output guard acts, or its role is STANDBY (R244). -/
def mayNotDrive (s : State) : Bool := guarded s || roleOf s == roleStandby

/-! ### Counting received frames (R235, R249) -/

/-- A frame of `len` bytes, FCS included, of which `tag` are a VLAN tag, passes step 3 of R235: `cast` is 2 unicast, 3
multicast, 4 broadcast, as the counters are numbered. -/
def rxCounted (s : State) (p len cast tag : Nat) : State :=
  let x := ethPort s p
  let s := ethCount (ethCount s p 0) p cast
  let s := if 1518 + tag < len then ethCount s p 8 else s
  let s := if 64 ≤ x.rxOct + len then ethCount s p 1 ((x.rxOct + len) / 64) else s
  setEthPort s p { ethPort s p with rxOct := (x.rxOct + len) % 64 }

end Sys2Proof.Machine
end

