-- ==== Sys2Proof/Machine/Flows.lean ====
section
/-! DEFINITION. Media flows (chapter 09): the flow tables and their commands, the placing of packets, staging with hold and
fade, seamless legs, loss windows, and the forming of transmit packets. -/

namespace Sys2Proof.Machine

/-! ### Formats (R259, R266 to R268) -/

/-- The packet time P in sp of a packet-time code (R259). -/
def packetSp (code : Nat) : Nat :=
  if code = 0 then 6 else if code = 1 then 12 else if code = 2 then 24 else if code = 3 then 32 else 96

/-- Samples per channel in a packet (R259). -/
def perPacket (p : Nat) (r96 : Bool) : Nat := if r96 then p else p / 2

/-- The buffer time B in sp (R266). -/
def bufferSp (depth p : Nat) (r96 : Bool) : Nat :=
  let b := (depth * p + 1) / 2
  if r96 then b else b + b % 2

def RxFlow.p (f : RxFlow) : Nat := packetSp f.ptime
def RxFlow.s (f : RxFlow) : Nat := perPacket f.p f.r96
def RxFlow.bps (f : RxFlow) : Nat := if f.l24 then 3 else 2
def RxFlow.b (f : RxFlow) : Nat := bufferSp f.depth f.p f.r96
/-- The playout delay D in sp (R266). -/
def RxFlow.d (f : RxFlow) : Nat := f.p + f.b
/-- The pages of the flow's buffer (R267, R268). -/
def RxFlow.need (f : RxFlow) : Nat := (((f.b + f.p - 1) / f.p + 2) * f.ch * f.s * 4 + 4095) / 4096
def TxFlow.p (f : TxFlow) : Nat := packetSp f.ptime
def TxFlow.s (f : TxFlow) : Nat := perPacket f.p f.r96
def TxFlow.bps (f : TxFlow) : Nat := if f.l24 then 3 else 2

/-- Flow states (R285). -/
def fwWaiting : Nat := 1
def fwPlaying : Nat := 2
def fwHolding : Nat := 3
def fwFading : Nat := 4
def fwSilent : Nat := 5
def fwFadeIn : Nat := 6
def fwRemoving : Nat := 7

/-! ### The tables -/

def rxFlow (s : State) (i : Nat) : Option RxFlow := s.net.rx.find? (fun f => f.idx == i)
def txFlow (s : State) (i : Nat) : Option TxFlow := s.net.tx.find? (fun f => f.idx == i)

/-- A leg of a receive flow. -/
def RxFlow.legOf (f : RxFlow) (l : Nat) : RxLeg :=
  f.leg.getD l ⟨0, 0, 0, 0, 0, 0, 0, 0, 0, 0, 0, none, none, false, false⟩

/-- A leg of a transmit flow. -/
def TxFlow.legOf (f : TxFlow) (l : Nat) : TxLeg := f.leg.getD l ⟨0, 0, 0, 0, 0, 0⟩

/-- Whether a flow uses leg `l`. -/
def hasLeg (legs l : Nat) : Bool := legs / 2 ^ l % 2 == 1

/-- Bring `RXF_STAT` of flow `f` up to date (R285). -/
def rxStat (s : State) (f : RxFlow) : State :=
  let i := f.idx
  let s := setF s (F.RXF_STAT_STATE i) (if f.rm.isSome then fwRemoving else f.st)
  let s := putF s (F.RXF_STAT_LEG_P_UP i) (f.legOf 0).up
  let s := putF s (F.RXF_STAT_LEG_S_UP i) (f.legOf 1).up
  setF s (F.RXF_STAT_FILL i) (min f.buf.length 255)

/-- Put a receive flow back into the table. -/
def putRx (s : State) (f : RxFlow) : State :=
  rxStat { s with net := { s.net with rx := s.net.rx.map (fun g => if g.idx == f.idx then f else g) } } f

/-- Bring `TXF_STAT` of flow `f` up to date (R285). -/
def txStat (s : State) (f : TxFlow) (st : Nat) : State := setF s (F.TXF_STAT_STATE f.idx) (if f.rm.isSome then 3 else st)

/-- Put a transmit flow back into the table. -/
def putTx (s : State) (f : TxFlow) : State :=
  { s with net := { s.net with tx := s.net.tx.map (fun g => if g.idx == f.idx then f else g) } }

/-- Insert in ascending order of index. -/
def insRx (f : RxFlow) : List RxFlow → List RxFlow
  | [] => [f]
  | g :: t => if f.idx < g.idx then f :: g :: t else g :: insRx f t

def insTx (f : TxFlow) : List TxFlow → List TxFlow
  | [] => [f]
  | g :: t => if f.idx < g.idx then f :: g :: t else g :: insTx f t

/-- Log a flow event; receive flows are function 0x08, transmit flows 0x09 (R289). -/
def flowEv (s : State) (tx : Bool) (code sev : Nat) (args : List Byte) : State :=
  logEv s code (if tx then 0x09 else 0x08) sev args

/-- Remember what the loss window reports: once per kind and flow (R274). -/
def lossMark (s : State) (kind leg : Nat) (f : RxFlow) : State :=
  if s.net.marks.any (fun m => m.kind == kind && m.flow == f.idx && m.at_ / 960 == s.sctr.toNat / 960) then s
  else { s with net := { s.net with marks := s.net.marks ++ [⟨kind, leg, f.idx, f.source, s.sctr.toNat⟩] } }

/-! ### The entries (R260, R262, R263, R275) -/

/-- The offset of the first byte that is not zero in `n` bytes from `o`. -/
def firstNonzero (e : List Byte) (o n : Nat) : Option Nat :=
  ((List.range n).map (· + o)).find? (fun i => leAt e i 1 != 0)

/-- The fields of leg `l` of an entry: offsets and sizes. -/
def legFields (tx : Bool) (l : Nat) : List (Nat × Nat) :=
  if tx then let o := 0x10 + 16 * l; [(o, 4), (o + 4, 4), (o + 8, 2), (o + 10, 2), (o + 12, 2), (o + 14, 2)]
  else let o := 0x18 + 12 * l; [(o, 4), (o + 4, 4), (o + 8, 2), (o + 10, 2)]

/-- The offset of a leg's VID field. -/
def vidField (tx : Bool) (l : Nat) : Nat := if tx then 0x1C + 16 * l else 0x22 + 12 * l

/-- The first field that breaks the entry's format, in ascending order of offset (R262, `FLOW_FORMAT`). -/
def formatField (e : List Byte) (tx : Bool) : Option Nat :=
  let fmt := leAt e 2 1
  let legs := leAt e 9 1
  let bad : List (Nat × Bool) :=
    [(2, decide (2 ≤ fmt % 4) || fmt / (if tx then 16 else 32) != 0), (3, decide (5 ≤ leAt e 3 1)),
     (4, leAt e 4 1 == 0 || decide (64 < leAt e 4 1)), (5, decide (128 ≤ leAt e 5 1)), (9, legs / 4 != 0)] ++
    (if tx then [(0x0A, leAt e 0x0A 1 / 8 != 0), (0x0B, leAt e 0x0B 1 != 0)] else []) ++
    [0, 1].flatMap (fun l =>
      if hasLeg legs l then
        [(vidField tx l, leAt e (vidField tx l) 2 / 4096 != 0)] ++
        (if tx then [(vidField tx l + 2, leAt e (vidField tx l + 2) 2 != 0)] else [])
      else (legFields tx l).map (fun f => (f.1, leAt e f.1 f.2 != 0))) ++
    [(0x30, (firstNonzero e 0x30 16).isSome)]
  (bad.find? (·.2)).map (·.1)

/-- The entry's receive flow, its legs in place, as an add accepted makes it. -/
def rxEntry (e : List Byte) : RxFlow :=
  let fmt := leAt e 2 1
  let leg := fun l =>
    let o := 0x18 + 12 * l
    (⟨beAt e o 4, beAt e (o + 4) 4, leAt e (o + 8) 2, leAt e (o + 10) 2, 0, 0, 0, 0, 0, 0, 0, none, none, false, false⟩ : RxLeg)
  let ch := leAt e 4 1
  { idx := leAt e 0 2, l24 := fmt % 2 == 1, r96 := fmt / 4 % 2 == 1, filter := fmt / 8 % 2 == 1, ssrcCheck := fmt / 16 % 2 == 1,
    ptime := leAt e 3 1, ch := ch, pt := leAt e 5 1, base := leAt e 6 2, depth := leAt e 8 1, legs := leAt e 9 1 % 4,
    hold := leAt e 0x0A 2, source := leAt e 0x0C 4, ssrc := leAt e 0x10 4, tsOfs := leAt e 0x14 4, leg := [leg 0, leg 1],
    pages := 0, st := fwWaiting, h := 0, k := 0, last := List.replicate ch 0, v := List.replicate ch 0, restoring := false,
    buf := [], phase := none, rm := none, rmk := 0, rmCh := none, due := 0, hist := [], heldSp := 0, holds := 0, fades := 0,
    missing := 0 }

/-- The entry's transmit flow. -/
def txEntry (e : List Byte) : TxFlow :=
  let fmt := leAt e 2 1
  let leg := fun l =>
    let o := 0x10 + 16 * l
    (⟨beAt e o 4, beAt e (o + 4) 4, leAt e (o + 8) 2, leAt e (o + 10) 2, leAt e (o + 12) 2, 0⟩ : TxLeg)
  { idx := leAt e 0 2, l24 := fmt % 2 == 1, r96 := fmt / 4 % 2 == 1, filter := fmt / 8 % 2 == 1, ptime := leAt e 3 1,
    ch := leAt e 4 1, pt := leAt e 5 1, base := leAt e 6 2, ofs := leAt e 8 1, legs := leAt e 9 1 % 4, pcp := leAt e 0x0A 1,
    ssrc := leAt e 0x0C 4, leg := [leg 0, leg 1], first := 0, acc := [], samples := [], formed := true, hist := [], held := [],
    rm := none, rmCh := none }

/-- The legs an entry sets. -/
def legsOf (legs : Nat) : List Nat := [0, 1].filter (hasLeg legs)

/-- The refusal of an entry by the checks both tables share, from `FLOW_DISABLED` to `FLOW_CHAN_OVERLAP` but for the
addresses (R262): code and detail. `spans` are the channels in use, `used` the indices. -/
def entryRefusal (s : State) (e : List Byte) (tx : Bool) (used : List Nat) : Option (Nat × Nat) :=
  let legs := leAt e 9 1
  if !fnOn s (if tx then 0x09 else 0x08) then some (0x032F, 0)
  else if 511 < leAt e 0 2 ∨ used.contains (leAt e 0 2) then some (0x0321, 0)
  else if 512 ≤ used.length then some (0x0320, 0)
  else
    match formatField e tx with
    | some o => some (0x0322, o)
    | none => if legs = 0 ∨ (legsOf legs).any (fun l => (portOfRole s l).isNone) then some (0x0329, 9) else none

/-- The first unusable address field of a receive entry (R262). -/
def rxAddrField (s : State) (e : List Byte) : Option Nat :=
  (legsOf (leAt e 9 1)).findSome? (fun l =>
    let o := 0x18 + 12 * l
    let dst := beAt e o 4
    if !(ipMulticast dst) && dst != ethIp s ((portOfRole s l).getD 0) then some o
    else if leAt e (o + 8) 2 = 0 then some (o + 8) else none)

/-- The first unusable address field of a transmit entry (R262). -/
def txAddrField (e : List Byte) : Option Nat :=
  (legsOf (leAt e 9 1)).findSome? (fun l =>
    let o := 0x10 + 16 * l
    let src := beAt e (o + 4) 4
    if ipMulticast src || src == 0xFFFFFFFF then some (o + 4)
    else if leAt e (o + 8) 2 = 0 then some (o + 8)
    else if leAt e (o + 10) 2 = 0 then some (o + 10) else none)

/-- The refusals from `FLOW_VID` to `FLOW_CHAN_OVERLAP` (R260, R262). -/
def shapeRefusal (s : State) (e : List Byte) (tx : Bool) (spans : List (Nat × Nat)) : Option (Nat × Nat) :=
  let legs := legsOf (leAt e 9 1)
  let fmt := leAt e 2 1
  let ch := leAt e 4 1
  let base := leAt e 6 2
  let pay := ch * perPacket (packetSp (leAt e 3 1)) (fmt / 4 % 2 == 1) * (if fmt % 2 = 1 then 3 else 2)
  match legs.find? (fun l => leAt e (vidField tx l) 2 % 4096 == 4095) with
  | some l => some (0x0331, vidField tx l)
  | none =>
    if legs.any (fun l => decide (getF s (F.ETH_CFG_MAX_FRAME ((portOfRole s l).getD 0 + 1)) < pay + 58)) then some (0x0325, 4)
    else if 2048 < base + ch then some (0x0323, 6)
    else if spans.any (fun x => decide (base < x.1 + x.2) && decide (x.1 < base + ch)) then some (0x0324, 6)
    else none

/-- The refusal of a receive entry (R262). -/
def rxRefusal (s : State) (e : List Byte) : Option (Nat × Nat) :=
  let f := rxEntry e
  match entryRefusal s e false (s.net.rx.map (·.idx)) with
  | some r => some r
  | none =>
    match rxAddrField s e with
    | some o => some (0x032A, o)
    | none =>
      match shapeRefusal s e false (s.net.rx.map (fun g => (g.base, g.ch))) with
      | some r => some r
      | none =>
        match (legsOf f.legs).find? (fun l => s.net.rx.any (fun g =>
            hasLeg g.legs l && (g.legOf l).dst == (f.legOf l).dst && (g.legOf l).port == (f.legOf l).port)) with
        | some l => some (0x032B, 0x18 + 12 * l)
        | none =>
          if f.depth = 0 ∨ 128 < f.depth ∨ 768 < f.b then some (0x0326, 8)
          else if 1536 < f.hold then some (0x0327, 0x0A)
          else if getF s F.POOL_STAT_FREE_PAGES < f.need then some (0x0328, 8)
          else none

/-- The refusal of a transmit entry; `mac` is what ARP resolved on each leg (R262). -/
def txRefusal (s : State) (e : List Byte) (mac : Nat → Option (BitVec 48)) : Option (Nat × Nat) :=
  let f := txEntry e
  match entryRefusal s e true (s.net.tx.map (·.idx)) with
  | some r => some r
  | none =>
    match txAddrField e with
    | some o => some (0x032A, o)
    | none =>
      match shapeRefusal s e true (s.net.tx.map (fun g => (g.base, g.ch))) with
      | some r => some r
      | none =>
        if f.p ≤ f.ofs ∨ (!f.r96 ∧ f.ofs % 2 = 1) then some (0x032D, 8)
        else
          match (legsOf f.legs).find? (fun l => !ipMulticast (f.legOf l).dst && (mac l).isNone) with
          | some l => some (0x032E, 0x10 + 16 * l)
          | none => none

/-- The number of flows in use, as the registers show it (R285). -/
def countFlows (s : State) : State :=
  setF (setF s F.POOL_STAT_RX_FLOWS s.net.rx.length) F.TXF_COUNT_TX_FLOWS s.net.tx.length

/-- The CP joins the group of a leg (R283). -/
def joinGroup (f : RxFlow) (s : State) (l : Nat) : State :=
  let g := f.legOf l
  if ipMulticast g.dst then igmpDo s (l, g.dst, g.src, true) else s

def execRxfAdd (c : Fin 8) (s : State) : Host.Outcome State Fault Refusal :=
  .next (serve s c.val 0x0301 (· == 64) false (fun s q =>
    match rxRefusal s q.payload with
    | some (code, detail) => (s, .refused code detail)
    | none =>
      let f := rxEntry q.payload
      let f := { f with pages := f.need }
      let s := setF s F.POOL_STAT_FREE_PAGES (getF s F.POOL_STAT_FREE_PAGES - f.pages)
      let s := countFlows { s with net := { s.net with rx := insRx f s.net.rx } }
      let s := (legsOf f.legs).foldl (joinGroup f) (rxStat s f)
      (flowEv s false 0x0368 sevInfo (le 1 0 ++ le 2 f.idx), .ok (le 2 f.pages))))

/-- The first sp n at or after `a` with n mod P = OFFSET. -/
def firstAt (a p ofs : Nat) : Nat := a + (ofs + p - a % p) % p

/-- The CP asks for the MAC address of a unicast destination of leg `l` (R262, R278, R282). -/
def askMac (f : TxFlow) (s : State) (l : Nat) : State :=
  match portOfRole s l with
  | some p => if ipMulticast (f.legOf l).dst then s else arpAsk s p (f.legOf l).dst
  | none => s

/-- The CP resolves again what it resolved before, and sends what IGMP owes, after a restart (R282). -/
def refreshNet (s : State) : State :=
  igmpFlush (s.net.tx.foldl (fun s f => (legsOf f.legs).foldl (askMac f) s) s)

def execTxfAdd (c : Fin 8) (macP macS : Option (BitVec 48)) (s : State) : Host.Outcome State Fault Refusal :=
  .next (serve s c.val 0x0303 (· == 64) false (fun s q =>
    let mac := fun l => if l = 0 then macP else macS
    let s := if (txRefusal s q.payload (fun _ => some 0)).isNone then (legsOf (txEntry q.payload).legs).foldl (askMac (txEntry q.payload)) s else s
    match txRefusal s q.payload mac with
    | some (code, detail) => (s, .refused code detail)
    | none =>
      let f := txEntry q.payload
      let n := firstAt (s.sctr.toNat + 2) f.p f.ofs
      let leg := [0, 1].map (fun l =>
        let g := f.legOf l
        { g with mac := if ipMulticast g.dst then BitVec.ofNat 48 (groupMac g.dst) else (mac l).getD 0 })
      let f := { f with first := n, leg := leg }
      let s := countFlows { s with net := { s.net with tx := insTx f s.net.tx } }
      (flowEv (txStat s f 1) true 0x0368 sevInfo (le 1 1 ++ le 2 f.idx), .ok (le 8 n))))

def execRxfStats (c : Fin 8) (s : State) : Host.Outcome State Fault Refusal :=
  .next (serve s c.val 0x0305 (· == 2) false (fun s q =>
    match rxFlow s (leAt q.payload 0 2) with
    | none => (s, .refused 0x0321 0)
    | some f =>
      let w := fun (x : Word) => le 4 x.toNat
      let legs := f.leg.flatMap (fun l => w l.received ++ w l.duplicate ++ w l.late ++ w l.early ++ w l.formatErr ++
        w l.srcMismatch ++ w l.seqGap)
      let clear := f.leg.map (fun l => { l with received := 0, duplicate := 0, late := 0, early := 0, formatErr := 0,
                                                srcMismatch := 0, seqGap := 0 })
      (putRx s { f with leg := clear, heldSp := 0, holds := 0, fades := 0, missing := 0 },
       .ok (w f.heldSp ++ w f.holds ++ w f.fades ++ w f.missing ++ legs))))

/-- A bitmap of 512 indices as 64 bytes (R287). -/
def bitmap (l : List Nat) : List Byte :=
  (List.range 64).map (fun i => BitVec.ofNat 8 (((List.range 8).map (fun b => if l.contains (8 * i + b) then 2 ^ b else 0)).sum))

def execFlowList (c : Fin 8) (s : State) : Host.Outcome State Fault Refusal :=
  .next (serve s c.val 0x0306 (· == 1) false (fun s q =>
    match leAt q.payload 0 1 with
    | 0 => (s, .ok (bitmap (s.net.rx.map (·.idx))))
    | 1 => (s, .ok (bitmap (s.net.tx.map (·.idx))))
    | _ => (s, .refused 0x0322 0)))

/-! ### Receiving (R264 to R267, R271) -/

/-- What a UDP payload holds as RTP (R258): version, payload type, sequence number, timestamp, SSRC, and the payload without
CSRC list, header extension and padding; a packet too short for its parts has none. -/
structure Rtp where
  version : Nat
  pt : Nat
  seq : Nat
  ts : Nat
  ssrc : Nat
  payload : Option (List Byte)
  deriving DecidableEq, Repr

/-- Read an RTP packet. -/
def rtpOf (u : List Byte) : Rtp :=
  let b0 := leAt u 0 1
  let cc := b0 % 16
  let ext := b0 / 16 % 2
  let h := 12 + 4 * cc
  let h := if ext = 1 then h + 4 + 4 * beAt u (h + 2) 2 else h
  let pad := if b0 / 32 % 2 = 1 then leAt u (u.length - 1) 1 else 0
  { version := b0 / 64, pt := leAt u 1 1 % 128, seq := beAt u 2 2, ts := beAt u 4 4, ssrc := beAt u 8 4,
    payload := if u.length < h + pad then none else some ((u.drop h).take (u.length - h - pad)) }

/-- Why a packet fails the format check: 1 version, 2 payload type, 3 SSRC, 4 length (R264, R289). -/
def formatReason (f : RxFlow) (r : Rtp) : Option Nat :=
  if r.version ≠ 2 then some 1
  else if r.pt ≠ f.pt then some 2
  else if f.ssrcCheck ∧ r.ssrc ≠ f.ssrc then some 3
  else
    match r.payload with
    | some p => if p.length = f.ch * f.s * f.bps then none else some 4
    | none => some 4

/-- The media sp of a packet's first sample, from its timestamp and the arrival SCTR `a` (R265). -/
def mediaSp (r96 : Bool) (ts tsOfs a : Nat) : Int :=
  let t : Int := ((ts : Int) - tsOfs) % 2 ^ 32
  if r96 then (a : Int) + ((t - a + 2 ^ 31) % 2 ^ 32) - 2 ^ 31
  else
    let k0 : Int := (a / 2 : Nat)
    2 * (k0 + ((t - k0 + 2 ^ 31) % 2 ^ 32) - 2 ^ 31)

/-- The samples of a payload as binary32, exactly (R267). -/
def pcmWords (bps : Nat) (p : List Byte) : List Word :=
  (List.range (p.length / bps)).map (fun i =>
    let v := beAt p (bps * i) bps
    let x : Int := if 2 ^ (8 * bps - 1) ≤ v then (v : Int) - 2 ^ (8 * bps) else v
    intF x (1 - 8 * (bps : Int)))

/-- Put leg `l` back into a flow. -/
def RxFlow.withLeg (f : RxFlow) (l : Nat) (x : RxLeg) : RxFlow := { f with leg := f.leg.set l x }

/-- A packet written or duplicated on a leg of a seamless flow: the leg is up, and reported where it had been down (R271). -/
def legAlive (s : State) (f : RxFlow) (l : Nat) : State × RxFlow :=
  let x := f.legOf l
  let s := if f.legs == 3 && !x.up && x.wasDown then lossMark s 3 l f else s
  (s, f.withLeg l { x with okAt := some s.sctr.toNat, up := f.legs == 3 })

/-- A packet that passed R264, steps 1 and 2, is placed (R264, steps 3 to 6). -/
def placePacket (s : State) (f : RxFlow) (l : Nat) (n : Int) (pay : List Byte) : State :=
  let a : Int := s.sctr.toNat
  let x := f.legOf l
  let args := le 2 f.idx ++ le 1 l
  if a < n then setFault (flowEv (putRx s (f.withLeg l { x with early := satAdd x.early 1 })) false 0x0365 sevWarning args) 3 2
  else if n + f.d - 1 ≤ a then
    setFault (flowEv (putRx s (f.withLeg l { x with late := satAdd x.late 1 })) false 0x0364 sevWarning args) 3 1
  else
    let (s, f) := legAlive s f l
    let x := f.legOf l
    if f.buf.any (fun p => p.n == n) then putRx s (f.withLeg l { x with duplicate := satAdd x.duplicate 1 })
    else
      let f := f.withLeg l { x with received := satAdd x.received 1 }
      putRx s { f with buf := f.buf ++ [⟨n, pcmWords f.bps pay⟩], phase := some ((n % f.p).toNat) }

/-- The flow hardware takes a media packet of flow `f` on leg `l` (R264). -/
def mediaPacket (s : State) (f : RxFlow) (l src : Nat) (udp : List Byte) : State :=
  let x := f.legOf l
  if x.src ≠ 0 ∧ x.src ≠ src then putRx s (f.withLeg l { x with srcMismatch := satAdd x.srcMismatch 1 })
  else
    let r := rtpOf udp
    let gap := match x.seq with
      | some q => r.seq != (q + 1) % 65536
      | none => false
    let x := { x with seqGap := if gap then satAdd x.seqGap 1 else x.seqGap, seq := some r.seq }
    let f := f.withLeg l x
    match formatReason f r with
    | some why =>
      let s := putRx s (f.withLeg l { x with formatErr := satAdd x.formatErr 1 })
      setFault (flowEv s false 0x0366 sevWarning (le 2 f.idx ++ le 1 l ++ le 1 why)) 3 3
    | none => placePacket s f l (mediaSp f.r96 r.ts f.tsOfs s.sctr.toNat) (r.payload.getD [])

/-! ### Staging (R269, R272, R273) -/

/-- The packet that holds media sp `m`. -/
def packetOf (f : RxFlow) (m : Int) : Option RxPkt :=
  f.buf.find? (fun p => decide (p.n ≤ m) && decide (m < p.n + f.p))

/-- The samples of media sp `m` in a packet, channel by channel. -/
def rowOf (f : RxFlow) (p : RxPkt) (m : Int) : List Word :=
  let j := (m - p.n).toNat
  (p.samples.drop ((if f.r96 then j else j / 2) * f.ch)).take f.ch

/-- Fade-out step `k` from held values; step 32 is +0.0 (R273). -/
def fadeOut (v : List Word) (k : Nat) : List Word :=
  if 32 ≤ k then v.map (fun _ => 0) else v.map (fun x => (fmul x (intF (32 - (k : Int)) (-5))).w)

/-- Fade-in step `k` of the present samples; step 32 is the sample (R273). -/
def fadeInRow (x : List Word) (k : Nat) : List Word :=
  if 32 ≤ k then x else x.map (fun w => (fmul w (intF (k : Int) (-5))).w)

/-- What the state machine of R272 does at one staging sp: the flow with its new state, the values staged, and whether the
flow enters HOLDING, enters FADING, or enters PLAYING from a fade-in that restores it. -/
structure Staged where
  f : RxFlow
  row : List Word
  holding : Bool
  fading : Bool
  restored : Bool
  deriving DecidableEq, Repr

/-- Enter FADING from the values last staged (R272). -/
def enterFading (f : RxFlow) : Staged :=
  ⟨{ f with st := fwFading, v := f.last, k := 2, restoring := false, fades := satAdd f.fades 1 }, fadeOut f.last 1, false,
   true, false⟩

/-- Hold the last staged value (R272). -/
def holdStep (f : RxFlow) (h : Nat) (enter : Bool) : Staged :=
  ⟨{ f with st := fwHolding, h := h, restoring := false, heldSp := satAdd f.heldSp 1,
            holds := if enter then satAdd f.holds 1 else f.holds }, f.last, enter, false, false⟩

/-- One step of the state machine of R272, with the sample row where it is present. -/
def stageStep (f : RxFlow) (row : Option (List Word)) : Staged :=
  if f.st = fwFading then
    if f.k < 32 then ⟨{ f with k := f.k + 1 }, fadeOut f.v f.k, false, false, false⟩
    else ⟨{ f with st := fwSilent }, fadeOut f.v 32, false, false, false⟩
  else
    match row with
    | some x =>
      if f.st = fwWaiting ∨ f.st = fwSilent then
        ⟨{ f with st := fwFadeIn, k := 2, restoring := decide (f.st = fwSilent) }, fadeInRow x 1, false, false, false⟩
      else if f.st = fwFadeIn then
        if f.k < 32 then ⟨{ f with k := f.k + 1 }, fadeInRow x f.k, false, false, false⟩
        else ⟨{ f with st := fwPlaying, restoring := false }, x, false, false, f.restoring⟩
      else ⟨{ f with st := fwPlaying }, x, false, false, false⟩
    | none =>
      if f.st = fwWaiting ∨ f.st = fwSilent then ⟨f, List.replicate f.ch 0, false, false, false⟩
      else if f.st = fwHolding then (if f.h < f.hold then holdStep f (f.h + 1) false else enterFading f)
      else if 0 < f.hold then holdStep f 1 true
      else enterFading f

/-- Stage the values of a flow for the next sp: a 48 kHz flow's pass its interpolator (R198, R266, R269). -/
def stageRow (s : State) (f : RxFlow) (row : List Word) (entry : Bool) : State × RxFlow :=
  let f := { f with last := row }
  if f.r96 then ({ s with dsp := { s.dsp with staging := memSetList s.dsp.staging f.base row } }, f)
  else
    let hist := ((if entry then row else List.replicate f.ch 0) :: f.hist).take 64
    let out := (List.range f.ch).map (fun c => fir 0 f.filter (hist.map (fun r => r.getD c 0)))
    ({ s with dsp := { s.dsp with staging := memSetList s.dsp.staging f.base out } }, { f with hist := hist })

/-- Drop the packets whose last sample has been staged. -/
def trimBuf (f : RxFlow) (m : Int) : RxFlow := { f with buf := f.buf.filter (fun p => decide (m + 1 < p.n + f.p)) }

/-- The media sp that is staged for sp `t`. -/
def stagedSp (f : RxFlow) (t : Nat) : Int := (t : Int) - f.d

/-- Which row of the table ends this staging, if any: 1 hold limit, 2 fade complete, 3 fade-in complete (R272). -/
def dueOf (f : RxFlow) (present : Bool) : Nat :=
  if f.st = fwFading ∧ f.k = 32 then 2
  else if f.st = fwHolding ∧ !present ∧ f.hold ≤ f.h then 1
  else if f.st = fwFadeIn ∧ present ∧ f.k = 32 then 3
  else 0

/-- Stage flow `f` for sp `t` under R272. A missing packet counts once, where its first sample would be: packets begin at the phase of the
last one written, at phase 0 where none has been (R269, log entry 54). -/
def stageFlow (s : State) (f : RxFlow) (t : Nat) : State :=
  let m := stagedSp f t
  let pkt := packetOf f m
  let r := stageStep f (pkt.map (fun p => rowOf f p m))
  let miss := pkt.isNone && (m % f.p).toNat == f.phase.getD 0
  let g := { r.f with missing := if miss then satAdd r.f.missing 1 else r.f.missing, due := 0 }
  let s := if miss then bump s (R.RXF_MISS f.idx) else s
  let s := if r.holding || r.fading then setFault s 3 0 else s
  let s := if r.fading then lossMark s 0 0 f else s
  let s := if r.restored then lossMark s 1 0 f else s
  let (s, g) := stageRow s g r.row (m % 2 == 0)
  putRx s (trimBuf g m)

/-- Stage a flow under removal: 32 fade steps from its first staging sp, then +0.0 (R287). -/
def stageRemoval (s : State) (f : RxFlow) (t : Nat) : State :=
  let m := stagedSp f t
  let f := if f.rmk = 0 then { f with v := f.last } else f
  let k := min 32 (f.rmk + 1)
  let (s, g) := stageRow s { f with rmk := k } (fadeOut f.v k) (m % 2 == 0)
  putRx s (trimBuf g m)

/-- The staging of flow `f` for sp `t` at the boundary: a transition that is a command of its own waits for it. -/
def stageAt (s : State) (f : RxFlow) (t : Nat) : State :=
  match f.rm with
  | some n => if n ≤ t then stageRemoval s f t else stageFlow s f t
  | none =>
    let d := dueOf f (packetOf f (stagedSp f t)).isSome
    if d = 0 then stageFlow s f t else putRx s { f with due := d }

/-- Finish the transitions of the sp that ends now, where no command did. -/
def finishStaging (s : State) : State :=
  s.net.rx.foldl (fun s f => if f.due = 0 then s else stageFlow s f (s.sctr.toNat + 1)) s

/-- `FLOW_STAGING`: every receive flow stages for the sp after the current one (R266, R269). -/
def stageFlows (s : State) : State := s.net.rx.foldl (fun s f => stageAt s f (s.sctr.toNat + 1)) s

/-- A transition of R272 that was due. -/
def stageDue (s : State) (i kind : Nat) : State :=
  match rxFlow s i with
  | some f => if f.due = kind then stageFlow s f (s.sctr.toNat + 1) else s
  | none => s

def execHoldLimitExpiry (f : Fin 512) (s : State) : Host.Outcome State Fault Refusal := .next (stageDue s f.val 1)
def execFadeComplete (f : Fin 512) (s : State) : Host.Outcome State Fault Refusal := .next (stageDue s f.val 2)
def execFadeInComplete (f : Fin 512) (s : State) : Host.Outcome State Fault Refusal := .next (stageDue s f.val 3)

/-- Whether leg `l` of a seamless flow has had no packet for LEG_TIMEOUT packet times (R271). -/
def legSilent (s : State) (f : RxFlow) (l : Nat) : Bool :=
  match (f.legOf l).okAt with
  | some a => f.legs == 3 && (f.legOf l).up && decide (a + getF s F.RXF_CFG_LEG_TIMEOUT * f.p ≤ s.sctr.toNat)
  | none => false

def execLegTimeout (f : Fin 512) (leg : Fin 2) (s : State) : Host.Outcome State Fault Refusal :=
  match rxFlow s f.val with
  | some g =>
    if legSilent s g leg.val then
      let s := putRx s (g.withLeg leg.val { g.legOf leg.val with up := false, wasDown := true })
      .next (setFault (lossMark s 2 leg.val g) 3 4)
    else .next s
  | none => .next s

/-! ### Removal (R280, R287) -/

/-- A receive flow starts to fade out, from the first staging sp at least 2 sp after acceptance; a transition of R272 that is due in this
sp is staged first. -/
def rxStartRemove (s : State) (f : RxFlow) (ch : Option Nat) : State :=
  let s := if f.due = 0 then s else stageFlow s f (s.sctr.toNat + 1)
  match rxFlow s f.idx with
  | some g => putRx s { g with rm := some (s.sctr.toNat + 2), rmk := 0, rmCh := ch, due := 0 }
  | none => s

/-- The CP leaves the group of a leg of a removed flow, unless another flow on the leg uses it (R283). -/
def leaveGroup (f : RxFlow) (s : State) (l : Nat) : State :=
  let g := f.legOf l
  if !ipMulticast g.dst || s.net.rx.any (fun x => hasLeg x.legs l && (x.legOf l).dst == g.dst) then s
  else igmpDo s (l, g.dst, g.src, false)

/-- Drop a receive flow: its pages are free, its channels read +0.0, its groups are left; RXF_MISS keeps its count until it is read (R268,
R283, R285, R287). -/
def rxDrop (s : State) (f : RxFlow) : State :=
  let s := countFlows { s with net := { s.net with rx := s.net.rx.filter (fun g => g.idx != f.idx) } }
  let s := setF s F.POOL_STAT_FREE_PAGES (getF s F.POOL_STAT_FREE_PAGES + f.pages)
  let s := setR s (R.RXF_STAT f.idx) 0
  let s := { s with dsp := { s.dsp with staging := memSetList s.dsp.staging f.base (List.replicate f.ch 0) } }
  let s := (legsOf f.legs).foldl (leaveGroup f) s
  answer (flowEv s false 0x0369 sevInfo (le 1 0 ++ le 2 f.idx)) f.rmCh (.ok [])

/-- The first sp of the last packet whose sink reads have begun, if any of the flow's has (R280). -/
def txLast (s : State) (f : TxFlow) : Option Nat :=
  let n := s.sctr.toNat
  if n = 0 then none
  else
    let last := n - 1 - (n - 1 + f.p - f.ofs) % f.p
    if f.first ≤ last ∧ last < n then some last else none

/-- Drop a transmit flow. -/
def txDrop (s : State) (f : TxFlow) : State :=
  let s := countFlows { s with net := { s.net with tx := s.net.tx.filter (fun g => g.idx != f.idx) } }
  let s := setR s (R.TXF_STAT f.idx) 0
  answer (flowEv s true 0x0369 sevInfo (le 1 1 ++ le 2 f.idx)) f.rmCh (.ok [])

/-- A transmit flow is to be removed: once its last packet is formed. -/
def txStartRemove (s : State) (f : TxFlow) (ch : Option Nat) : State :=
  let f := { f with rm := some ((txLast s f).getD 0), rmCh := ch }
  txStat (putTx s f) f 3

def execRxfRemove (c : Fin 8) (s : State) : Host.Outcome State Fault Refusal :=
  .next (serve s c.val 0x0302 (· == 2) false (fun s q =>
    match rxFlow s (leAt q.payload 0 2) with
    | some f => if f.rm.isSome then (s, .refused 0x0321 0) else (rxStartRemove (commit s c.val) f (some c.val), .later)
    | none => (s, .refused 0x0321 0)))

def execTxfRemove (c : Fin 8) (s : State) : Host.Outcome State Fault Refusal :=
  .next (serve s c.val 0x0304 (· == 2) false (fun s q =>
    match txFlow s (leAt q.payload 0 2) with
    | some f => if f.rm.isSome then (s, .refused 0x0321 0) else (txStartRemove (commit s c.val) f (some c.val), .later)
    | none => (s, .refused 0x0321 0)))

/-- Disabling a table removes every flow of it (R287). -/
def removeAll (s : State) (tx : Bool) : State :=
  if tx then s.net.tx.foldl (fun s f => if f.rm.isSome then s else txStartRemove s f none) s
  else s.net.rx.foldl (fun s f => if f.rm.isSome then s else rxStartRemove s f none) s

/-- Whether a transmit flow's last packet has gone: formed, and no longer held (R280). -/
def txDone (s : State) (f : TxFlow) : Bool :=
  match f.rm with
  | some n => (decide (n + f.p < s.sctr.toNat) || (decide (n + f.p = s.sctr.toNat) && f.formed) || n == 0) && f.held.isEmpty
  | none => false

/-- Whether a receive flow's 32 fade steps have been in the input region: from the next sp on its channels read +0.0
(R287). -/
def rxDone (s : State) (f : RxFlow) : Bool :=
  match f.rm with
  | some n => f.rmk == 32 && decide (n + 32 ≤ s.sctr.toNat)
  | none => false

def execFlowRemoved (tx : Bool) (f : Fin 512) (s : State) : Host.Outcome State Fault Refusal :=
  if tx then
    match txFlow s f.val with
    | some g => if txDone s g then .next (txDrop s g) else .next s
    | none => .next s
  else
    match rxFlow s f.val with
    | some g => if rxDone s g then .next (rxDrop s g) else .next s
    | none => .next s

/-! ### Loss windows (R274) -/

/-- The event of one kind and source, over the marks it concerns: a leg's event names the leg of the lowest flow (R274, R289, log entry
54). -/
def lossEvent (s : State) (kind source : Nat) (ms : List LossMark) : State :=
  let n := ms.length
  let low := ms.foldl (fun b m => min b m.flow) 511
  let leg := ((ms.find? (fun m => m.flow == low)).map (·.leg)).getD 0
  if kind < 2 then flowEv s false (0x0360 + kind) (if kind = 0 then sevError else sevNotice) (le 4 source ++ le 2 n ++ le 2 low)
  else flowEv s false (0x0360 + kind) (if kind = 2 then sevWarning else sevNotice) (le 4 source ++ le 2 n ++ le 1 leg)

/-- Insert a number into an ascending list without repeats. -/
def insNat (x : Nat) : List Nat → List Nat
  | [] => [x]
  | y :: t => if x < y then x :: y :: t else if x = y then y :: t else y :: insNat x t

/-- The source IDs of marks, ascending, each once. -/
def sourcesOf (ms : List LossMark) : List Nat :=
  ms.foldl (fun l m => insNat m.source l) []

/-- Report marks: one event per source ID and kind, in ascending order of source ID. -/
def reportLoss (s : State) (ms : List LossMark) : State :=
  (sourcesOf ms).foldl (fun s src =>
    [0, 1, 2, 3].foldl (fun s k =>
      match ms.filter (fun m => m.source == src && m.kind == k) with
      | [] => s
      | l => lossEvent s k src l) s) s

/-- A source ID and the number of its flows reported lost, from which peer-loss reports derive (R371). -/
def lostSources (ms : List LossMark) : List (Nat × Nat) :=
  (sourcesOf (ms.filter (fun m => m.kind == 0))).map (fun src =>
    (src, (ms.filter (fun m => m.kind == 0 && m.source == src)).length))

/-- Whether a report of source `src` at sp `t` would follow another within 100 ms, 9,600 sp: one sent, or one that waits (R371). -/
def lostTooSoon (s : State) (src t : Nat) : Bool :=
  s.net.lostAt.any (fun a => a.1 == src && decide (t < a.2 + 9600)) ||
  s.net.lostQ.any (fun a => a.1 == src && decide (t < a.2.2 + 9600))

/-- A `SOURCE_LOST` event derives one peer-loss report, after a random delay of 0 to 2 ms (192 sp), which is free; at most one per source ID in
100 ms (R371). -/
def queueLost (s : State) (x : Nat × Nat) : State :=
  let t := s.sctr.toNat + (Config.freeWord s.free).toNat % 193
  let s := nextFree s
  if lostTooSoon s x.1 t then s else { s with net := { s.net with lostQ := s.net.lostQ ++ [(x.1, x.2, t)] } }

/-- The end of a loss window: the marks of the 960 sp before this boundary are reported. -/
def lossWindow (s : State) : State :=
  let t := s.sctr.toNat
  let old := s.net.marks.filter (fun m => decide (m.at_ < t))
  let s := { s with net := { s.net with marks := s.net.marks.filter (fun m => decide (t ≤ m.at_)) } }
  (lostSources old).foldl queueLost (reportLoss s old)

def execLossWindowEnd (s : State) : Host.Outcome State Fault Refusal :=
  if s.sctr.toNat % 960 = 0 then .next (lossWindow s) else .next s

/-! ### Transmit packets (R276 to R280) -/

/-- The value the sink reader read for transmit channel `c`, +0.0 where no entry names it (R275). -/
def txSink (s : State) (c : Nat) : Word := memGet s.dsp.sinkVals (4096 + c)

/-- A transmit flow takes the sink values of boundary SCTR (R276): they belong to the packet that begins at the sp `n`. -/
def gatherTx (s : State) (f : TxFlow) : State :=
  let t := s.sctr.toNat
  let j := (t + f.p - 1 - f.ofs) % f.p
  let n := t - 1 - j
  if t < 1 + j ∨ n < f.first then s
  else if (match f.rm with
    | some last => decide (last < n)
    | none => false) then s
  else
    let row := (List.range f.ch).map (fun c => txSink s (f.base + c))
    let f := if j = 0 then { f with acc := [], samples := [], formed := false } else f
    if f.r96 then putTx s { f with acc := f.acc ++ [row], samples := f.samples ++ [row] }
    else
      let hist := (row :: f.hist).take 64
      let out := (List.range f.ch).map (fun c => fir 1 f.filter (hist.map (fun r => r.getD c 0)))
      putTx s { f with acc := f.acc ++ [row], hist := hist, samples := if j % 2 = 1 then f.samples ++ [out] else f.samples }

/-- Every transmit flow takes its sink values. -/
def gatherFlows (s : State) : State := s.net.tx.foldl gatherTx s

/-- The RTP packet that begins at sp `n` (R276, R277, R33). -/
def rtpPacket (f : TxFlow) (n : Nat) : List Byte :=
  let ts := if f.r96 then n else n / 2
  let b := 8 * f.bps
  be 1 0x80 ++ be 1 f.pt ++ be 2 (n / f.p) ++ be 4 ts ++ be 4 f.ssrc ++
  f.samples.flatMap (fun r => r.flatMap (fun w => be f.bps (((toPcm b w) % 2 ^ b).toNat)))

/-- The frame of a packet on leg `l`, from port `p` (R241, R278). -/
def mediaFrame (s : State) (f : TxFlow) (l p n : Nat) : TxFrame :=
  let g := f.legOf l
  let src := if g.src = 0 then ethIp s p else g.src
  let udp := udpDatagram src g.dst g.sport g.dport (rtpPacket f n)
  let ip := ipHeader src g.dst (getF s F.TXF_CFG_DSCP) (getF s F.TXF_CFG_TTL) udp.length
  ⟨ethFrame g.mac.toNat (ethMac s p) g.vid f.pcp 0x0800 (ip ++ udp), s.sctr.toNat + f.p, none⟩

/-- Offer a packet to the media queue of its leg's port (R233, R240, R244, R279). `none` where the queue is full: the flow
hardware then holds it. -/
def offerMedia (s : State) (p : Nat) (fr : TxFrame) : Option State :=
  if !ethOn s p then some s
  else if mayNotDrive s then some (ethCount s p 44)
  else if isF s (F.ETH_STAT_LINK p) && decide (64 ≤ (ethQueue s p 1).length) then none
  else some (ethSend s p 1 fr)

/-- Offer the packet of flow `f` on leg `l`, or hold it. -/
def offerLeg (s : State) (f : TxFlow) (l n : Nat) : State :=
  match portOfRole s l with
  | none => s
  | some p =>
    let fr := mediaFrame s f l p n
    match offerMedia s p fr with
    | some s => s
    | none =>
      match txFlow s f.idx with
      | some g => putTx s { g with held := g.held ++ [(l, n, fr)] }
      | none => s

/-- The packet of flow `f` that begins at `n` is formed and offered (R279). -/
def formPacket (s : State) (f : TxFlow) (n : Nat) : State :=
  let f := { f with formed := true }
  let s := txStat (putTx s f) f 2
  (legsOf f.legs).foldl (fun s l => offerLeg s f l n) s

def execTxPacketForm (f : Fin 512) (s : State) : Host.Outcome State Fault Refusal :=
  match txFlow s f.val with
  | some g =>
    if g.acc.length = g.p ∧ !g.formed ∧ (s.sctr.toNat + g.p - g.ofs) % g.p = 0 then .next (formPacket s g (s.sctr.toNat - g.p))
    else .next s
  | none => .next s

/-- Form the packets that were due at the boundary of the sp that ends now, where no command did. -/
def finishPackets (s : State) : State :=
  s.net.tx.foldl (fun s f => if f.acc.length = f.p ∧ !f.formed then formPacket s f (s.sctr.toNat - f.p) else s) s

/-- Whether flow `f` holds a packet on leg `l` past boundary n + 2P (R279). -/
def heldTooLong (s : State) (f : TxFlow) (l : Nat) : Option (Nat × Nat × TxFrame) :=
  f.held.find? (fun h => h.1 == l && decide (h.2.1 + 2 * f.p ≤ s.sctr.toNat))

def execTxfHeldDrop (f : Fin 512) (leg : Fin 2) (s : State) : Host.Outcome State Fault Refusal :=
  match txFlow s f.val with
  | some g =>
    match heldTooLong s g leg.val with
    | some h =>
      let s := bump (putTx s { g with held := g.held.filter (· != h) }) (R.TXF_HELD_DROP f.val)
      .next (setFault (flowEv s true 0x0367 sevWarning (le 2 f.val ++ le 1 leg.val)) 3 5)
    | none => .next s
  | none => .next s

/-- The held packet that is offered first on leg `l`: of the lowest flow, not past its time (R279). -/
def nextHeld (s : State) (l : Nat) : Option (TxFlow × Nat × Nat × TxFrame) :=
  s.net.tx.findSome? (fun f =>
    (f.held.find? (fun h => h.1 == l && decide (s.sctr.toNat < h.2.1 + 2 * f.p))).map (fun h => (f, h)))

/-- Offer held packets while the media queue of port `p` takes them, at most `n`. -/
def offerSome (s : State) (l p : Nat) : Nat → State
  | 0 => s
  | n + 1 =>
    match nextHeld s l with
    | none => s
    | some (f, h) =>
      match offerMedia s p { h.2.2 with due := s.sctr.toNat + f.p } with
      | some s => offerSome (putTx s { f with held := f.held.filter (· != h) }) l p n
      | none => s

/-- The media queue of the port with role `l` has room: held packets are offered, in ascending flow index (R279). -/
def offerHeld (s : State) (l p : Nat) : State := offerSome s l p ((s.net.tx.map (fun f => f.held.length)).sum)

/-- The enable checks of functions 0x08 and 0x09 (R284): refusal code and field. -/
def flowCheck (s : State) (tx : Bool) : Option (Nat × Nat) :=
  if tx then (if getF s F.TXF_CFG_TTL = 0 then some (0x0322, 0) else none)
  else if getF s F.RXF_CFG_LEG_TIMEOUT < 2 then some (0x0322, 0) else none

end Sys2Proof.Machine
end

