-- ==== Sys2Proof/Machine/RxGate.lean ====
section
/-! DEFINITION. The receive path of a port up to classification (R235, R236, R238, R239): the parts of a frame, the filters, the checks in
their order, the policer of control frames. A frame comes as bytes, or taken apart by the command that brings it; both pass `rxGate`. -/

namespace Sys2Proof.Machine

/-! ### Frames taken apart -/

/-- A received frame taken apart: destination, EtherType of the outer tag or frame, VID, tag bytes, and what follows. -/
structure RxParts where
  dst : Nat
  etype : Nat
  vid : Nat
  tag : Nat
  body : List Byte
  deriving DecidableEq, Repr

/-- Take a frame apart. A single tag of TPID 0x8100 is removed (R236). -/
def rxParts (b : List Byte) : RxParts :=
  if beAt b 12 2 = 0x8100 then ⟨beAt b 0 6, beAt b 16 2, beAt b 14 2 % 4096, 4, b.drop 18⟩
  else ⟨beAt b 0 6, beAt b 12 2, 0, 0, b.drop 14⟩

/-- Whether port `p` carries PTP: its role's instance is enabled (R232, R236; log entry 15). -/
def carriesPtp (s : State) (p : Nat) : Bool := decide (ethRole s p ≤ 1) && fnOn s (0x21 + ethRole s p)

/-- Whether a receive flow of the table uses port `p`, and how. -/
def flowsOn (s : State) (p : Nat) : List RxLeg :=
  if 2 ≤ ethRole s p then []
  else s.net.rx.filterMap (fun f => if hasLeg f.legs (ethRole s p) then some (f.legOf (ethRole s p)) else none)

/-- The destination filter (R236). -/
def dstAccepted (s : State) (p dst : Nat) : Bool :=
  dst == ethMac s p || dst == 0xFFFFFFFFFFFF || dst == 0x0180C2000001 || dst == 0x01005E000001 ||
  (dst == 0x01005E000181 && carriesPtp s p) || (ethPort s p).listen.any (fun m => m.toNat == dst) ||
  (flowsOn s p).any (fun l => ipMulticast l.dst && groupMac l.dst == dst)

/-- The VLAN filter (R236). -/
def vlanAccepted (s : State) (p etype vid : Nat) : Bool :=
  etype != 0x88A8 && etype != 0x8100 &&
  (vid == 0 || vid == getF s (F.ETH_CFG_VLAN_CTL_VID (p + 1)) || (flowsOn s p).any (fun l => l.vid % 4096 == vid))

/-- The subtypes the pair logic defines (R357). -/
def pairSubtype (k : Nat) : Bool := (decide (1 ≤ k) && decide (k ≤ 5)) || (decide (0x10 ≤ k) && decide (k ≤ 0x13))

/-- Whether an IPv4 header breaks R235, step 8. -/
def ipBad (b : List Byte) : Bool :=
  let ihl := leAt b 0 1 % 16
  let tot := beAt b 2 2
  leAt b 0 1 / 16 != 4 || decide (ihl < 5) || decide (b.length < 4 * ihl) || decide (b.length < tot) || decide (tot < 4 * ihl) ||
  fold16 (sum16 (b.take (4 * ihl))) != 65535

/-- Whether a datagram is a fragment (R235, step 8). -/
def ipFragment (b : List Byte) : Bool := beAt b 6 2 / 2 ^ 13 % 2 == 1 || beAt b 6 2 % 2 ^ 13 != 0

/-- The transport part of an IPv4 packet. -/
def ipBody (b : List Byte) : List Byte := (b.take (beAt b 2 2)).drop (4 * (leAt b 0 1 % 16))

/-- Whether the UDP or TCP checksum fails (R235, step 9). -/
def l4Bad (b : List Byte) : Bool :=
  let proto := leAt b 9 1
  let u := ipBody b
  let ok := fold16 (sum16 ((b.drop 12).take 8 ++ be 2 proto ++ be 2 u.length) + sum16 u) == 65535
  (proto == 17 && beAt u 6 2 != 0 && !ok) || (proto == 6 && !ok)

/-! ### The checks in their order (R235, steps 1 to 9) -/

/-- What the checks see of a frame: its length with the FCS, its destination, EtherType, VID and the bytes of its tag, the first byte of its
payload, and what fails of it. -/
structure RxSeen where
  len : Nat
  dst : Nat
  etype : Nat
  vid : Nat
  tag : Nat
  sub : Nat
  bad : Bool
  full : Bool
  hdrErr : Bool
  frag : Bool
  csumErr : Bool
  deriving DecidableEq, Repr

/-- Steps 1 to 3: the state with the frame counted, and whether it goes on. A frame that finds the FIFO full is dropped beside them
(R238). -/
def rxEarly (s : State) (p : Nat) (x : RxSeen) : State × Bool :=
  if x.len < 64 then (ethCount s p 5, false)
  else if x.full then (setFault (logEv (ethCount s p 9) 0x0265 (p + 1) sevWarning []) 2 (16 + p), false)
  else if getF s (F.ETH_CFG_MAX_FRAME (p + 1)) + x.tag < x.len then (ethCount s p 7, false)
  else if x.bad then (ethCount s p 6, false)
  else (rxCounted s p x.len (if x.dst = 0xFFFFFFFFFFFF then 4 else if x.dst / 2 ^ 40 % 2 = 1 then 3 else 2) x.tag, true)

/-- Steps 5 to 9. -/
def rxLate (s : State) (p : Nat) (x : RxSeen) : State × Bool :=
  let pair := ethRole s p == 2
  if !dstAccepted s p x.dst then (ethCount s p 10, false)
  else if !vlanAccepted s p x.etype x.vid then (ethCount s p 11, false)
  else if x.etype = 0x88B5 then (if pair && pairSubtype x.sub then (ethCount s p 21, true) else (ethCount s p 22, false))
  else if pair || (x.etype != 0x0800 && x.etype != 0x0806) then (ethCount s p 12, false)
  else if x.etype = 0x0806 then (s, true)
  else if x.hdrErr then (ethCount s p 13, false)
  else if x.frag then (ethCount s p 14, false)
  else if x.csumErr then (ethCount s p 15, false)
  else (s, true)

/-- The receive path of port `p` up to classification: the state with the frame counted, and whether it passes. A MAC control frame ends at
step 4. -/
def rxGate (s : State) (p : Nat) (x : RxSeen) : State × Bool :=
  let r := rxEarly s p x
  if !r.2 then r else if x.etype = 0x8808 then r else rxLate r.1 p x

/-- A frame that a command gives taken apart passes the receive path of its port. -/
def rxHead (s : State) (h : RxHead) (etype sub : Nat) : State × Bool :=
  if ethUp s h.port.val then
    rxGate s h.port.val ⟨h.len.toNat, h.dst.toNat, etype, (h.vid.getD 0).toNat, if h.vid.isSome then 4 else 0, sub, h.bad, h.full, h.hdrErr,
      h.frag, h.csumErr⟩
  else (s, false)

/-! ### Classification (R237, R239) -/

/-- Refill the policer: CTL_RATE frames a second, at most 64 (R239; log entry 15). -/
def refill (s : State) (p : Nat) : State :=
  let x := ethPort s p
  let dt := s.sctr.toNat - x.refillAt
  setEthPort s p { x with credit := min (64 * 96000) (x.credit + dt * getF s (F.ETH_POLICE_CTL_RATE (p + 1))),
                          refillAt := s.sctr.toNat }

/-- A control frame on its way to the CP: whether it is delivered (R239). -/
def controlFrame (s : State) (p : Nat) : State × Bool :=
  let s := refill s p
  let x := ethPort s p
  if cpIsRunning s && decide (96000 ≤ x.credit) then
    (ethCount (setEthPort s p { x with credit := x.credit - 96000 }) p 18, true)
  else (logEv (ethCount s p 19) 0x0266 (p + 1) sevNotice [], false)

/-- The receive flow and leg that a UDP datagram matches (R237). -/
def matchFlow (s : State) (p dst port : Nat) : Option RxFlow :=
  if 2 ≤ ethRole s p then none
  else s.net.rx.find? (fun f => hasLeg f.legs (ethRole s p) && (f.legOf (ethRole s p)).dst == dst &&
    (f.legOf (ethRole s p)).port == port)

/-- A datagram for the Omzor port arrives: whether its message is delivered (R237, R239). What goes to the pair logic (`hw`) is not policed
(R372, log entry 57). Where the port does not carry Omzor it is an unregistered flow's, or other control. -/
def omzorArrives (s : State) (h : RxHead) (hw : Bool) : State × Bool :=
  let r := rxHead s h 0x0800 0
  let p := h.port.val
  if !r.2 then r
  else if omzorPort r.1 = some p then (if hw then r else controlFrame r.1 p)
  else if ethRole r.1 p ≤ 1 then (ethCount r.1 p 16, false)
  else ((controlFrame r.1 p).1, false)

end Sys2Proof.Machine
end

