-- ==== Sys2Proof/Machine/Ethernet.lean ====
section
/-! DEFINITION. The Ethernet ports (chapter 08): the enable check of functions 0x01 to 0x04, pause, link changes, sending with
time-stamps, media packets received, wake from Dormant, and the commands. Machine/Receive.lean has the frames that come as bytes. -/

namespace Sys2Proof.Machine

/-! ### Enable (R231, R233, R250, R252) -/

/-- Whether the ones of a mask stand together at its top. -/
def maskOk (m : Nat) : Bool := (List.range 33).any (fun k => m == 2 ^ 32 - 2 ^ k)

/-- Whether `a` is the limited broadcast address, or the broadcast address of the subnet `m`. -/
def ipBroadcast (a m : Nat) : Bool :=
  let inv := 2 ^ 32 - 1 - m
  a == 0xFFFFFFFF || (decide (1 < inv) && a % (inv + 1) == inv)

/-- The first unusable word of the port's addresses (R252). -/
def ipField (s : State) (f : Nat) : Option Nat :=
  let a := ipOfWord (getR s (R.ETH_IP_ADDR f))
  let m := ipOfWord (getR s (R.ETH_IP_MASK f))
  let g := ipOfWord (getR s (R.ETH_IP_GW f))
  if a = 0 ∨ ipMulticast a ∨ a = 0xFFFFFFFF ∨ (maskOk m ∧ ipBroadcast a m) then some 0x08
  else if !maskOk m then some 0x0C
  else if g ≠ 0 ∧ (ipMulticast g ∨ ipBroadcast g m) then some 0x10
  else none

/-- The enable check of function `f`, port `f − 1`: refusal code and field, the first in the order of R252. -/
def ethCheck (s : State) (f : Nat) : Option (Nat × Nat) :=
  let speed := getF s (F.ETH_CFG_SPEED f)
  let role := getF s (F.ETH_CFG_ROLE f)
  let wake := isF s (F.ETH_CFG_WAKE_EN f)
  let mx := getF s (F.ETH_CFG_MAX_FRAME f)
  let tx := getF s (F.ETH_CFG_TX_START f)
  let rate := getF s (F.ETH_POLICE_CTL_RATE f)
  let main := getF s (F.ETH_SERDES_TX_MAIN f)
  if 4 ≤ speed then some (0x0220, 0)
  else if 5 ≤ role then some (0x0221, 0)
  else if role ≠ 4 ∧ (portOfRole s role).isSome then some (0x0222, 0)
  else if isF s (F.ETH_CFG_RS_FEC f) ∧ speed ≠ 3 then some (0x0223, 0)
  else if isF s (F.ETH_CFG_AN f) ∧ 2 ≤ speed then some (0x0224, 0)
  else if role = 2 ∧ speed < 2 then some (0x0225, 0)
  else if wake ∧ f ≠ 4 then some (0x0226, 0)
  else if wake ∧ 2 ≤ speed then some (0x0227, 0)
  else if mx < 1518 ∨ 9216 < mx then some (0x0228, 0)
  else if tx = 0 ∨ 36 < tx then some (0x0229, 0)
  else if getF s (F.ETH_CFG_VLAN_CTL_VID f) = 4095 then some (0x022A, 4)
  else
    match (if role = 2 then none else ipField s f) with
    | some o => some (0x022B, o)
    | none =>
      if rate < 1000 ∨ 100000 < rate then some (0x022C, 0x1C)
      else if isF s (F.ETH_CFG_MAC_OVR f) ∧ wbit (getR s (R.ETH_MAC_HI f)) 8 then some (0x022D, 0x18)
      else if 15 < getF s (F.ETH_SERDES_TX_PRE f) ∨ main < 24 ∨ 63 < main ∨ 23 < getF s (F.ETH_SERDES_TX_POST f) then
        some (0x022E, 0x24)
      else none

/-- Port `p` starts: its address and its start threshold are set, its policer is full, and the CP registers the multicast addresses of its
listeners (R231, R236, R239, R243). -/
def ethStart (s : State) (p : Nat) : State :=
  let m := ethMacAtEnable s p
  let s := setR s (R.ETH_ADDR_LO p) (BitVec.ofNat 32 m)
  let s := setF s (F.ETH_ADDR_HI_ADDR_HI p) (m / 2 ^ 32)
  let s := setF s (F.ETH_STAT_TX_START_CUR p) (getF s (F.ETH_CFG_TX_START (p + 1)))
  setEthPort s p { EthPort.reset with credit := 64 * 96000, refillAt := s.sctr.toNat, listen := (Config.listenMacs p).take 16 }

/-- Port `p` stops: its queues, its pause, its counters and its registers go with its power; what the flow hardware holds for it is discarded
(R233, R533). -/
def ethStop (s : State) (p : Nat) : State :=
  let s := (List.range 48).foldl (fun s k => setR s (R.ETH_CNT p k) 0) s
  let s := [R.ETH_STAT p, R.ETH_PAUSE_REM p, R.ETH_ADDR_LO p, R.ETH_ADDR_HI p].foldl (fun s o => setR s o 0) s
  offerHeld (setEthPort s p EthPort.reset) (ethRole s p) p

/-! ### Pause (R245, R246) -/

/-- An instant in 3,072ths of a ps: the sp that `t` counts, and an ENG cycle of it. -/
def etherTime (t cycle : Nat) : Nat := t * 32000000000 + cycle * 3125000

/-- A pause quantum of port `p` in 3,072ths of a ps (R245). -/
def quantum (s : State) (p : Nat) : Nat :=
  match getF s (F.ETH_STAT_SPEED_ACT p) with
  | 2 => 157286400
  | 3 => 62914560
  | _ => 1572864000

/-- Count the paused time up to an instant, or to the end of the pause: whole microseconds show (R246). -/
def countPaused (s : State) (p now : Nat) : State :=
  let x := ethPort s p
  if !isF s (F.ETH_STAT_PAUSED p) then s
  else
    let a := x.pausedAcc + (min now x.pauseEnd - x.pausedTo)
    setEthPort (if 3072000000 ≤ a then ethCount s p 45 (a / 3072000000) else s) p
      { x with pausedAcc := a % 3072000000, pausedTo := max x.pausedTo (min now x.pauseEnd) }

/-- Show what is left of the running pause at an instant, in quanta. -/
def showPause (s : State) (p now : Nat) : State :=
  let q := quantum s p
  setF s (F.ETH_PAUSE_REM_QUANTA p) (min 65535 (((ethPort s p).pauseEnd - now + q - 1) / q))

/-- A pause ends at an instant (R246). -/
def endPause (s : State) (p now : Nat) : State :=
  let s := countPaused s p now
  putF (setF s (F.ETH_PAUSE_REM_QUANTA p) 0) (F.ETH_STAT_PAUSED p) false

/-- A pause frame acts at an instant (R246). -/
def pauseFrame (s : State) (p time now : Nat) : State :=
  let s := ethCount s p 23
  let s := if time = 0 then ethCount s p 24 else s
  let s := if isF s (F.ETH_STAT_PAUSED p) && decide ((ethPort s p).pauseEnd ≤ now) then endPause s p now else s
  if time = 0 then (if isF s (F.ETH_STAT_PAUSED p) then endPause s p now else s)
  else
    let s := countPaused s p now
    let s := setEthPort s p { ethPort s p with pauseEnd := now + time * quantum s p, pausedTo := now }
    showPause (putF s (F.ETH_STAT_PAUSED p) true) p now

/-- The boundary of the sp `t`: a pause whose timer has expired is over (R246). -/
def pauseTick (s : State) (p : Nat) : State :=
  let now := etherTime s.sctr.toNat 0
  if !isF s (F.ETH_STAT_PAUSED p) then s
  else if (ethPort s p).pauseEnd ≤ now then endPause s p now
  else showPause (countPaused s p now) p now

/-- A MAC control frame that has passed steps 1 to 3 (R235, step 4; R245). -/
def macControl (s : State) (p dst opcode time now : Nat) : State :=
  if opcode = 1 then (if dst = 0x0180C2000001 ∨ dst = ethMac s p then pauseFrame s p time now else s) else ethCount s p 25

def execPauseFrame (p : Fin 4) (time : BitVec 16) (len : BitVec 14) (own bad : Bool) (cycle : Fin 10240) (s : State) :
    Host.Outcome State Fault Refusal :=
  let dst := if own then ethMac s p.val else 0x0180C2000001
  if ethUp s p.val && nodeState s != nsDormant then
    let r := rxEarly s p.val ⟨len.toNat, dst, 0x8808, 0, 0, 0, bad, false, false, false, false⟩
    .next (if r.2 then macControl r.1 p.val dst 1 time.toNat (etherTime s.sctr.toNat cycle.val) else r.1)
  else .next s

/-- The pause timer of port `p` expires in this sp. -/
def pauseExpires (s : State) (p : Nat) : Bool :=
  isF s (F.ETH_STAT_PAUSED p) && decide ((ethPort s p).pauseEnd < etherTime (s.sctr.toNat + 1) 0)

def execPauseEnd (p : Fin 4) (s : State) : Host.Outcome State Fault Refusal :=
  if pauseExpires s p.val then .next (endPause s p.val (ethPort s p.val).pauseEnd) else .next s

/-! ### Links (R234) -/

/-- The queues of port `p` are flushed and the frames counted (R234). -/
def flushQueues (s : State) (p : Nat) : State :=
  let s := (List.range 4).foldl (fun s q =>
    let n := (ethQueue s p q).length
    if n = 0 then s else countQueueDrop s p q n) s
  setEthPort s p { ethPort s p with queues := Vector.replicate 4 [] }

/-- The link of port `p` goes down for a reason (R234): queues are flushed, held packets are offered and counted with them, a pause ends. -/
def linkDown (s : State) (p reason : Nat) (remote : Bool) : State :=
  let now := etherTime s.sctr.toNat (Config.freeCycle s.free % 10240)
  let s := if isF s (F.ETH_STAT_PAUSED p) then endPause (nextFree s) p now else s
  let s := flushQueues s p
  let s := [F.ETH_STAT_LINK p, F.ETH_STAT_FEC_ACT p, F.ETH_STAT_AN_DONE p].foldl (fun s f => putF s f false) s
  let s := ethCount (offerHeld s (ethRole s p) p) p 29
  let s := putF s (F.ETH_STAT_REMOTE_FAULT p) (reason == 3 && remote)
  let s := putF s (F.ETH_STAT_LOCAL_FAULT p) (reason == 3 && !remote)
  setFault (logEv s 0x0261 (p + 1) sevError (le 1 reason)) 2 p

def execEthLinkDown (p : Fin 4) (reason : Fin 5) (remote restart : Bool) (s : State) : Host.Outcome State Fault Refusal :=
  if reason.val = 0 ∨ !ethUp s p.val then .next s
  else
    let s := if restart && isF s (F.ETH_CFG_AN (p.val + 1)) then ethCount s p.val 30 else s
    .next (linkDown s p.val reason.val remote)

def execEthLinkUp (p : Fin 4) (s : State) : Host.Outcome State Fault Refusal :=
  if !ethOn s p.val ∨ isF s (F.ETH_STAT_LINK p.val) then .next s
  else
    let f := p.val + 1
    let p := p.val
    let speed := getF s (F.ETH_CFG_SPEED f)
    let fec := isF s (F.ETH_CFG_RS_FEC f)
    let s := setF (putF s (F.ETH_STAT_LINK p) true) (F.ETH_STAT_SPEED_ACT p) speed
    let s := putF (putF s (F.ETH_STAT_FEC_ACT p) fec) (F.ETH_STAT_AN_DONE p) (isF s (F.ETH_CFG_AN f))
    let s := putF (putF s (F.ETH_STAT_REMOTE_FAULT p) false) (F.ETH_STAT_LOCAL_FAULT p) false
    .next (logEv s 0x0260 f sevNotice (le 1 speed ++ le 1 (if fec then 1 else 0)))

/-! ### Sending (R240 to R243) -/

/-- Discard the media packets at the front of the media queue whose deadline lies before this sp (R242). -/
def dropLate (s : State) (p n : Nat) : State :=
  let s := ethCount s p 41 n
  setFault (logEv s 0x0263 (p + 1) sevWarning []) 2 (8 + p)

/-- Never send a packet late: what passed its deadline in an earlier sp goes first, and held packets take its place. -/
def purgeLate (s : State) (p : Nat) : State :=
  let q := ethQueue s p 1
  let late := q.filter (fun f => decide (f.due < s.sctr.toNat))
  if late.isEmpty then s
  else offerHeld (dropLate (setEthQueue s p 1 (q.filter (fun f => decide (s.sctr.toNat ≤ f.due)))) p late.length) (ethRole s p) p

def execMediaLateDrop (p : Fin 4) (s : State) : Host.Outcome State Fault Refusal :=
  match (ethQueue s p.val 1).find? (fun f => decide (f.due ≤ s.sctr.toNat)) with
  | some f =>
    let s := dropLate (setEthQueue s p.val 1 ((ethQueue s p.val 1).erase f)) p.val 1
    .next (offerHeld s (ethRole s p.val) p.val)
  | none => .next s

/-- The queue that sends next, in strict priority; the media queue waits while the node may not drive (R21, R240, R244). -/
def sendQueue (s : State) (p : Nat) : Option Nat :=
  (List.range 4).find? (fun q => !(ethQueue s p q).isEmpty && !(q == 1 && mayNotDrive s))

/-! ### Time-stamps (R247, R248) -/

/-- A signed field of 16 bits. -/
def asym (v : Nat) : Int := if 2 ^ 15 ≤ v then (v : Int) - 2 ^ 16 else v

/-- The uncertainty of a time-stamp at the balls, in ns (R247). -/
def stampBound (s : State) (p : Nat) : Nat := if getF s (F.ETH_STAT_SPEED_ACT p) ≤ 1 then 4 else 2

/-- The TAI time at the reference plane for ENG cycle `c`, in 65,536ths of a ns, with the correction `corr` in ps and an error within the
uncertainty, which is free; open while the SCTR is UNSET (R32, R247, log entry 55). -/
def stampAt (s : State) (p c : Nat) (corr : Int) : Nat :=
  let u := stampBound s p * 65536
  let err : Int := (((Config.freeWord s.free).toNat % (2 * u + 1) : Nat) : Int) - u
  let t : Int := if getF s F.TIME_STAT_SCTR_STATE = timeUnset then
      ((Config.freeWord (s.free + 1)).toNat + 2 ^ 32 * (Config.freeWord (s.free + 2)).toNat : Nat)
    else ((s.sctr.toNat * 10240 + c) * (10 ^ 9 * 65536) / 983040000 : Nat)
  (t + corr * 65536 / 1000 + err).toNat

/-- A Sync with its egress time: seconds and nanoseconds in originTimestamp, what is below a ns added to correctionField, and the UDP
checksum computed anew. The message begins 28 bytes after the EtherType, its fields lie as IEEE 1588 has them (R248, log entry 55). -/
def patchSync (b : List Byte) (t : Nat) : List Byte :=
  let h := if beAt b 12 2 = 0x8100 then 18 else 14
  let ip := b.drop h
  let ns := t / 65536
  let ip := putBytes ip 62 (be 6 (ns / 10 ^ 9) ++ be 4 (ns % 10 ^ 9))
  let ip := putBytes ip 36 (be 8 (beAt ip 36 8 + t % 65536))
  b.take h ++ fillSums ip

/-- An egress time-stamp returns to its instance; a full FIFO loses it (R248, R249). -/
def returnStamp (s : State) (p i t : Nat) : State :=
  let x := ptpInst s i
  if 16 ≤ x.egress.length then ethCount s p 46 else setPtpInst s i { x with egress := x.egress ++ [t] }

/-- A frame of port `p` begins in ENG cycle `c`: its bytes on the wire, and what its egress time-stamp does. `whole`: it is sent complete. -/
def stampOut (s : State) (p c : Nat) (f : TxFrame) (whole : Bool) : State × List Byte :=
  match f.ptp with
  | none => (s, f.bytes)
  | some (i, isSync) =>
    let t := stampAt s p c (asym (getF s (F.ETH_TS_TX_ASYM (p + 1))))
    let s := nextFrees s 3
    if isSync then ((if whole then ethCount s p 39 else s), patchSync f.bytes t) else (returnStamp s p i t, f.bytes)

/-- The ingress time-stamp of an event message goes to its instance (R237, R248). -/
def stampIn (s : State) (p i c : Nat) : State :=
  let t := stampAt s p c (asym (getF s (F.ETH_TS_RX_ASYM (p + 1))))
  setPtpInst (nextFrees (ethCount s p 20) 3) i { ptpInst s i with ingress := some t }

/-! ### A frame leaves (R240, R243) -/

/-- Count a frame sent complete: `len` bytes with the FCS (R240, R249). -/
def txCounted (s : State) (p q : Nat) (bytes : List Byte) : State :=
  let len := max 64 (bytes.length + 4)
  let x := ethPort s p
  let s := ethCount s p 32
  let s := if 64 ≤ x.txOct + len then ethCount s p 33 ((x.txOct + len) / 64) else s
  let s := setEthPort s p { ethPort s p with txOct := (x.txOct + len) % 64 }
  let s := ethCount s p (if q = 1 then 36 else if q = 0 then 38 else 37)
  let dst := beAt bytes 0 6
  if dst = 0xFFFFFFFFFFFF then ethCount s p 35 else if dst / 2 ^ 40 % 2 = 1 then ethCount s p 34 else s

/-- A frame ends early: an inverted FCS, a higher threshold and an underrun counted (R243). -/
def txUnderrun (s : State) (p q run : Nat) (bytes : List Byte) : State :=
  let s := emit s (.cutFrame p q (bytes.take run))
  let cur := min 36 (getF s (F.ETH_STAT_TX_START_CUR p) + 1)
  let s := setF s (F.ETH_STAT_TX_START_CUR p) cur
  setFault (logEv (ethCount s p 40) 0x0262 (p + 1) sevWarning (le 1 cur)) 2 (4 + p)

/-- Start the next frame of port `p` in ENG cycle `c` (R240, R243, R248). -/
def startFrame (s : State) (p : Nat) (run : Option Nat) (c : Nat) : State :=
  match sendQueue s p with
  | none => s
  | some q =>
    match ethQueue s p q with
    | [] => s
    | f :: t =>
      let s := setEthQueue s p q t
      let s := if q = 1 then offerHeld s (ethRole s p) p else s
      let cut := match run with
        | some k => if 256 * getF s (F.ETH_STAT_TX_START_CUR p) ≤ k ∧ k < f.bytes.length + 4 then some k else none
        | none => none
      let r := stampOut s p c f cut.isNone
      match cut with
      | some k => txUnderrun r.1 p q k r.2
      | none => txCounted (emit r.1 (.frame p q r.2)) p q r.2

/-- A pause of port `p` that has run out by an instant ends (R246). -/
def pauseOver (s : State) (p now : Nat) : State :=
  if isF s (F.ETH_STAT_PAUSED p) && decide ((ethPort s p).pauseEnd ≤ now) then endPause s p now else s

/-- Port `p` starts its next frame, where its link is up and it is neither paused nor Dormant. -/
def txStart (s : State) (p : Nat) (run : Option Nat) (c : Nat) : State :=
  if ethUp s p && !isF s (F.ETH_STAT_PAUSED p) && nodeState s != nsDormant then startFrame (purgeLate s p) p run c else s

def execTxFrameStart (p : Fin 4) (run : Option (BitVec 14)) (cycle : Fin 10240) (s : State) : Host.Outcome State Fault Refusal :=
  .next (txStart (pauseOver s p.val (etherTime s.sctr.toNat cycle.val)) p.val (run.map (·.toNat)) cycle.val)

/-! ### Receiving (R235, R237, R264) -/

/-- A media packet of receive flow `f` on leg `l` passes the receive path of its port, and is taken. -/
def mediaArrives (s : State) (f : RxFlow) (l p src : Nat) (rtp : List Byte) : State :=
  let g := f.legOf l
  let tag := if g.vid = 0 then 0 else 4
  let dst := if ipMulticast g.dst then groupMac g.dst else ethMac s p
  let r := rxGate s p ⟨max 64 (46 + rtp.length + tag), dst, 0x0800, g.vid, tag, 0, false, false, false, false, false⟩
  if r.2 then mediaPacket (ethCount r.1 p 17) f l src rtp else r.1

def execMediaPacketReceive (f : Fin 512) (leg : Fin 2) (src : Word) (rtp : List Byte) (s : State) :
    Host.Outcome State Fault Refusal :=
  match rxFlow s f.val, portOfRole s leg.val with
  | some g, some p => if hasLeg g.legs leg.val && ethUp s p then .next (mediaArrives s g leg.val p src.toNat rtp) else .next s
  | _, _ => .next s

/-- What the PCS saw (R249, R254, R257). -/
def pcsErrors (s : State) (p : Nat) (rx : RxFrame) : State :=
  let s := if rx.symErr = 0 then s else ethCount s p 26 rx.symErr.toNat
  let s := if rx.fecCorr = 0 then s else ethCount s p 27 rx.fecCorr.toNat
  let s := if rx.fecUncorr = 0 then s
    else setFault (logEv (ethCount s p 28 rx.fecUncorr.toNat) 0x0264 (p + 1) sevWarning []) 2 (12 + p)
  if rx.hiBer then logEv (ethCount s p 31) 0x0268 (p + 1) sevWarning [] else s

/-! ### Wake (R250, R251) -/

/-- Whether a byte string holds `t` at offset `i`. -/
def hasAt (b t : List Byte) (i : Nat) : Bool := (b.drop i).take t.length == t

/-- Whether a frame holds a magic packet for address `m` after its EtherType (R251). -/
def isMagic (b : List Byte) (m : Nat) : Bool :=
  let t := List.replicate 6 (0xFF : Byte) ++ (List.replicate 16 (be 6 m)).flatten
  (List.range (b.length - t.length + 1)).any (fun i => decide (14 ≤ i) && hasAt b t i)

/-- Whether a frame matches a wake pattern (R251). -/
def isPattern (b : List Byte) (w : WakePat) : Bool :=
  w.on && (List.range 128).all (fun i => !(w.mask.getLsbD i) || (decide (i < b.length) && leAt b i 1 == leAt w.bytes i 1))

/-- The wake detector of `ETH3` examines a frame; WAKE_MATCH and what woke the node outlive the start-up (R249 to R251). -/
def wakeFrame (s : State) (b : List Byte) (bad : Bool) : State :=
  let x := rxParts b
  let len := b.length + 4
  let mine := x.dst == ethMac s 3 || x.dst == 0xFFFFFFFFFFFF
  if len < 64 ∨ getF s (F.ETH_CFG_MAX_FRAME 4) + x.tag < len ∨ bad ∨ !mine then s
  else
    let magic := isMagic b (ethMac s 3)
    let pats := (List.range 8).filter (fun k => isPattern b (s.net.wake.getD k ⟨false, 0, []⟩))
    if !magic ∧ pats.isEmpty then s
    else
      let s := if magic then setF s F.ETH_WAKE_SRC_MAGIC 1 else s
      let s := setF s F.ETH_WAKE_SRC_PATTERN (pats.foldl (fun v k => v ||| 2 ^ k) (getF s F.ETH_WAKE_SRC_PATTERN))
      let n := satAdd (getR s (R.ETH_CNT 3 47)) 1
      let s := setR (wakeStart s 0) (R.ETH_CNT 3 47) n
      { s with net := { s.net with wokeBy := if magic then 1 else 2 + pats.headD 0 } }

def execEthWakePattern (c : Fin 8) (s : State) : Host.Outcome State Fault Refusal :=
  .next (serve s c.val 0x0201 (· == 148) false (fun s q =>
    let k := leAt q.payload 0 1
    if 7 < k then (s, .refused 0x022F 0)
    else
      let w : WakePat := ⟨leAt q.payload 1 1 % 2 == 1, BitVec.ofNat 128 (leAt q.payload 4 16), (q.payload.drop 20).take 128⟩
      ({ s with net := { s.net with wake := s.net.wake.setIfInBounds k w } }, .ok [])))

def execEthLinkRestart (c : Fin 8) (s : State) : Host.Outcome State Fault Refusal :=
  .next (serve s c.val 0x0202 (· == 1) false (fun s q =>
    let p := leAt q.payload 0 1
    if 3 < p then (s, .refused 0x022F 0)
    else if ethOn s p && isF s (F.ETH_CFG_AN (p + 1)) then
      (putF (ethCount s p 30) (F.ETH_STAT_AN_DONE p) false, .ok [])
    else (s, .ok [])))

end Sys2Proof.Machine
end

