-- ==== Sys2Proof/Machine/EventLog.lean ====
section
/-! DEFINITION. The event recorder (chapter 16): the writer, the last-gasp bank, the event ring, the failure and repair of
the log memory, and the meanings of its commands. -/

namespace Sys2Proof.Machine

/-! ### The event ring (R419, R420, R457, R458) -/

/-- Write words of the four ring registers' common form: advance TAIL of ring `r` modulo `2 * SIZE` and write it to the
writeback address (R458). -/
def ringAdvance (s : State) (r : Nat) : State :=
  let size := (getR s (R.RING_SIZE r)).toNat
  let tail := ((getR s (R.RING_TAIL r)).toNat + 1) % (2 * size)
  let s := setR s (R.RING_TAIL r) (BitVec.ofNat 32 tail)
  let wb := (getR s (R.RING_WB_LO r)).toNat + 2 ^ 32 * (getR s (R.RING_WB_HI r)).toNat
  emit s (.host wb (le 4 tail))

/-- The bus address of entry bytes of ring `r`. -/
def ringBase (s : State) (r : Nat) : Nat :=
  (getR s (R.RING_BASE_LO r)).toNat + 2 ^ 32 * (getR s (R.RING_BASE_HI r)).toNat

/-- Entries the event ring holds that the host has not read (R458). -/
def evtFill (s : State) : Nat :=
  let size := (getR s (R.RING_SIZE 0)).toNat
  ((getR s (R.RING_TAIL 0)).toNat + 2 * size - (getR s (R.RING_HEAD 0)).toNat) % (2 * size)

/-- Whether the event ring has a free slot: a disabled ring has none (R463). -/
def evtRoom (s : State) : Bool :=
  isF s (F.RING_CTL_EN 0) && decide (evtFill s < (getR s (R.RING_SIZE 0)).toNat)

/-- A copy completed: the event-ring interrupt, at most once per EVT_HOLDOFF (R420). -/
def evtInterrupt (s : State) : State :=
  if getF s F.SYS_CFG_EVT_HOLDOFF = 0 then raiseIrq s 8
  else if s.log.holdoff then { s with log := { s.log with holdoffCopy := true } }
  else raiseIrq { s with log := { s.log with holdoff := true, holdoffCopy := false } } 8

/-- Copy a record into the event ring, or count it as dropped (R419, R420, R461). -/
def ringCopy (s : State) (r : Rec) : State :=
  if r.sev < getF s F.SYS_CFG_EVT_MIN_SEV then s
  else if evtRoom s then
    let slot := (getR s (R.RING_TAIL 0)).toNat % (getR s (R.RING_SIZE 0)).toNat
    let s := emit s (.host (ringBase s 0 + 32 * slot) (recBytes r))
    let k := r.seq.toNat
    let s := { s with log := { s.log with copied := (k, s.sctr.toNat) :: s.log.copied.filter (fun c => c.1 != k &&
                                                      decide (s.sctr.toNat < c.2 + 9600)),
                                          recopy := s.log.recopy.filter (· != k) } }
    evtInterrupt (ringAdvance s 0)
  else
    let s := bump s R.EVT_RING_DROP
    { s with log := { s.log with ringLost := s.log.ringLost + 1 } }

/-- A record gained repeats: it is copied again, at once or at the end of its 100 ms (9,600 sp) limit (R419). -/
def ringRecopy (s : State) (r : Rec) : State :=
  match s.log.copied.find? (fun c => c.1 == r.seq.toNat) with
  | some c =>
    if s.sctr.toNat - c.2 < 9600 then
      { s with log := { s.log with recopy := r.seq.toNat :: s.log.recopy.filter (· != r.seq.toNat) } }
    else ringCopy s r
  | none => ringCopy s r

/-- Space returned to the event ring: the dropped records are reported (R420). -/
def ringReport (s : State) : State :=
  if s.log.ringLost = 0 ∨ !evtRoom s then s
  else
    let n := s.log.ringLost
    setFault (logEv { s with log := { s.log with ringLost := 0 } } 0x0167 0x00 sevWarning (le 4 n)) 1 3

/-! ### The last-gasp bank (R491, R492) -/

/-- Put a value at a key of an association list kept in ascending order of key. -/
def slotPut (l : List (Nat × Rec)) (k : Nat) (r : Rec) : List (Nat × Rec) :=
  match l with
  | [] => [(k, r)]
  | c :: t => if k < c.1 then (k, r) :: c :: t else if k = c.1 then (k, r) :: t else c :: slotPut t k r

/-- The bank slot the next copy takes, after `k`: in turn, never the pinned one (R491, R492). -/
def bankAfter (s : State) (k : Nat) : Nat :=
  let n := (k + 1) % 8
  if isF s F.LOG_GASP_STAT_PINNED ∧ n = getF s F.LOG_GASP_STAT_PIN_SLOT then (n + 1) % 8 else n

/-- Write a record into the last-gasp bank, with LAST_GASP set (R491). -/
def bankWrite (s : State) (r : Rec) : State :=
  let k := getF s F.LOG_GASP_STAT_NEXT
  let full := s.log.bank.any (fun c => c.1 == k)
  let s := if full then setFault (setF s F.LOG_GASP_STAT_WRAPS (min (getF s F.LOG_GASP_STAT_WRAPS + 1) 0xFFFF)) 9 3 else s
  let b := slotPut s.log.bank k { r with gasp := true }
  let since := if getF s F.LOG_STAT_STATE = 0 then [] else k :: s.log.sinceFail.filter (· != k)
  let s := { s with log := { s.log with bank := b, sinceFail := since,
                                        rewrites := s.log.rewrites.filter (fun w => !(w.bank && w.slot == k)) } }
  setF (setF s F.LOG_GASP_STAT_USED b.length) F.LOG_GASP_STAT_NEXT (bankAfter s k)

/-! ### The writer (R485, R486) -/

/-- Take the next sequence number; the counter wraps from 0xFFFFFFFF to 1 (R485). -/
def takeSeq (s : State) : State × BitVec 32 :=
  let q := getR s R.LOG_SEQ_NEXT
  (setR s R.LOG_SEQ_NEXT (if q = 0xFFFFFFFF then 1 else q + 1), q)

/-- Whether segment `g` of log RAM is mapped out (R493). -/
def segOut (s : State) (g : Nat) : Bool := wbit (getR s (R.LOG_SEG_MAP (g / 32))) (g % 32)

/-- The lowest-numbered empty slot of the log's capacity (R486), from slot `i` with `fuel` slots to look at. -/
def emptySlot (s : State) (i fuel : Nat) (l : List (Nat × Rec)) : Option Nat :=
  match fuel with
  | 0 => none
  | n + 1 =>
    match l with
    | [] => if segOut s (i / 32) then emptySlot s (i + 1) n [] else some i
    | c :: t =>
      if c.1 = i then emptySlot s (i + 1) n t
      else if segOut s (i / 32) then emptySlot s (i + 1) n (c :: t) else some i

/-- The record of lowest SEQ among those of severity at most `v` (R486). -/
def victim (v : Nat) (l : List (Nat × Rec)) : Option (Nat × Rec) :=
  l.foldl (fun b c =>
    if c.2.sev ≤ v then
      match b with
      | none => some c
      | some x => if c.2.seq.toNat < x.2.seq.toNat then some c else some x
    else b) none

/-- Where a new record of severity `v` goes (R486). -/
def placeFor (s : State) (v : Nat) : Option Nat :=
  match emptySlot s 0 4096 s.log.slots with
  | some i => some i
  | none => (victim v s.log.slots).map (·.1)

/-- Keep `LOG_SEQ_OLDEST` up to date (R496). -/
def refreshOldest (s : State) : State :=
  setR s R.LOG_SEQ_OLDEST
    (match victim 7 s.log.slots with
     | some c => c.2.seq
     | none => 0)

/-- Write a record into slot `k`: it takes the place of what was there, which can merge no more (R483, R486). -/
def slotWrite (s : State) (k : Nat) (r : Rec) : State :=
  refreshOldest { s with log := { s.log with
    slots := slotPut s.log.slots k r,
    recent := (k :: s.log.recent.filter (· != k)).take 32,
    rewrites := s.log.rewrites.filter (fun w => w.bank || w.slot != k) } }

/-- Write a new record into log RAM, with its copies to the bank and to the event ring (R485, R486, R491, R419). -/
def writeNew (s : State) (e : Rec) : State :=
  match placeFor s e.sev with
  | none => setFault (bump s (R.LOG_DROP e.sev)) 9 2
  | some k =>
    let (s, q) := takeSeq s
    let r := { e with seq := q }
    let s := slotWrite s k r
    let s := if logGaspSev s ≤ r.sev then bankWrite s r else s
    ringCopy s r

/-- Write a new record while the log memory has failed: to the bank only, or dropped below WARNING (R492). -/
def writeDegraded (s : State) (e : Rec) : State :=
  if e.sev < sevWarning then bump s (R.LOG_DROP e.sev)
  else
    let (s, q) := takeSeq s
    let r := { e with seq := q, gasp := true }
    ringCopy (bankWrite s r) r

/-- An uncorrectable error in slot `k` puts the recorder into DEGRADED (R492). In a repair it only marks the slot. -/
def degrade (s : State) (k : Nat) : State :=
  let s := { s with log := { s.log with bad := k :: s.log.bad.filter (· != k) } }
  if getF s F.LOG_STAT_STATE ≠ 0 then s
  else
    let s := setFault (setF s F.LOG_STAT_STATE 1) 9 0
    let s := { s with log := { s.log with sinceFail := [], rewrites := [] } }
    let (s, q) := takeSeq s
    let pin := getF s F.LOG_GASP_STAT_NEXT
    let r : Rec := { seq := q, first := s.sctr.setWidth 48, frac := freeFrac s, code := 0x0960, source := 0x50,
                     sev := sevCritical, merged := false, gasp := true, rep := 1, last := s.sctr.setWidth 32,
                     args := packArgs (le 2 k ++ le 1 (k / 32)) }
    let s := bankWrite (nextFree s) r
    let s := setF (setF s F.LOG_GASP_STAT_PINNED 1) F.LOG_GASP_STAT_PIN_SLOT pin
    ringCopy { s with log := { s.log with sinceFail := [] } } r

/-- One entry left the FIFO ahead of the rewrites that wait for it (R483). -/
def passRewrites (l : Recorder) : Recorder :=
  { l with rewrites := l.rewrites.map (fun w => { w with ahead := w.ahead - 1 }) }

/-- The drop summary's record (R484). -/
def summaryRec (s : State) (d : DropSummary) : Rec :=
  { seq := 0, first := s.sctr.setWidth 48, frac := freeFrac s, code := 0x0961, source := 0x50,
    sev := sevWarning, merged := false, gasp := false, rep := 1, last := s.sctr.setWidth 32,
    args := packArgs (le 2 d.count ++ le 1 d.lowest ++ le 1 d.highest ++ le 4 d.first.toNat) }

/-- Write one new record as the recorder's state has it; `unc`: the write itself finds an uncorrectable error in the slot. -/
def writeOne (s : State) (e : Rec) (unc : Bool) : State :=
  if getF s F.LOG_STAT_STATE ≠ 0 then writeDegraded s e
  else if unc then
    match placeFor s e.sev with
    | some k => writeDegraded (degrade s k) e
    | none => writeNew s e
  else writeNew s e

/-- Write one pending rewrite (R483). -/
def writeRewrite (s : State) (w : Rewrite) (unc : Bool) : State :=
  let s := { s with log := { s.log with rewrites := s.log.rewrites.filter (fun x => !(x.bank == w.bank && x.slot == w.slot)) } }
  if w.bank then
    ringRecopy { s with log := { s.log with bank := slotPut s.log.bank w.slot { w.content with gasp := true } } } { w.content with gasp := true }
  else if unc then degrade s w.slot
  else ringRecopy { s with log := { s.log with slots := slotPut s.log.slots w.slot w.content } } w.content

/-- `LOG_RECORD_WRITE`: a rewrite no FIFO entry precedes, else the FIFO's head, else the drop summary (R483 to R486). -/
def logWriteStep (s : State) (unc : Bool) : State :=
  match s.log.rewrites.find? (fun w => w.ahead == 0) with
  | some w => writeRewrite s w unc
  | none =>
    match s.log.fifo with
    | e :: t =>
      writeOne (putF { s with log := passRewrites { s.log with fifo := t } } F.LOG_STAT_FIFO_FULL false) e unc
    | [] =>
      match s.log.summary with
      | some d =>
        writeOne (nextFree { s with log := { s.log with summary := none } }) (summaryRec s d) unc
      | none => s

def execLogRecordWrite (unc : Bool) (s : State) : Host.Outcome State Fault Refusal := .next (logWriteStep s unc)

/-! ### Reading (R487, R488) -/

/-- The 32 bytes of a slot as a reader sees them: zeros for an empty, mapped-out or uncorrectable slot (R479, R487, R492). -/
def slotBytes (s : State) (bank : Bool) (k : Nat) : List Byte :=
  let l := if bank then s.log.bank else s.log.slots
  match l.find? (fun c => c.1 == k) with
  | some c => if !bank && (s.log.bad.contains k || segOut s (k / 32)) then List.replicate 32 0 else recBytes c.2
  | none => List.replicate 32 0

/-- Latch a slot at the first dword a read takes in it (R488). -/
def latchSlot (s : State) (bank : Bool) (k : Nat) : State :=
  { s with log := { s.log with latch := some ⟨bank, k, slotBytes s bank k⟩ } }

/-- The dwords that a read of `n` dwords from dword `dw` takes from the latch. -/
def latchWords (s : State) (dw n : Nat) : List Word :=
  match s.log.latch with
  | some l => ((leWords l.bytes).drop dw).take n
  | none => []

def execLogSlotRead (bank : Bool) (slot : Fin 4096) (dw : Fin 8) (n : Fin 9) (unc : Bool) (s : State) :
    Host.Outcome State Fault Refusal :=
  if bank ∧ 8 ≤ slot.val then .next s
  else
    let s := if unc && !bank then degrade s slot.val else s
    let s := latchSlot s bank slot.val
    .next (emit s (.read (latchWords s dw.val n.val)))

def execLogScrub (corrected : BitVec 16) (unc : Option (Fin 4096)) (s : State) : Host.Outcome State Fault Refusal :=
  let s := bump s R.LOG_ECC_CORR corrected.toNat
  match unc with
  | some k => .next (degrade s k.val)
  | none => .next s

/-! ### Commands (R493, R498) -/

def execLogRepair (c : Fin 8) (s : State) : Host.Outcome State Fault Refusal :=
  .next (serve s c.val 0x0901 (· == 0) false (fun s _ =>
    if getF s F.LOG_STAT_STATE = 2 then (s, .refused 0x0921 0)
    else if getF s F.LOG_STAT_STATE ≠ 1 then (s, .refused 0x0920 0)
    else
      let s := setF (commit s c.val) F.LOG_STAT_STATE 2
      ({ s with log := { s.log with repairChannel := some c.val } }, .later)))

/-- Map out segment `g` with its records (R493). -/
def mapOut (s : State) (g : Nat) : State :=
  let s := setR s (R.LOG_SEG_MAP (g / 32)) (wput (getR s (R.LOG_SEG_MAP (g / 32))) (g % 32) true)
  { s with log := { s.log with slots := s.log.slots.filter (fun c => c.1 / 32 != g),
                               recent := s.log.recent.filter (fun k => k / 32 != g) } }

/-- Segments mapped out. -/
def segsOut (s : State) : Nat := ((List.range 128).filter (fun g => segOut s g)).length

/-- Insert a record in ascending order of SEQ. -/
def insSeq (r : Rec) : List Rec → List Rec
  | [] => [r]
  | x :: t => if r.seq.toNat < x.seq.toNat then r :: x :: t else x :: insSeq r t

/-- Copy the records written to the bank since the failure into log RAM, in SEQ order, with LAST_GASP kept (R493). -/
def restoreFromBank (s : State) : State :=
  let rs := (s.log.sinceFail.filterMap (fun k =>
      (s.log.bank.find? (fun c => c.1 == k)).map (fun c => recNow s.log true k c.2))).foldl (fun l r => insSeq r l) []
  rs.foldl (fun s r =>
    match placeFor s r.sev with
    | some k => slotWrite s k { r with gasp := true }
    | none => setFault (bump s (R.LOG_DROP r.sev)) 9 2) s

/-- The end of a repair with at least two segments left, or with fewer (R493, R494). -/
def repairEnd (s : State) : State × Reply :=
  let out := segsOut s
  if 2 ≤ 128 - out then
    let cap := 32 * (128 - out)
    let s := restoreFromBank s
    let s := setF (setF (setF s F.LOG_STAT_STATE 0) F.LOG_STAT_CAPACITY cap) F.LOG_GASP_STAT_PINNED 0
    let s := { s with log := { s.log with sinceFail := [] } }
    (logEv s 0x0962 0x50 sevNotice (le 1 out ++ le 2 cap), .ok (le 1 out ++ le 1 0 ++ le 2 cap))
  else
    (logEv (setF s F.LOG_STAT_STATE 1) 0x0963 0x50 sevCritical (le 1 (128 - out)),
      .ok (le 1 out ++ le 1 1 ++ le 2 (getF s F.LOG_STAT_CAPACITY)))

def execLogRepaired (failed : List (Fin 128)) (s : State) : Host.Outcome State Fault Refusal :=
  if getF s F.LOG_STAT_STATE ≠ 2 then .next s
  else
    let lost := s.log.bad
    let s := { s with log := { s.log with slots := s.log.slots.filter (fun c => !lost.contains c.1),
                                          recent := s.log.recent.filter (fun k => !lost.contains k), bad := [] } }
    let s := refreshOldest (failed.foldl (fun s g => mapOut s g.val) s)
    let (s, r) := repairEnd s
    .next (answer { s with log := { s.log with repairChannel := none } } s.log.repairChannel r)

def execLogClear (c : Fin 8) (s : State) : Host.Outcome State Fault Refusal :=
  .next (serve s c.val 0x0902 (· == 0) false (fun s _ =>
    if getF s F.LOG_STAT_STATE = 2 then (s, .refused 0x0921 0)
    else if getF s F.LOG_STAT_STATE ≠ 0 then (s, .refused 0x0920 0)
    else
      let s := { s with log := { s.log with slots := [], recent := [], recopy := [], copied := [],
                                            rewrites := s.log.rewrites.filter (·.bank) } }
      let s := refreshOldest s
      (logEv s 0x0965 0x50 sevInfo (le 4 (getR s R.LOG_SEQ_NEXT).toNat), .ok [])))

def execLogGaspClear (c : Fin 8) (s : State) : Host.Outcome State Fault Refusal :=
  .next (serve s c.val 0x0903 (· == 0) false (fun s _ =>
    if getF s F.LOG_STAT_STATE = 2 then (s, .refused 0x0921 0)
    else
      let pin := getF s F.LOG_GASP_STAT_PIN_SLOT
      let keep := if isF s F.LOG_GASP_STAT_PINNED then s.log.bank.filter (fun c => c.1 == pin) else []
      let s := { s with log := { s.log with bank := keep, sinceFail := [], rewrites := s.log.rewrites.filter (!·.bank) } }
      let s := setF (setF s F.LOG_GASP_STAT_USED keep.length) F.LOG_GASP_STAT_WRAPS 0
      (setF s F.LOG_GASP_STAT_NEXT (if keep.isEmpty then 0 else bankAfter s pin), .ok [])))

/-! ### The event ring's timers -/

def execEvtHoldoffExpiry (s : State) : Host.Outcome State Fault Refusal :=
  if !s.log.holdoff then .next s
  else if s.log.holdoffCopy then .next (raiseIrq { s with log := { s.log with holdoffCopy := false } } 8)
  else .next { s with log := { s.log with holdoff := false } }

def execEventRingRecopy (seq : BitVec 32) (s : State) : Host.Outcome State Fault Refusal :=
  if !s.log.recopy.contains seq.toNat then .next s
  else
    let s := { s with log := { s.log with recopy := s.log.recopy.filter (· != seq.toNat) } }
    match (s.log.slots ++ s.log.bank).find? (fun c => c.2.seq == seq) with
    | some c => .next (ringCopy s c.2)
    | none => .next s

end Sys2Proof.Machine
end

