-- ==== Sys2Proof/Machine/Rings.lean ====
section
/-! DEFINITION. The buffer rings (R457 to R460): posted entries, the completion of a descriptor. -/

namespace Sys2Proof.Machine

/-- Whether ring `r` has an entry that belongs to the node; a disabled ring has none (R458, R463). -/
def bufPosted (s : State) (r : Nat) : Bool :=
  isF s (F.RING_CTL_EN r) && getR s (R.RING_HEAD r) != getR s (R.RING_TAIL r)

/-- Complete the descriptor at TAIL of ring `r` (R459): its bytes 8 to 15, TAIL and its writeback, and the interrupt. -/
def bufDone (s : State) (r : Nat) (d : Desc) (len status : Nat) : State :=
  let entry := (getR s (R.RING_TAIL r)).toNat % (getR s (R.RING_SIZE r)).toNat
  let s := emit s (.host (ringBase s r + 16 * entry + 8) (le 4 len ++ le 2 d.flags.toNat ++ le 2 status))
  let s := ringAdvance s r
  if d.flags.toNat % 2 = 1 then raiseIrq s (8 + r) else s

/-- Complete a descriptor whose buffer is too short (R460). -/
def bufShort (s : State) (r : Nat) (d : Desc) : State :=
  let s := setFault (logEv s 0x0D63 0x00 sevWarning (le 1 r)) 13 2
  bufDone s r d 0 2

/-- Write `data` into the buffer at TAIL of ring `r`: whether it was written (R460). -/
def bufWrite (s : State) (r : Nat) (d : Desc) (data : List Byte) : State × Bool :=
  if !bufPosted s r then (s, false)
  else if d.len.toNat < data.length then (bufShort s r d, false)
  else (bufDone (emit s (.host d.addr.toNat data)) r d data.length 1, true)

end Sys2Proof.Machine
end

