-- ==== Sys2Proof/Machine/Timed.lean ====
section
/-! DEFINITION. Commands with an apply-at field (R169), the work of the coming boundary, and paired quantities as this node
decides them (R23, R360). -/

namespace Sys2Proof.Machine

/-- The boundary a timed request names, if its apply-at field passes R169. -/
def timedAt (s : State) (q : Req) : Option Nat :=
  let d := (q.applyAt + 2 ^ 32 - s.sctr.toNat % 2 ^ 32) % 2 ^ 32
  if 2 ≤ d ∧ d ≤ 2 ^ 31 - 1 then some (s.sctr.toNat + d) else none

/-- Do the work of the coming boundary: it reads and records the SCTR of that boundary (log entry 17). -/
def atNext (s : State) (f : State → State) : State :=
  { f { s with sctr := nextSctr s } with sctr := s.sctr }

/-- This node decides a paired quantity at boundary `n` (R360). -/
def decidePq (s : State) (n : Nat) (r : PqRec) : State :=
  { s with paired := { s.paired with own := s.paired.own ++ [(n, r)] } }

end Sys2Proof.Machine
end

