-- ==== Sys2Proof/Machine/Sap.lean ====
section
/-! DEFINITION. Serial audio ports (chapter 10): formats and checks, the frames of leader and follower ports, staging with
fades, the SYNC-mode FIFOs with anchors and slips, slot masks, clock faults and restarts. -/

namespace Sys2Proof.Machine

/-! ### Formats (R290 to R293) -/

def sapFn (n : Nat) : Nat := 0x10 + n

def sapPort (s : State) (n : Nat) : SapPort := s.sap.getD n SapPort.reset

def setSap (s : State) (n : Nat) (x : SapPort) : State := { s with sap := s.sap.setIfInBounds n x }

/-- Width in bits of a code of SLOT_W or DATA_W. -/
def widthOf (code : Nat) : Nat := if code = 0 then 16 else if code = 1 then 24 else 32

/-- The slots of a frame (R290). -/
def sapSlots (s : State) (n : Nat) : Nat :=
  if getF s (F.SAP_CFG_FORMAT (sapFn n)) = 2 then getF s (F.SAP_CFG_SLOTS (sapFn n)) + 1 else 2

def sapSlotW (s : State) (n : Nat) : Nat := widthOf (getF s (F.SAP_CFG_SLOT_W (sapFn n)))
def sapDataW (s : State) (n : Nat) : Nat := widthOf (getF s (F.SAP_CFG_DATA_W (sapFn n)))
def sapFollower (s : State) (n : Nat) : Bool := isF s (F.SAP_CFG_FOLLOWER (sapFn n))
def sapAsrc (s : State) (n : Nat) : Bool := sapFollower s n && isF s (F.SAP_CFG_ASRC (sapFn n))
def sapSync (s : State) (n : Nat) : Bool := sapFollower s n && !isF s (F.SAP_CFG_ASRC (sapFn n))
def sapDual (s : State) (n : Nat) : Bool := isF s (F.SAP_CFG_DUAL192 (sapFn n))
def sapQuiet (s : State) (n : Nat) : Nat := getF s (F.SAP_TIME_QUIET (sapFn n))
def sapRxCh (s : State) (n : Nat) : Nat := getF s (F.SAP_CHAN_RX_CH (sapFn n))
def sapTxCh (s : State) (n : Nat) : Nat := getF s (F.SAP_CHAN_TX_CH (sapFn n))

/-- Frames per second of a code of `SAP_CFG.RATE`. -/
def rateHz (code : Nat) : Nat := if code = 0 then 48000 else if code = 1 then 96000 else if code = 2 then 44100 else 88200

/-- The rate a measured one is, within 1,000 ppm (R203, R307). -/
def rateCode (hz : Nat) : Option Nat :=
  (List.range 4).find? (fun c => decide ((max hz (rateHz c) - min hz (rateHz c)) * 1000 ≤ rateHz c))

/-- Phases (R313). -/
def phOff : Nat := 0
def phWait : Nat := 1
def phQuiet : Nat := 2
def phRun : Nat := 3
def phStop : Nat := 4
def phFault : Nat := 5

def sapPhase (s : State) (n : Nat) : Nat := getF s (F.SAP_STAT_PHASE n)

/-- Sp between frame edges of a leader port (R294). -/
def sapStep (s : State) (n : Nat) : Nat := if (sapPort s n).rate = 0 then 2 else 1

/-- BCLK periods in a leader's frame (R293). -/
def sapPeriods (s : State) (n : Nat) : Nat :=
  49152000 / (rateHz (getF s (F.SAP_CFG_RATE (sapFn n))) * 2 ^ getF s (F.SAP_CFG_BCLK_DIV (sapFn n)))

/-- Whether the channel ranges of two ports overlap, for a field that gives the base and one that gives the count. -/
def rangesMeet (a m b n : Nat) : Bool := decide (0 < m) && decide (0 < n) && decide (a < b + n) && decide (b < a + m)

/-- The enable check of port `n`: refusal code and field (R292, R296, R297, R300, R305, R316). -/
def sapCheck (s : State) (n : Nat) : Option (Nat × Nat) :=
  let f := sapFn n
  let rate := getF s (F.SAP_CFG_RATE f)
  let rx := sapRxCh s n
  let tx := sapTxCh s n
  let bits := sapSlots s n * sapSlotW s n
  let start := (getR s (R.SAP_START_LO f)).toNat + 2 ^ 32 * (getR s (R.SAP_START_HI f)).toNat
  let others := (List.range 16).filter (fun m => m != n && fnState s (sapFn m) != fnDisabled)
  let rb := fun m => getF s (F.SAP_CHAN_RX_BASE (sapFn m))
  let tb := fun m => getF s (F.SAP_CHAN_TX_BASE (sapFn m))
  if getF s (F.SAP_CFG_FORMAT f) = 3 ∨ getF s (F.SAP_CFG_SLOT_W f) = 3 ∨
    getF s (F.SAP_CFG_SLOT_W f) < getF s (F.SAP_CFG_DATA_W f) ∨ 5 ≤ getF s (F.SAP_CFG_BCLK_DIV f) then some (0x0420, 0)
  else if sapQuiet s n < 16 ∨ 1024 < sapQuiet s n ∨ 1536 < getF s (F.SAP_TIME_HOLD f) then some (0x0420, 8)
  else if !sapAsrc s n ∧ 2 ≤ rate then some (0x0421, 0)
  else if sapAsrc s n ∧ (rx ≠ 0 ∨ tx ≠ 0) then some (0x0421, 4)
  else if sapDual s n ∧ (rate ≠ 1 ∨ sapAsrc s n) then some (0x0421, 0)
  else if sapSlots s n < 2 then some (0x0422, 0)
  else if !sapFollower s n ∧ sapPeriods s n < bits then some (0x0422, 0)
  else if sapFollower s n ∧ 49152000 < bits * rateHz rate then some (0x0422, 0)
  else if (if sapDual s n then sapSlots s n / 2 else sapSlots s n) < rx ∨ sapSlots s n < tx then some (0x0422, 4)
  else if 256 < rb n + rx ∨ 256 < tb n + tx then some (0x0423, 4)
  else if others.any (fun m => rangesMeet (rb n) rx (rb m) (sapRxCh s m) || rangesMeet (tb n) tx (tb m) (sapTxCh s m)) then
    some (0x0424, 4)
  else if !sapFollower s n ∧ isF s (F.SAP_CFG_START_AT f) ∧ (start < s.sctr.toNat + 96 ∨ (rate = 0 ∧ start % 2 = 1)) then
    some (0x0427, 0x0C)
  else none

/-! ### Driving (R302, R310) -/

/-- Whether port `n` drives its data output: it sends frames, and neither the output guard nor STANDBY forbids it. -/
def sapData (s : State) (n : Nat) : Bool := decide (2 ≤ sapPhase s n) && !guarded s && roleOf s != roleStandby

/-- Whether port `n` drives its clock balls: a leader that sends frames, but for a shared clock on a STANDBY (R310). -/
def sapClocks (s : State) (n : Nat) : Bool :=
  !sapFollower s n && decide (2 ≤ sapPhase s n) &&
  (isF s (F.SAP_CFG_PAIR_CLK (sapFn n)) || roleOf s != roleStandby)

/-- Bring `SAP_STAT.DRIVING` up to date at a frame edge or an end of driving. -/
def sapRefresh (s : State) (n : Nat) : State := putF s (F.SAP_STAT_DRIVING n) (sapData s n || sapClocks s n)

/-- Set the phase. -/
def sapSetPhase (s : State) (n ph : Nat) : State := sapRefresh (setF s (F.SAP_STAT_PHASE n) ph) n

def sapEv (s : State) (n code sev : Nat) (args : List Byte) : State := logEv s code (sapFn n) sev args

/-! ### Converter channels and ratio trackers of a port (R202, R204) -/

/-- A converter channel's assignment: used, sink, port and slot (R202, R221). -/
def convUsed (s : State) (c : Nat) (sink : Bool) (n : Nat) : Bool :=
  isF s (F.CONV_MAP_USED c) && isF s (F.CONV_MAP_DIR c) == sink && getF s (F.CONV_MAP_PORT c) == n

/-- The converter channels of port `n` in one direction. -/
def convChans (s : State) (n : Nat) (sink : Bool) : List Nat := (List.range 512).filter (fun c => convUsed s c sink n)

/-- Tracker states (R224). -/
def trkOff : Nat := 0
def trkAcquire : Nat := 1
def trkTrack : Nat := 2
def trkHold : Nat := 3

def trkState (s : State) (t : Nat) : Nat := getF s (F.CONV_TRK_STATE t)

def trk (s : State) (t : Nat) : Trk := s.conv.trk.getD t Trk.reset

def setTrk (s : State) (t : Nat) (x : Trk) : State := { s with conv := { s.conv with trk := s.conv.trk.setIfInBounds t x } }

/-- A block stamp reaches the port's tracker: its loop makes a new estimate, and the run of small frequency errors goes on or ends (R204). -/
def trkStamp (s : State) (t : Nat) (frac : BitVec 16) : State :=
  if trkState s t = trkOff then s
  else
    let x := trk s t
    let stamps := ((s.sctr.toNat * 65536 + frac.toNat) :: x.stamps).take 64
    let bw := if trkState s t = trkAcquire then 4 else getF s F.CONV_CFG_TRACK_BW
    let rho := Config.trackLoop bw x.rho stamps (getF s (F.CONV_TRK_FIFO t))
    let good := if Config.trackError rho stamps < 10000 then (x.goodFrom.or (some s.sctr.toNat)) else none
    setTrk s t { x with rho := rho, stamps := stamps, goodFrom := good }

/-! ### Starting (R300, R301) -/

/-- The first frame edge of a leader's rate at or after boundary `t` (R294). -/
def edgeFrom (rate t : Nat) : Nat := if rate = 0 then t + t % 2 else t

/-- A port is enabled, or starts again: it waits for its start boundary or its clock. -/
def sapArm (s : State) (n startAt : Nat) : State :=
  let x := sapPort s n
  let y : SapPort := { SapPort.reset with
    rate := getF s (F.SAP_CFG_RATE (sapFn n)), startAt := startAt, maskRx := x.maskRx, maskTx := x.maskTx, timed := x.timed,
    stampAt := x.stampAt, stampFrac := x.stampFrac, inSt := x.inSt, h := x.h, k := x.k, last := x.last, v := x.v,
    histIn := x.histIn }
  sapSetPhase (setF (putF (setSap s n y) (F.SAP_STAT_SLIP_PEND n) false) (F.SAP_STAT_FILL n) 0) n phWait

/-- The function of port `n` is enabled (R300, R301). -/
def sapEnable (s : State) (n : Nat) : State :=
  let f := sapFn n
  let rate := getF s (F.SAP_CFG_RATE f)
  let start := if isF s (F.SAP_CFG_START_AT f) then
      (getR s (R.SAP_START_LO f)).toNat + 2 ^ 32 * (getR s (R.SAP_START_HI f)).toNat
    else edgeFrom rate (s.sctr.toNat + 2)
  sapArm (setF s (F.SAP_STAT_FAULT n) 0) n start

/-- Stamp the edge of frame `num` (R299). -/
def stampEdge (s : State) (n num : Nat) (frac : BitVec 16) : State :=
  if num % 8 = 0 then trkStamp (setSap s n { sapPort s n with stampAt := s.sctr.toNat, stampFrac := frac }) n frac else s

/-! ### Words of a frame (R291, R296, R297, R306, R308) -/

/-- The value of an input slot word (R291). -/
def slotValue (s : State) (n : Nat) (w : Word) : Word :=
  let sw := sapSlotW s n
  let dw := sapDataW s n
  let d := w.toNat % 2 ^ sw / 2 ^ (sw - dw)
  intF (if 2 ^ (dw - 1) ≤ d then (d : Int) - 2 ^ dw else d) (1 - (dw : Int))

/-- Slot `i` of a stream of slot words that stands rotated by `r`: word i + r, from the frame before or the one after where it
lies outside this one (R306). -/
def rotated (slots : Nat) (prev cur : List Word) (r : Int) (i : Nat) : Word :=
  let k : Int := (i : Int) + r
  if k < 0 then prev.getD ((slots : Int) + k).toNat 0 else cur.getD k.toNat 0

/-- A rotation by one more position; a whole frame is none (R306). -/
def rotateBy (slots : Nat) (r : Int) (overrun : Bool) : Int :=
  let x := if overrun then r + 1 else r - 1
  if x.natAbs = slots then 0 else x

/-- The rotation of slot `i`: the old one before the slot of an upset, the new one from there on. -/
def rotAt (old new : Int) (u : Option SapUpset) (out : Bool) (i : Nat) : Int :=
  match u with
  | some u => if u.out = out ∧ i < u.slot.val then old else new
  | none => new

/-- A port that begins to stop: the Drypoint drives no later frame of it (R212, R302). -/
def noLaterDp (x : SapPort) : SapPort := { x with dp := x.dp.filter (fun d => decide (d.1 ≤ x.num)) }

/-- An overrun or underrun of the slot-word FIFO (R306). With AUTO_RESTART the port stops and starts again. -/
def takeUpset (s : State) (n : Nat) (u : Option SapUpset) : State :=
  match u with
  | none => s
  | some u =>
    let x := sapPort s n
    let slots := sapSlots s n
    let x := if u.out then { x with rotOut := rotateBy slots x.rotOut u.overrun } else { x with rotIn := rotateBy slots x.rotIn u.overrun }
    let s := putF (setSap s n x) (F.SAP_STAT_SLOT_ALIGN_LOST n) true
    let s := setFault (bump s (R.SAP_ALIGN_CNT n)) 4 (16 + n)
    let s := sapEv s n 0x0462 sevError (le 1 (if u.overrun then 1 else 2) ++ le 1 (if u.out then 1 else 0))
    if isF s (F.SAP_CFG_AUTO_RESTART (sapFn n)) ∧ (sapPhase s n = phRun ∨ sapPhase s n = phQuiet) then
      sapSetPhase (setSap s n (noLaterDp { sapPort s n with stopFrom := some (x.num + 1), restart := 1 })) n phStop
    else s

/-- The masks take effect at a frame edge: a held update whose time has come, and a write that has reached the port's clock
domain (R308, R309). -/
def applyMasks (s : State) (n : Nat) (late : Bool) : State :=
  let x := sapPort s n
  let put := fun (s : State) (o : Nat) (m : Option (Word × Bool)) =>
    match m with
    | some (w, fresh) => if late && fresh then s else setR s o w
    | none => s
  let keep := fun (m : Option (Word × Bool)) => match m with
    | some (w, fresh) => if late && fresh then some (w, false) else none
    | none => none
  let s := put (put s (R.SAP_MASK_RX n) x.maskRx) (R.SAP_MASK_TX n) x.maskTx
  let s := setSap s n { x with maskRx := keep x.maskRx, maskTx := keep x.maskTx }
  match x.timed with
  | some (t, rx, tx) =>
    if t ≤ s.sctr.toNat then
      let s := match rx with
        | some w => setR s (R.SAP_MASK_RX n) w
        | none => s
      let s := match tx with
        | some w => setR s (R.SAP_MASK_TX n) w
        | none => s
      let s := setSap s n { sapPort s n with timed := none }
      sapEv s n 0x0467 sevInfo (le 1 ((if rx.isSome then 1 else 0) + (if tx.isSome then 2 else 0)))
    else s
  | none => s

/-- The engine's values of an output frame, or of the sample that KIND 2 sinks give (R295, R296). -/
def txRow (s : State) (m : Cells 32) (n : Nat) : List Word :=
  (List.range (sapSlots s n)).map (fun i =>
    if i < sapTxCh s n then memGet m (4096 * 2 + getF s (F.SAP_CHAN_TX_BASE (sapFn n)) + i) else 0)

/-- The output frames of port `n` from the current edge on: this frame's row, and the next one's (R295, R303). -/
def outRows (s : State) (n : Nat) : List Word × List Word :=
  let x := sapPort s n
  if sapFollower s n then (x.outq.headD [], x.outq.tail.headD [])
  else if x.rate = 0 then (x.decPrev, x.decNow)
  else (txRow s s.dsp.sinkPrev n, txRow s s.dsp.sinkVals n)

/-- The word of SLOT_W bits that a slot sends (R291, R308, R208): the engine's value and the Drypoint's as a code of DATA_W bits, left-aligned,
zeros after it; a masked slot that the Drypoint does not drive sends zero or is high-impedance. -/
def slotOut (s : State) (n : Nat) (x : SapPort) (row : List Word) (i : Nat) : Option Word :=
  if !x.curDrive then none
  else
    let code := fun w => some ((BitVec.ofInt 32 (toPcm (sapDataW s n) w) &&& BitVec.ofNat 32 (2 ^ sapDataW s n - 1)) <<<
      (sapSlotW s n - sapDataW s n))
    match x.dp.find? (fun d => d.1 == x.num && d.2.1 == i) with
    | some d => code (fadd (row.getD i 0) d.2.2).w
    | none =>
      if wbit x.curMask i then (if isF s (F.SAP_CFG_TX_MASK_HIZ (sapFn n)) then none else some 0)
      else code (row.getD i 0)

/-- BCLK periods of port `n` from its frame edge to the start of slot `k` (R290). -/
def slotStart (s : State) (n k : Nat) : Nat :=
  let dly := match getF s (F.SAP_CFG_FORMAT (sapFn n)) with
    | 0 => 1
    | 1 => 0
    | _ => getF s (F.SAP_CFG_FS_DLY (sapFn n))
  dly + k * sapSlotW s n

/-- The BCLK periods of a frame of port `n`: F on a leader, the slots' bits on a follower (R293, R307). -/
def framePeriods (s : State) (n : Nat) : Nat := if sapFollower s n then sapSlots s n * sapSlotW s n else sapPeriods s n

/-- FS from the frame edge on: its level, and the BCLK periods for which it stays there (R290). -/
def fsWave (s : State) (n : Nat) : Bool × Nat :=
  let inv := isF s (F.SAP_CFG_FS_INV (sapFn n))
  match getF s (F.SAP_CFG_FORMAT (sapFn n)) with
  | 0 => (inv, sapSlotW s n)
  | 1 => (!inv, sapSlotW s n)
  | _ => (!inv, if isF s (F.SAP_CFG_FS_WIDTH (sapFn n)) then sapSlotW s n else 1)

/-- The frame of port `n` as it is sent: data is driven on the falling edge of BCLK unless BCLK_INV swaps the edges (R290, R293). -/
def serialOut (s : State) (n : Nat) (x : SapPort) (row : List Word) : Out :=
  .serial n (isF s (F.SAP_CFG_BCLK_INV (sapFn n))) (slotStart s n 0) ((List.range (sapSlots s n)).map (slotOut s n x row))
    (framePeriods s n - sapSlots s n * sapSlotW s n)

/-- The frame that was being sent is complete: it is recorded as sent, and so are the clocks that a leader drove. -/
def flushFrame (s : State) (n : Nat) : State :=
  let x := sapPort s n
  match x.cur with
  | none => s
  | some row =>
    let s := if x.curClk then emit s (.clocks n (fsWave s n).1 (fsWave s n).2 (sapPeriods s n)) else s
    let s := emit s (serialOut s n x row)
    setSap s n { x with cur := none, dp := x.dp.filter (fun d => decide (x.num < d.1)) }

/-- The slots a sink channel of the converter bank drives, as the bank gives them (R202). -/
abbrev SinkSlots := List (Nat × Word)

/-- A new frame begins on the output: its row, mask and driving (R295, R300, R302). -/
def beginFrame (s : State) (n : Nat) (u : Option SapUpset) (old : Int) (asrc : SinkSlots) (data : Bool) : State :=
  let x := sapPort s n
  let rows := outRows s n
  let slots := sapSlots s n
  let row := (List.range slots).map (fun i =>
    if !data then 0
    else match asrc.find? (fun a => a.1 == i) with
      | some a => a.2
      | none => rotated slots x.prevOut (rows.1 ++ rows.2) (rotAt old x.rotOut u true i) i)
  setSap s n { x with cur := some row, prevOut := if data then rows.1 else [], outq := x.outq.tail,
                      curMask := getR s (R.SAP_MASK_TX n), curDrive := sapData s n, curClk := sapClocks s n }

/-- The edge of frame 0: the port runs quiet frames, its histories cleared and its slots aligned, and frame 0 carries zero data (R298,
R300, R306, R309). -/
def startFrames (s : State) (n : Nat) (frac : BitVec 16) : State :=
  let x := sapPort s n
  let t := s.sctr.toNat
  let s := setSap s n { x with edge0 := t, num := 0, edgeAt := t, edgeFrac := frac, frames := [], histIn := [], histOut := [],
                               decNow := [], decPrev := [], nextIn := none, outq := [], hi := 0, lo := 0, slipAt := none,
                               rotIn := 0, rotOut := 0, prevIn := [], prevOut := [], stopFrom := none, cur := none, dp := [] }
  let s := putF s (F.SAP_STAT_SLOT_ALIGN_LOST n) false
  let s := applyMasks (stampEdge (sapSetPhase s n phQuiet) n 0 frac) n false
  let s := beginFrame s n none 0 [] false
  sapEv s n 0x0460 sevInfo (le 1 (if sapFollower s n then 1 else 0))

/-- A restart takes place (R317). -/
def noteRestart (s : State) (n why : Nat) : State :=
  if why = 0 then s else sapEv (setSap s n { sapPort s n with restart := 0 }) n 0x0465 sevNotice (le 1 why)

def execSapStart (n : Fin 16) (s : State) : Host.Outcome State Fault Refusal :=
  let x := sapPort s n.val
  if !sapFollower s n.val ∧ sapPhase s n.val = phWait ∧ x.startAt = s.sctr.toNat then
    .next (startFrames (noteRestart s n.val x.restart) n.val 0)
  else .next s

/-- The input frame whose edge passed: its slots, and as the mask leaves them (R296, R306, R308). -/
def takeFrame (s : State) (n : Nat) (wire : List Word) (u : Option SapUpset) (old : Int) (data : Bool) : State :=
  let x := sapPort s n
  let slots := sapSlots s n
  let vals := wire.map (slotValue s n)
  let m := getR s (R.SAP_MASK_RX n)
  let slotVals := (List.range slots).map (fun i => rotated slots x.prevIn vals (rotAt old x.rotIn u false i) i)
  let fr : SapFrame := { num := x.num, at_ := x.edgeAt, frac := x.edgeFrac, slots := if data then some slotVals else none,
                         masked := slotVals.zipIdx.map (fun p => if wbit m p.2 then 0 else p.1) }
  let fs := x.frames ++ [fr]
  setSap s n { x with frames := fs.drop (fs.length - 128), prevIn := vals.take slots }

/-- A frame edge of a port that runs: what was sent is complete, masks take effect, an upset strikes, the input frame is
taken and the output frame begins. -/
def frameEdge (s : State) (n num : Nat) (wire : List Word) (frac : BitVec 16) (u : Option SapUpset) (late : Bool)
    (asrc : SinkSlots) (data : Bool) : State :=
  let s := flushFrame s n
  let s := setSap s n { sapPort s n with num := num, edgeAt := s.sctr.toNat, edgeFrac := frac }
  let s := applyMasks s n late
  let x := sapPort s n
  let s := takeUpset s n u
  let s := stampEdge s n num frac
  let s := takeFrame s n wire u x.rotIn data
  sapRefresh (beginFrame s n u x.rotOut asrc data) n

/-- The number of the frame whose edge falls now: counted from frame 0 on a leader's grid, one more on a follower (R294). -/
def frameNo (s : State) (n : Nat) : Nat :=
  let x := sapPort s n
  if sapFollower s n then x.num + 1 else (s.sctr.toNat - x.edge0) / sapStep s n

/-- Whether a frame edge of port `n` can fall now: a leader's on its grid, after the last; a follower's not before the last. -/
def edgeNow (s : State) (n cycle : Nat) : Bool :=
  let x := sapPort s n
  if sapFollower s n then
    decide (x.edgeAt < s.sctr.toNat) || (x.edgeAt == s.sctr.toNat && decide (x.edgeFrac.toNat < (fracOf cycle).toNat))
  else decide (x.edgeAt < s.sctr.toNat) && (s.sctr.toNat - x.edge0) % sapStep s n == 0

/-- The fraction of a frame edge: zero on a leader (R299). -/
def edgeFrac (s : State) (n cycle : Nat) : BitVec 16 := if sapFollower s n then fracOf cycle else 0

/-! ### Sink slots of the converter bank (R202 to R204) -/

/-- The slots that sink channels drive on port `n` in the frame whose edge falls in ENG cycle `cycle`: zero unless the tracker
is in TRACK (R204). -/
def sinkSlots (s : State) (n cycle : Nat) : SinkSlots :=
  if !sapAsrc s n || !fnOn s 0x28 then []
  else (convChans s n true).map (fun c =>
    let hist := (s.conv.sinkHist.find? (fun h => h.1 == c)).map (·.2)
    (getF s (F.CONV_MAP_SLOT c),
     if trkState s n = trkTrack then Config.asrcOut (trk s n).sinkRatio cycle (hist.getD []) else 0))

/-- The estimate of a tracker that begins to acquire: the nominal rate's. -/
def nominalRho (rate : Nat) : Nat := rateHz rate * 2 ^ 62 / 96000

/-- The port runs, with function 0x28 enabled and a channel on it: its tracker leaves OFF (R204). -/
def trkWake (s : State) (n : Nat) : State :=
  if fnOn s 0x28 && sapPhase s n == phRun && trkState s n == trkOff &&
    !((convChans s n false).isEmpty && (convChans s n true).isEmpty) then
    setF (setTrk s n { Trk.reset with rate := (sapPort s n).rate, rho := nominalRho (sapPort s n).rate }) (F.CONV_TRK_STATE n) trkAcquire
  else s

/-- The port restarts at a supported rate: a tracker in HOLD acquires again (R204). -/
def trkRestart (s : State) (n hz : Nat) : State :=
  if trkState s n = trkHold then
    let x := trk s n
    let y := (sapPort s n).rate
    let s := if x.rate = y then s else logEv s 0x0E62 0x28 sevNotice (le 1 n ++ le 4 hz)
    setF (setTrk s n { x with rate := y, rho := nominalRho y, stamps := [], goodFrom := none, anchor := none, nextRatio := none,
                              nextAnchor := none, first := false })
      (F.CONV_TRK_STATE n) trkAcquire
  else s

/-- The port or function 0x28 is disabled: the tracker is OFF and its source words read +0.0 (R204). -/
def trkStop (s : State) (n : Nat) : State :=
  let s := setR (setF (setF (setTrk s n Trk.reset) (F.CONV_TRK_STATE n) trkOff) (F.CONV_TRK_FIFO n) 0) (R.CONV_RATIO n) 0
  { s with dsp := { s.dsp with staging := (convChans s n false).foldl (fun m c => memSet m (0x900 + c) 0) s.dsp.staging } }

/-! ### Frames (R295, R300 to R302) -/

def execSapFirstDataFrame (n : Fin 16) (wire : List Word) (cycle : Fin 10240) (upset : Option SapUpset) (s : State) :
    Host.Outcome State Fault Refusal :=
  let k := frameNo s n.val
  if sapPhase s n.val = phQuiet ∧ edgeNow s n.val cycle.val ∧ sapQuiet s n.val ≤ k then
    let s := sapSetPhase s n.val phRun
    let s := trkWake s n.val
    .next (frameEdge s n.val k wire (edgeFrac s n.val cycle.val) upset false (sinkSlots s n.val cycle.val) true)
  else .next s

/-- A frame edge that only counts: quiet frames, and those of a stop (R300, R302). -/
def quietEdge (s : State) (n k : Nat) (frac : BitVec 16) (u : Option SapUpset) (late : Bool) : State :=
  frameEdge s n k [] frac u late [] false

/-- Whether the quiet frames of a stop are over: `k` is the frame whose edge falls (R302). -/
def stopOver (s : State) (n k : Nat) : Bool :=
  match (sapPort s n).stopFrom with
  | some f => decide (f + sapQuiet s n ≤ k)
  | none => true

/-- A frame edge of a faulted port whose frame clock still runs: its output slots drive zero data (R307). -/
def faultedEdge (s : State) (n k : Nat) (frac : BitVec 16) : State :=
  let s := flushFrame s n
  let s := setSap s n { sapPort s n with num := k, edgeAt := s.sctr.toNat, edgeFrac := frac }
  sapRefresh (beginFrame s n none 0 [] false) n

def execSapFrame (n : Fin 16) (wire : List Word) (cycle : Fin 10240) (upset : Option SapUpset) (late : Bool) (s : State) :
    Host.Outcome State Fault Refusal :=
  let k := frameNo s n.val
  let ph := sapPhase s n.val
  if !edgeNow s n.val cycle.val then .next s
  else
    let frac := edgeFrac s n.val cycle.val
    if ph = phQuiet ∧ k < sapQuiet s n.val then .next (quietEdge s n.val k frac upset late)
    else if ph = phRun then
      .next (frameEdge s n.val k wire frac upset late (sinkSlots s n.val cycle.val) true)
    else if ph = phStop ∧ !stopOver s n.val k then .next (quietEdge s n.val k frac upset late)
    else if ph = phFault then .next (faultedEdge s n.val k frac)
    else .next s

/-! ### Followers, faults and restarts (R301, R306, R307) -/

/-- The rate a port accepts at its start (R301, R305, R307): the configured one in SYNC mode, any supported one in ASRC mode. -/
def acceptRate (s : State) (n hz : Nat) : Option Nat :=
  match rateCode hz with
  | some c => if sapAsrc s n || c == getF s (F.SAP_CFG_RATE (sapFn n)) then some c else none
  | none => none

def execSapFollowerStart (n : Fin 16) (hz : Word) (cycle : Fin 10240) (s : State) : Host.Outcome State Fault Refusal :=
  let i := n.val
  let again := sapPhase s i = phFault ∧ isF s (F.SAP_CFG_AUTO_RESTART (sapFn i))
  if (sapFollower s i ∧ sapPhase s i = phWait) ∨ again then
    match acceptRate s i hz.toNat with
    | some c =>
      let x := sapPort s i
      let why := if sapPhase s i = phFault then 2 else x.restart
      let s := if sapPhase s i = phFault then setFn s (sapFn i) fnEnabled else s
      let s := noteRestart (setSap s i { x with rate := c }) i why
      .next (trkRestart (startFrames s i (edgeFrac s i cycle.val)) i hz.toNat)
    | none =>
      if sapPhase s i = phFault then .next (sapEv s i 0x0464 sevError (le 4 hz.toNat)) else .next s
  else .next s

/-- Whether port `n` watches its clocks: a follower, or a leader that samples shared clocks (R307, R310). -/
def sapMonitors (s : State) (n : Nat) : Bool :=
  sapFollower s n || (roleOf s == roleStandby && !isF s (F.SAP_CFG_PAIR_CLK (sapFn n)))

/-- A function becomes faulted (R423). -/
def fnFault (s : State) (f code : Nat) : State :=
  setFault (logEv (setFn s f fnFaulted) 0x0166 f sevError (le 2 code)) 1 2

/-- Whether a record is a slip or anchor of port `n`. -/
def syncOf (n : Nat) (r : PqRec) : Bool :=
  match r with
  | .sync p _ _ _ => p.val == n
  | _ => false

/-- Whether a slip or anchor of port `n` waits: one that this node decided, or received (R304, R313). -/
def syncPending (s : State) (n : Nat) : Bool :=
  s.paired.own.any (fun r => syncOf n r.2) || s.paired.got.any (fun g => g.parts.any (fun p => p.2.any (syncOf n)))

/-- `SAP_STAT.SLIP_PEND` follows what waits. -/
def refreshSlip (s : State) (n : Nat) : State := putF s (F.SAP_STAT_SLIP_PEND n) (syncPending s n)

/-- A pending slip or anchor of port `n` is discarded (R304). -/
def dropSync (s : State) (n : Nat) : State :=
  let own := s.paired.own.filter (fun r => !syncOf n r.2)
  let got := s.paired.got.map (fun g => { g with parts := g.parts.map (fun p => (p.1, p.2.filter (fun r => !syncOf n r))) })
  putF { s with paired := { s.paired with own := own, got := got } } (F.SAP_STAT_SLIP_PEND n) false

/-- Port `n` sees a condition of R307 and becomes faulted: its inputs hold, its outputs send zero data. -/
def clockFault (s : State) (i cond : Nat) : State :=
  let s := dropSync (flushFrame s i) i
  let x := sapPort s i
  let s := setSap s i { noLaterDp x with inSt := if x.inSt = 0 then 0 else 3, h := 0, nextIn := none, outq := [], restart := 0 }
  let s := setF (setF (sapSetPhase s i phFault) (F.SAP_STAT_FAULT i) cond) (F.SAP_STAT_FILL i) 0
  let s := setFault (bump s (R.SAP_FAULT_CNT i)) 4 i
  let s := sapEv s i 0x0463 sevError (le 1 cond)
  fnFault s (sapFn i) 0x0463

def execSapClockFault (n : Fin 16) (cond : Fin 4) (s : State) : Host.Outcome State Fault Refusal :=
  if cond.val ≠ 0 ∧ sapMonitors s n.val ∧ (sapPhase s n.val = phQuiet ∨ sapPhase s n.val = phRun) then
    .next (clockFault s n.val cond.val)
  else .next s

/-- Port `n` begins to stop (R302); a port that sends no frames has nothing to complete. -/
def sapStop (s : State) (n : Nat) : State :=
  let s := dropSync s n
  let x := sapPort s n
  let sending := sapPhase s n == phQuiet || sapPhase s n == phRun
  let from_ := if sapPhase s n = phStop then x.stopFrom else if sending then some (x.num + 1) else none
  sapSetPhase (setSap s n (noLaterDp { x with stopFrom := from_, restart := 0 })) n phStop

/-- The stop of port `n` is over: it releases its balls, and is disabled or starts again (R302, R306). -/
def sapEnd (s : State) (n : Nat) : State :=
  let s := flushFrame s n
  let x := sapPort s n
  let s := setSap s n (if x.inSt = 0 ∨ x.inSt = 4 then x else { x with inSt := 4, v := x.last, k := 1 })
  let s := sapEv s n 0x0468 sevInfo []
  if x.restart ≠ 0 ∧ fnState s (sapFn n) = fnEnabled then
    let s := sapArm s n (edgeFrom x.rate (s.sctr.toNat + 1))
    setSap s n { sapPort s n with restart := x.restart }
  else
    let s := sapSetPhase s n phOff
    let s := setSap s n { sapPort s n with nextIn := none, outq := [], stopFrom := none, restart := 0, timed := none, frames := [] }
    let s := trkStop (setF s (F.SAP_STAT_FILL n) 0) n
    logEv (setFn s (sapFn n) fnDisabled) 0x0165 (sapFn n) sevInfo []

def execSapStopped (n : Fin 16) (clockLost : Bool) (s : State) : Host.Outcome State Fault Refusal :=
  let i := n.val
  if sapPhase s i = phStop ∧ (stopOver s i (frameNo s i) ∨ (clockLost ∧ sapFollower s i)) then .next (sapEnd s i)
  else .next s

/-! ### Masks and commands (R308, R309, R315) -/

/-- Whether direct writes to `SAP_MASK_RX` are ignored: in the pair roles (R309). -/
def maskIgnored (s : State) (n : Nat) (tx : Bool) : Bool :=
  (sapPort s n).timed.isSome || (!tx && (roleOf s == roleActive || roleOf s == roleStandby))

/-- A direct write of a slot mask (R308, R309). -/
def maskWrite (s : State) (n : Nat) (tx : Bool) (w : Word) : State :=
  if maskIgnored s n tx then bump s (R.SAP_MASK_DROP n)
  else
    let x := sapPort s n
    setSap s n (if tx then { x with maskTx := some (w, true) } else { x with maskRx := some (w, true) })

def execSapMaskWrite (n : Fin 16) (tx : Bool) (w : Word) (s : State) : Host.Outcome State Fault Refusal :=
  .next (maskWrite s n.val tx w)

/-- Whether port `n` is not disabled. -/
def sapEnabled (s : State) (n : Nat) : Bool := fnState s (sapFn n) != fnDisabled

def execSlotmaskUpdate (c : Fin 8) (s : State) : Host.Outcome State Fault Refusal :=
  .next (serve s c.val 0x0401 (· == 12) false (fun s q =>
    let n := leAt q.payload 0 1
    let fl := leAt q.payload 1 1
    if 15 < n then (s, .refused 0x0425 0)
    else if !sapEnabled s n then (s, .refused 0x0426 0)
    else if (sapPort s n).timed.isSome then (s, .refused 0x0428 0)
    else
      match timedAt s q with
      | none => (s, .refused 0x0429 (s.sctr.toNat % 2 ^ 32))
      | some t =>
        let rx := if fl % 2 = 1 then some (BitVec.ofNat 32 (leAt q.payload 4 4)) else none
        let tx := if fl / 2 % 2 = 1 then some (BitVec.ofNat 32 (leAt q.payload 8 4)) else none
        (setSap s n { sapPort s n with timed := some (t, rx, tx) }, .ok (le 8 t))))

def execSapRestart (c : Fin 8) (s : State) : Host.Outcome State Fault Refusal :=
  .next (serve s c.val 0x0402 (· == 1) false (fun s q =>
    let n := leAt q.payload 0 1
    if 15 < n then (s, .refused 0x0425 0)
    else if !sapEnabled s n then (s, .refused 0x0426 0)
    else
      let s := sapStop (setFn s (sapFn n) fnEnabled) n
      (setSap s n { sapPort s n with restart := 3 }, .ok [])))

/-! ### Staging at a boundary (R295, R300 to R304) -/

/-- The words of a row at the adaptors: RX_CH, or twice that with DUAL192 (R297). -/
def rxWords (s : State) (n : Nat) : Nat := if sapDual s n then 2 * sapRxCh s n else sapRxCh s n

/-- The masked row of an input frame; a frame without data has none. -/
def frameRow (s : State) (n : Nat) (f : SapFrame) : Option (List Word) := f.slots.map (fun _ => f.masked.take (rxWords s n))

/-- The input frame a leader stages for sp `t`: the one whose edge fell 2 sp before, or at 48 kHz 4 sp before (R295). -/
def leaderFrame (s : State) (n t : Nat) : Option SapFrame :=
  let x := sapPort s n
  x.frames.find? (fun f => f.at_ + (if x.rate = 0 then 4 else 2) == t)

/-- One staging step: values to stage, with what the frame gives: no frame, a frame without data, or a row (R272, R273). A fade takes a
step in every sp; a row that comes in a hold or a fade-out, of a port that has started again, fades in. -/
def sapStageStep (x : SapPort) (width hold : Nat) (row : Option (Option (List Word))) : SapPort × List Word :=
  let zero := List.replicate width (0 : Word)
  let fade := fun (v : List Word) (k : Nat) =>
    if 32 ≤ k then zero else v.map (fun w => (fmul w (intF (32 - (k : Int)) (-5))).w)
  let fadeIn := fun (v : List Word) (k : Nat) => if 32 ≤ k then v else v.map (fun w => (fmul w (intF (k : Int) (-5))).w)
  let enterFade := ({ x with inSt := 4, v := x.last, k := 2, last := fade x.last 1 }, fade x.last 1)
  let silentStep :=
    if x.inSt = 4 then
      let r := fade x.v x.k
      ({ x with inSt := if 32 ≤ x.k then 0 else 4, k := x.k + 1, last := r }, r)
    else if x.inSt = 3 then
      if x.h < hold then ({ x with h := x.h + 1 }, x.last) else enterFade
    else if x.inSt = 0 then (x, zero)
    else enterFade
  match row with
  | some (some v) =>
    if x.inSt = 2 then ({ x with last := v }, v)
    else
      let k := if x.inSt = 1 then x.k else 1
      let r := fadeIn v k
      ({ x with inSt := if 32 ≤ k then 2 else 1, k := k + 1, last := r }, r)
  | some none => silentStep
  | none =>
    if x.inSt = 1 then ({ x with inSt := if 32 ≤ x.k then 2 else 1, k := x.k + 1 }, x.last)
    else if x.inSt = 2 then (x, x.last)
    else silentStep

/-- Put a staged row into the staging registers, through the port's adaptor where it has one (R198, R296, R297); `entry`: at
48 kHz the sample enters the interpolator in this sp. -/
def sapPut (s : State) (n : Nat) (row : List Word) (entry : Bool) : State :=
  let x := sapPort s n
  let base := 0x800 + getF s (F.SAP_CHAN_RX_BASE (sapFn n))
  let filter := isF s (F.SAP_CFG_FILTER (sapFn n))
  let ch := sapRxCh s n
  if sapDual s n || x.rate == 0 then
    let hist := ((if entry || sapDual s n then row else row.map (fun _ => 0)) :: x.histIn).take 64
    let out := (List.range ch).map (fun c =>
      if sapDual s n then fir 2 filter (hist.flatMap (fun r => [r.getD (2 * c + 1) 0, r.getD (2 * c) 0]))
      else fir 0 filter (hist.map (fun r => r.getD c 0)))
    let s := setSap s n { x with histIn := hist }
    { s with dsp := { s.dsp with staging := memSetList s.dsp.staging base out } }
  else { s with dsp := { s.dsp with staging := memSetList s.dsp.staging base (row.take ch) } }

/-- The fill of a SYNC port: complete input frames not yet staged (R304). -/
def sapFill (x : SapPort) : Nat :=
  match x.nextIn with
  | some m => x.num - m
  | none => 0

/-- After a staging, the port measures its fill (R304). -/
def measureFill (s : State) (n : Nat) : State :=
  let x := sapPort s n
  let f := sapFill x
  let s := setF s (F.SAP_STAT_FILL n) (min f 15)
  setSap s n { x with hi := if 5 ≤ f then x.hi + 1 else 0, lo := if f ≤ 1 then x.lo + 1 else 0 }

/-- A STANDBY's FIFO has emptied or filled: the port faults (R304). The spec names no condition of R307 for it: the code is free (log entry
47). -/
def fifoFault (s : State) (n : Nat) : State := clockFault (nextFree s) n (1 + (Config.freeWord s.free).toNat % 3)

/-- The input FIFO of a SYNC port after a frame has come: it holds 8 frames (R303). On a STANDBY a full one faults the port; elsewhere the
oldest frame goes (log entry 47). -/
def capFifo (s : State) (n : Nat) : State :=
  let x := sapPort s n
  match x.nextIn with
  | none => s
  | some m =>
    if roleOf s = roleStandby then (if m + 8 ≤ x.num then fifoFault s n else s)
    else if m + 8 < x.num then setSap s n { x with nextIn := some (x.num - 8) }
    else s

/-- The frame a SYNC port stages at this boundary: its next one, if it is complete; and the output frame its sinks give. -/
def syncStage (s : State) (n : Nat) : State × Option SapFrame :=
  let s := capFifo s n
  let x := sapPort s n
  match x.nextIn with
  | none => (s, none)
  | some m =>
    if x.rate = 0 ∧ s.sctr.toNat % 2 = 1 then (s, none)
    else
      let out := if x.rate = 0 then x.decNow else txRow s s.dsp.sinkVals n
      let x := if x.outq.length < 8 then { x with outq := x.outq ++ [out] } else x
      if m < x.num then
        (measureFill (setSap s n { x with nextIn := some (m + 1) }) n, x.frames.find? (fun f => f.num == m))
      else if roleOf s = roleStandby then (fifoFault (setSap s n x) n, none)
      else (measureFill (setSap s n x) n, none)

/-- Whether port `n` stages input channels. -/
def sapStages (s : State) (n : Nat) : Bool :=
  decide (0 < sapRxCh s n) && (sapPhase s n != phOff || (sapPort s n).inSt != 0)

/-- Stage port `n` for the sp after the current one. -/
def stageSap (s : State) (n : Nat) : State :=
  let t := s.sctr.toNat + 1
  let (s, f) := if sapFollower s n then syncStage s n else (s, leaderFrame s n t)
  if !sapStages s n then s
  else
    let (x, row) := sapStageStep (sapPort s n) (rxWords s n) (getF s (F.SAP_TIME_HOLD (sapFn n))) (f.map (frameRow s n))
    sapPut (setSap s n x) n row ((if sapFollower s n then s.sctr.toNat else t) % 2 == 0)

/-- Every serial port stages. -/
def stageSaps (s : State) : State := (List.range 16).foldl stageSap s

/-- The decimator of a 48 kHz port's output channels takes the sink values just read (R198, R201). -/
def decimate (s : State) (n : Nat) : State :=
  let x := sapPort s n
  if x.rate = 0 ∧ 2 ≤ sapPhase s n ∧ 0 < sapTxCh s n then
    let hist := (txRow s s.dsp.sinkVals n :: x.histOut).take 64
    let s := setSap s n { x with histOut := hist }
    if s.sctr.toNat % 2 = 0 then
      let filter := isF s (F.SAP_CFG_FILTER (sapFn n))
      let out := (List.range (sapSlots s n)).map (fun i =>
        if i < sapTxCh s n then fir 1 filter (hist.map (fun r => r.getD i 0)) else 0)
      setSap s n { x with histOut := hist, decNow := out, decPrev := x.decNow }
    else s
  else s

/-- Every 48 kHz port's decimator. -/
def decimateSaps (s : State) : State := (List.range 16).foldl decimate s

/-! ### Anchors and slips (R303, R304) -/

/-- At a boundary, a SYNC port that runs and is not anchored names its most recent complete frame (R303). -/
def decideAnchor (s : State) (n : Nat) : State :=
  let x := sapPort s n
  if sapSync s n && sapPhase s n == phRun && x.nextIn.isNone && !syncPending s n && (x.rate != 0 || s.sctr.toNat % 2 == 0) then
    match x.frames.find? (fun f => f.num + 1 == x.num) with
    | some f =>
      decidePq (putF s (F.SAP_STAT_SLIP_PEND n) true) s.sctr.toNat
        (.sync (Fin.ofNat 16 n) 3 (BitVec.ofNat 64 f.at_) f.frac)
    | none => s
  else s

/-- Every SYNC port. -/
def decideAnchors (s : State) : State := (List.range 16).foldl decideAnchor s

/-- Whether port `n` decides a slip at this boundary: kind 1 drop or 2 repeat (R304). -/
def slipKind (s : State) (n : Nat) : Option (Fin 4) :=
  let x := sapPort s n
  let free := match x.slipAt with
    | some a => decide (a + 16 ≤ s.sctr.toNat)
    | none => true
  if x.nextIn.isSome && sapPhase s n == phRun && !syncPending s n && free then
    if 4 ≤ x.hi then some 1 else if 4 ≤ x.lo then some 2 else none
  else none

def execSlipDecision (n : Fin 16) (s : State) : Host.Outcome State Fault Refusal :=
  match slipKind s n.val with
  | some k =>
    let x := sapPort s n.val
    .next (decidePq (putF s (F.SAP_STAT_SLIP_PEND n.val) true) s.sctr.toNat
      (.sync n k (BitVec.ofNat 64 x.edgeAt) x.edgeFrac))
  | none => .next s

/-- The instant of a stamp in 65,536ths of an sp. -/
def instant (at_ : Nat) (frac : BitVec 16) : Nat := at_ * 65536 + frac.toNat

/-- The frame whose own stamp lies nearest to a named one (R206, R303). -/
def nearestFrame (fs : List SapFrame) (at_ : Nat) (frac : BitVec 16) : Option SapFrame :=
  let d := fun (f : SapFrame) => ((instant f.at_ f.frac : Int) - instant at_ frac).natAbs
  fs.foldl (fun b f =>
    match b with
    | none => some f
    | some g => if d f < d g then some f else some g) none

/-- A slip or anchor applies at the coming boundary (R303, R304). -/
def applySync (s : State) (n : Nat) (kind : Nat) (at_ : Nat) (frac : BitVec 16) : State :=
  let x := sapPort s n
  if sapPhase s n ≠ phRun ∨ !sapSync s n then s
  else if kind = 3 then
    match nearestFrame x.frames at_ frac with
    | some f =>
      let z := List.replicate (sapSlots s n) (0 : Word)
      sapEv (setSap s n { x with nextIn := some (f.num + if x.rate = 0 then 1 else 5), outq := [z, z, z], hi := 0, lo := 0 })
        n 0x0466 sevInfo []
    | none => s
  else
    match x.nextIn with
    | some m =>
      let x := if kind = 1 then { x with nextIn := some (m + 1), outq := x.outq.tail }
        else { x with nextIn := some (m - 1), outq := (x.outq.take 1) ++ x.outq }
      let s := setSap s n { x with slipAt := some s.sctr.toNat, hi := 0, lo := 0 }
      sapEv (bump s (if kind = 1 then R.SLIP_DROP n else R.SLIP_REPEAT n)) n 0x0461 sevNotice (le 1 kind)
    | none => s

end Sys2Proof.Machine
end

