-- ==== Sys2Proof/Machine/Conv.lean ====
section
/-! DEFINITION. Rate conversion, the Drypoint path, meters and taps (chapter 07). -/

namespace Sys2Proof.Machine

/-! ### The converter bank (R202 to R206) -/

/-- The enable check of function 0x28 (R221). -/
def convCheck (s : State) : Option (Nat × Nat) :=
  let used := (List.range 512).filter (fun c => isF s (F.CONV_MAP_USED c))
  let port := fun c => getF s (F.CONV_MAP_PORT c)
  let key := fun c => (port c, getF s (F.CONV_MAP_SLOT c), getF s (F.CONV_MAP_DIR c))
  match used.find? (fun c => !sapAsrc s (port c)) with
  | some c => some (0x0E20, 0x10 + 4 * c)
  | none =>
    match used.find? (fun c => used.any (fun d => decide (d < c) && key d == key c)) with
    | some c => some (0x0E21, 0x10 + 4 * c)
    | none => (used.find? (fun c => decide (sapSlots s (port c) ≤ getF s (F.CONV_MAP_SLOT c)))).map (fun c => (0x0E22, 0x10 + 4 * c))

/-- Function 0x28 starts: the trackers of ports that run leave OFF (R204). -/
def convStart (s : State) : State :=
  (List.range 16).foldl trkWake { s with conv := { s.conv with sinkHist := [] } }

/-- Function 0x28 stops (R204). -/
def convStop (s : State) : State := (List.range 16).foldl trkStop { s with conv := { s.conv with sinkHist := [] } }

/-- The frames of port `t` that its tracker has not yet passed (R203, R224). -/
def trkFill (s : State) (t : Nat) : Nat :=
  let x := trk s t
  match x.anchor with
  | some a => (sapPort s t).num - (a + x.pos / 2 ^ 32)
  | none => 0

/-- Whether the frequency error has stayed below 10 ppm for 250 ms (R204). -/
def lockReady (s : State) (t : Nat) : Bool :=
  trkState s t == trkAcquire &&
  match (trk s t).goodFrom with
  | some g => decide (g + 24000 ≤ s.sctr.toNat)
  | none => false

def execConvLocked (t : Fin 16) (s : State) : Host.Outcome State Fault Refusal :=
  if lockReady s t.val then
    let s := setTrk s t.val { trk s t.val with first := true, trackAt := s.sctr.toNat, decidedAt := none }
    .next (logEv (setF s (F.CONV_TRK_STATE t.val) trkTrack) 0x0E60 0x28 sevInfo (le 1 t.val))
  else .next s

/-- Whether the reason to leave TRACK holds: a condition of the port, or a FIFO within 4 frames of empty or full (R204). -/
def unlockHolds (s : State) (t reason : Nat) : Bool :=
  if reason = 0 then false
  else if reason = 4 then (trk s t).anchor.isSome && (decide (trkFill s t ≤ 4) || decide (60 ≤ trkFill s t))
  else sapPhase s t == phFault && getF s (F.SAP_STAT_FAULT t) == reason

def execConvUnlocked (t : Fin 16) (reason : Fin 5) (s : State) : Host.Outcome State Fault Refusal :=
  if trkState s t.val = trkTrack ∧ unlockHolds s t.val reason.val then
    let x := trk s t.val
    let y := { x with goodFrom := none, sinkNext := [], nextRatio := none, nextAnchor := none }
    let s := setTrk s t.val { y with inSt := if x.inSt = 0 then 0 else 3, h := 0 }
    let s := setF s (F.CONV_TRK_STATE t.val) trkHold
    .next (setFault (logEv s 0x0E61 0x28 sevWarning (le 1 t.val ++ le 1 reason.val)) 14 0)
  else .next s

/-- The ratio of an estimate: unsigned Q2.30, rounded to nearest, ties to even (R205). -/
def ratioOf (rho : Nat) : Word := BitVec.ofNat 32 (roundEven rho (2 ^ 32))

/-- Whether tracker `t` decides an update at this boundary: one of the cadence, after the entry to TRACK, and once (R205). -/
def ratioDue (s : State) (t : Nat) : Bool :=
  trkState s t == trkTrack && s.sctr.toNat % 96 == 0 && decide ((trk s t).trackAt < s.sctr.toNat) &&
  (trk s t).decidedAt != some s.sctr.toNat

/-- The stamp of the frame that an anchor names: `back` frames before the newest complete one. -/
def anchorStamp (s : State) (t back : Nat) : Option (BitVec 64 × BitVec 16) :=
  ((sapPort s t).frames.find? (fun f => f.num + 1 + back == (sapPort s t).num)).map (fun f => (BitVec.ofNat 64 f.at_, f.frac))

/-- A ratio is decided: the source side's is a paired quantity, the sink side's the node's own (R206). -/
def decideRatio (s : State) (t : Nat) (anchor : Option (BitVec 64 × BitVec 16)) : State :=
  let x := trk s t
  let r := ratioOf x.rho
  let n := s.sctr.toNat
  let sinks := if (convChans s t true).isEmpty then x.sinkNext else x.sinkNext ++ [(n, r)]
  let s := setTrk s t { x with first := false, decidedAt := some n, sinkNext := sinks }
  if (convChans s t false).isEmpty then s else decidePq s n (.ratio (Fin.ofNat 16 t) r anchor)

def execConvRatioUpdate (t : Fin 16) (back : Fin 64) (s : State) : Host.Outcome State Fault Refusal :=
  if ratioDue s t.val then
    if !(trk s t.val).first then .next (decideRatio s t.val none)
    else
      match anchorStamp s t.val back.val with
      | some a => .next (decideRatio s t.val (some a))
      | none => .next s
  else .next s

/-- A ratio, and with it an anchor, applies at the coming boundary (R205, R206). -/
def applyRatio (s : State) (t : Nat) (ratio : Word) (anchor : Option (Nat × BitVec 16)) : State :=
  let x := trk s t
  if trkState s t = trkOff ∨ trkState s t = trkHold then s
  else
    match anchor with
    | some (at_, frac) =>
      match nearestFrame (sapPort s t).frames at_ frac with
      | some f => setTrk s t { x with nextRatio := some ratio, nextAnchor := some f.num }
      | none => s
    | none => setTrk s t { x with nextRatio := some ratio }

/-- The value of source channel `c` at the tracker's read position: 64 frames around it (R203, R205). -/
def asrcValue (s : State) (t c : Nat) : Word :=
  let x := trk s t
  match x.anchor with
  | none => 0
  | some a =>
    let slot := getF s (F.CONV_MAP_SLOT c)
    let base := a + x.pos / 2 ^ 32
    let win := (List.range 64).map (fun i =>
      match (sapPort s t).frames.find? (fun f => f.num + 31 == base + i) with
      | some f => f.masked.getD slot 0
      | none => 0)
    Config.asrcIn (getR s (R.CONV_RATIO t)) (x.pos % 2 ^ 32) win

/-- A tracker at a boundary: the read position advances by the applied ratio, or starts at an anchor, and the ratio decided 8 sp
ago applies, on the source side as the pair has it, on the sink side this node's own (R205, R206). `CONV_RATIO` shows the source side's
where the port has source channels. -/
def trkAdvance (s : State) (t : Nat) : State :=
  let x := trk s t
  let x := match x.nextAnchor with
    | some a => { x with anchor := some a, pos := 0, nextAnchor := none, inSt := 1, k := 1 }
    | none =>
      match x.anchor with
      | some _ => { x with pos := (x.pos + (getR s (R.CONV_RATIO t)).toNat * 4) % 2 ^ 64 }
      | none => x
  let s := match x.nextRatio with
    | some r => setR s (R.CONV_RATIO t) r
    | none => s
  let due := x.sinkNext.filter (fun p => decide (p.1 + 8 ≤ s.sctr.toNat))
  let sink := (due.getLast?.map (·.2)).getD x.sinkRatio
  let s := if (convChans s t false).isEmpty then setR s (R.CONV_RATIO t) sink else s
  let s := setTrk s t { x with nextRatio := none, sinkNext := x.sinkNext.drop due.length, sinkRatio := sink }
  setF s (F.CONV_TRK_FIFO t) (min (trkFill s t) 63)

/-- Give every source channel of tracker `t` its value for the sp that begins (R204, R205). -/
def trkOutput (s : State) (t : Nat) : State :=
  let x := trk s t
  let chans := convChans s t false
  let hold := getF s (F.SAP_TIME_HOLD (sapFn t))
  let held := fun (l : List (Nat × Word)) c => ((l.find? (fun p => p.1 == c)).map (·.2)).getD 0
  let fadeOut := fun (w : Word) (k : Nat) => if 32 ≤ k then 0 else (fmul w (intF (32 - (k : Int)) (-5))).w
  let fadeIn := fun (w : Word) (k : Nat) => if 32 ≤ k then w else (fmul w (intF (k : Int) (-5))).w
  let entering := x.inSt = 3 ∧ hold ≤ x.h
  let v := if entering then x.last else x.v
  let k := if entering then 1 else x.k
  let st := if entering then 4 else x.inSt
  let row := chans.map (fun c =>
    (c, if st = 1 then fadeIn (asrcValue s t c) k
        else if st = 2 then asrcValue s t c
        else if st = 3 then held x.last c
        else if st = 4 then fadeOut (held v c) k
        else 0))
  let st' := if st = 1 ∧ 32 ≤ k then 2 else if st = 4 ∧ 32 ≤ k then 0 else st
  let s := setTrk s t { x with inSt := st', k := k + 1, h := if st = 3 then x.h + 1 else x.h, last := row, v := v }
  { s with dsp := { s.dsp with staging := row.foldl (fun m p => memSet m (0x900 + p.1) p.2) s.dsp.staging } }

/-- The converter bank at a boundary. -/
def convBoundary (s : State) : State :=
  if !fnOn s 0x28 then s
  else (List.range 16).foldl (fun s t => if trkState s t = trkOff then s else trkOutput (trkAdvance s t) t) s

/-- The sink channels take the values just read (R202). -/
def convSinks (s : State) : State :=
  if !fnOn s 0x28 then s
  else
    let used := (List.range 512).filter (fun c => isF s (F.CONV_MAP_USED c) && isF s (F.CONV_MAP_DIR c))
    let old := fun c => ((s.conv.sinkHist.find? (fun h => h.1 == c)).map (·.2)).getD []
    { s with conv := { s.conv with sinkHist := used.map (fun c =>
        (c, ((memGet s.dsp.sinkVals (4096 * 5 + c)) :: old c).take 96)) } }

/-! ### The Drypoint path (R207 to R212) -/

/-- The frame-clock group of port `n` as it is configured (R207). -/
def groupOf (s : State) (n : Nat) : Nat :=
  if sapFollower s n then 2 + n else if getF s (F.SAP_CFG_RATE (sapFn n)) = 0 then 1 else 0

def dpInPort (s : State) (i : Nat) : Nat := getF s (F.DP_IN_PORT i)
def dpInSlot (s : State) (i : Nat) : Nat := getF s (F.DP_IN_SLOT i)
def dpPscOut (s : State) (o : Nat) : Bool := isF s (F.DP_OUT_KIND o)
def dpTarget (s : State) (o : Nat) : Nat := getF s (F.DP_OUT_TARGET o)
def dpOutSlot (s : State) (o : Nat) : Nat := getF s (F.DP_OUT_SLOT o)

/-- The group of output `o`. -/
def dpGroup (s : State) (o : Nat) : Nat := if dpPscOut s o then 0 else groupOf s (dpTarget s o)

/-- Whether output `o` may take input `i`, both in use (R207). -/
def dpPermits (s : State) (o i : Nat) : Bool :=
  isF s (F.DP_OUT_USED o) && isF s (F.DP_IN_USED i) && wbit (getR s (R.DP_ROUTE o + i / 32 * 4)) (i % 32)

/-- The inputs output `o` takes. -/
def dpInputs (s : State) (o : Nat) : List Nat := (List.range 64).filter (dpPermits s o)

/-- The enable check of function 0x29 (R207, R222). -/
def dpCheck (s : State) : Option (Nat × Nat) :=
  let ins := (List.range 64).filter (fun i => isF s (F.DP_IN_USED i))
  let outs := (List.range 32).filter (fun o => isF s (F.DP_OUT_USED o))
  let dest := fun o => (dpPscOut s o, dpTarget s o, if dpPscOut s o then 0 else dpOutSlot s o)
  match ins.find? (fun i => decide (sapSlots s (dpInPort s i) ≤ dpInSlot s i)) with
  | some i => some (0x0E25, 4 * i)
  | none =>
    match outs.find? (fun o => !dpPscOut s o && decide (sapSlots s (dpTarget s o) ≤ dpOutSlot s o)) with
    | some o => some (0x0E25, 0x100 + 4 * o)
    | none =>
      match outs.find? (fun o => outs.any (fun m => decide (m < o) && dest m == dest o)) with
      | some o => some (0x0E26, 0x100 + 4 * o)
      | none =>
        match outs.find? (fun o => dpPscOut s o && !modelA s) with
        | some o => some (0x0E27, 0x100 + 4 * o)
        | none =>
          (outs.find? (fun o => (dpInputs s o).any (fun i => groupOf s (dpInPort s i) != dpGroup s o))).map
            (fun o => (0x0E24, 0x180 + 8 * o))

/-- Function 0x29 starts: every gain is +0.0 (R210). -/
def dpStart (s : State) : State :=
  { s with conv := { s.conv with gains := [], dpSets := [], dpRamps := [], dpLive := [], dpBroken := [], dpEver := [], dpAt := [], dpPsc := [] } }

/-- The crosspoint of output `o` and input `i`. -/
def xpOf (o i : Nat) : Nat := 64 * o + i

/-- Whether a power-stage channel is in FADE_IN or RUNNING (R212, R335). -/
def pscPlays (s : State) (n : Nat) : Bool := getF s (F.PSC_STAT_STATE n) == 3 || getF s (F.PSC_STAT_STATE n) == 4

/-- Whether the destination of output `o` runs (R212). -/
def dpDestRuns (s : State) (o : Nat) : Bool :=
  if dpPscOut s o then pscPlays s (dpTarget s o) else sapPhase s (dpTarget s o) == phRun

/-- Whether a crosspoint is live (R212). -/
def xpLive (s : State) (o i : Nat) : Bool :=
  dpDestRuns s o && sapPhase s (dpInPort s i) == phRun && groupOf s (dpInPort s i) == dpGroup s o

/-- A gain ramp of `n` frames from `g0` begins; with 0 frames the step is immediate (R210). -/
def dpRampTo (s : State) (xp : Nat) (g0 gt : Word) (n : Nat) : State :=
  let rs := s.conv.dpRamps.filter (fun r => r.xp != xp)
  { s with conv := { s.conv with gains := memSet s.conv.gains xp gt, dpRamps := if n = 0 then rs else rs ++ [⟨xp, g0, gt, n, 0⟩] } }

/-- The gain a crosspoint applies now: its ramp's last step, or its gain. -/
def xpGain (s : State) (xp : Nat) : Word :=
  match s.conv.dpRamps.find? (fun r => r.xp == xp) with
  | some r => if r.k = 0 then r.g0 else lerp r.g0 r.gt r.k r.n
  | none => memGet s.conv.gains xp

/-- One frame of a crosspoint's ramp: it steps, and ends at its last step. -/
def xpStep (s : State) (xp : Nat) : State :=
  match s.conv.dpRamps.find? (fun r => r.xp == xp) with
  | some r =>
    let rs := s.conv.dpRamps.filter (fun x => x.xp != xp)
    { s with conv := { s.conv with dpRamps := if r.n ≤ r.k + 1 then rs else rs ++ [{ r with k := r.k + 1 }] } }
  | none => s

/-- The gains accepted for a crosspoint begin, in order, in an output frame that begins at `start`: each from the current step; on a
crosspoint that is not live the gain is kept for its return (R210, R212). -/
def xpBegin (s : State) (o i start : Nat) : State :=
  let xp := xpOf o i
  let ripe := fun (d : DpSet) => d.xp == xp && decide (d.from_ ≤ start)
  let now := s.conv.dpSets.filter ripe
  let s := { s with conv := { s.conv with dpSets := s.conv.dpSets.filter (fun d => !ripe d) } }
  now.foldl (fun s d => dpRampTo s xp (xpGain s xp) d.gt (if xpLive s o i then d.n else 0)) s

/-- Watch a crosspoint in a frame: a group change is logged, and so is its end; a crosspoint that is live again ramps back in
(R212). -/
def xpWatch (s : State) (o i : Nat) : State :=
  let xp := xpOf o i
  let args := le 1 o ++ le 1 i
  let s := if groupOf s (dpInPort s i) ≠ dpGroup s o ∧ !s.conv.dpBroken.contains xp then
      setFault (logEv { s with conv := { s.conv with dpBroken := xp :: s.conv.dpBroken } } 0x0E67 0x29 sevWarning args) 14 4
    else s
  let was := s.conv.dpLive.contains xp
  if xpLive s o i then
    if was then s
    else
      let s := if s.conv.dpBroken.contains xp then
          logEv { s with conv := { s.conv with dpBroken := s.conv.dpBroken.filter (· != xp) } } 0x0E68 0x29 sevNotice args
        else s
      let s := { s with conv := { s.conv with dpLive := xp :: s.conv.dpLive } }
      if s.conv.dpEver.contains xp then
        dpRampTo s xp 0 (memGet s.conv.gains xp) 32
      else { s with conv := { s.conv with dpEver := xp :: s.conv.dpEver } }
  else if was then
    { s with conv := { s.conv with dpLive := s.conv.dpLive.filter (· != xp), dpRamps := s.conv.dpRamps.filter (fun r => r.xp != xp) } }
  else s

/-- The slot value of input `i` in the current frame of its port. -/
def dpValue (s : State) (i : Nat) : Word :=
  let x := sapPort s (dpInPort s i)
  match x.frames.find? (fun f => f.num == x.num) with
  | some f => (f.slots.getD []).getD (dpInSlot s i) 0
  | none => 0

/-- The exact sum over the live inputs of output `o`, read out once (R83 to R85, R208). -/
def dpSum (s : State) (o : Nat) : Word :=
  dot (((dpInputs s o).filter (xpLive s o)).map (fun i => (xpGain s (xpOf o i), dpValue s i)))

/-- When the last permitted input word of output `o` is complete, in AUD cycles for leaders, in BCLK periods for a follower
(R209). -/
def dpComplete (s : State) (o : Nat) : Nat :=
  (dpInputs s o).foldl (fun t i =>
    let n := dpInPort s i
    let e := slotStart s n (dpInSlot s i + 1)
    max t (if sapFollower s n then e else e * 2 ^ getF s (F.SAP_CFG_BCLK_DIV (sapFn n)))) 0

/-- How many frames after the current one the destination slot of output `o` next begins at or after t_c + 0.25 µs (R209). -/
def dpDelay (s : State) (o : Nat) : Nat :=
  let tc := dpComplete s o
  if dpPscOut s o then ((List.range 4).find? (fun d => decide (tc * 1000 + 12288 ≤ d * 512000))).getD 4
  else
    let n := dpTarget s o
    let st := slotStart s n (dpOutSlot s o)
    if sapFollower s n then
      let bits := sapSlots s n * sapSlotW s n
      let rate := rateHz (sapPort s n).rate
      ((List.range 4).find? (fun d => decide (rate * bits + tc * 4000000 ≤ (st + d * bits) * 4000000))).getD 4
    else
      let frame := if getF s (F.SAP_CFG_RATE (sapFn n)) = 0 then 1024 else 512
      let st := st * 2 ^ getF s (F.SAP_CFG_BCLK_DIV (sapFn n))
      ((List.range 4).find? (fun d => decide (tc * 1000 + 12288 ≤ (st + d * frame) * 1000))).getD 4

/-- When the output frame that carries this frame's sum begins, in 65,536ths of an sp: the destination's current frame and the frames
after it (R209). -/
def dpBegins (s : State) (o : Nat) : Nat :=
  let d := dpDelay s o
  if dpPscOut s o then (s.sctr.toNat + d) * 65536
  else
    let x := sapPort s (dpTarget s o)
    instant x.edgeAt x.edgeFrac + d * (65536 * 96000 / rateHz x.rate)

/-- Form output `o` for this frame (R208 to R210, R212). -/
def dpOutput (s : State) (o : Nat) : State :=
  let ins := dpInputs s o
  let s := ins.foldl (fun s i => xpWatch s o i) s
  let start := dpBegins s o
  let s := ins.foldl (fun s i => if xpLive s o i then xpStep (xpBegin s o i start) (xpOf o i) else xpBegin s o i start) s
  if !dpDestRuns s o then s
  else
    let v := dpSum s o
    let d := dpDelay s o
    if dpPscOut s o then
      { s with conv := { s.conv with dpPsc := s.conv.dpPsc ++ [(s.sctr.toNat + d, dpTarget s o, v)] } }
    else
      let x := sapPort s (dpTarget s o)
      setSap s (dpTarget s o) { x with dp := x.dp ++ [(x.num + d, dpOutSlot s o, v)] }

/-- What names the current frame of group `g`: the SCTR, of which a 48 kHz frame has two, or a follower's frame number. -/
def dpFrameNo (s : State) (g : Nat) : Nat :=
  if g = 0 then s.sctr.toNat else if g = 1 then s.sctr.toNat / 2 else (sapPort s (g - 2)).num

def execDrypointFrame (g : Fin 18) (s : State) : Host.Outcome State Fault Refusal :=
  let now := (g.val, dpFrameNo s g.val)
  if fnOn s 0x29 ∧ !s.conv.dpAt.contains now then
    let s := { s with conv := { s.conv with dpAt := now :: s.conv.dpAt.filter (fun a => a.1 != g.val) } }
    .next (((List.range 32).filter (fun o => isF s (F.DP_OUT_USED o) && dpGroup s o == g.val)).foldl dpOutput s)
  else .next s

/-- An entry of `DRYPOINT_GAIN`: output, input and gain. -/
def dpEntry (p : List Byte) (j : Nat) : Nat × Nat × Word :=
  (leAt p (4 + 6 * j) 1, leAt p (5 + 6 * j) 1, BitVec.ofNat 32 (leAt p (6 + 6 * j) 4))

/-- The instant from which an output frame takes gains accepted now: 2 µs, 1,967 ENG cycles, after an acceptance whose cycle its command
does not carry (R210, log entry 5). -/
def gainFrom (s : State) : Nat := s.sctr.toNat * 65536 + ((Config.freeCycle s.free % 10240 + 1967) * 65536 + 10239) / 10240

def execDrypointGain (c : Fin 8) (s : State) : Host.Outcome State Fault Refusal :=
  .next (serve s c.val 0x0E01 (fun n => decide (4 ≤ n) && decide ((n - 4) % 6 = 0)) false (fun s q =>
    let n := leAt q.payload 0 1
    let ramp := leAt q.payload 2 2
    let es := (List.range n).map (dpEntry q.payload)
    if n = 0 ∨ 64 < n ∨ 1024 < ramp ∨ !fnOn s 0x29 then (s, .refused 0x0E29 0)
    else if q.len ≠ 4 + 6 * n then (s, .malformed 0x0120 4)
    else if es.any (fun e => decide (32 ≤ e.1) || decide (64 ≤ e.2.1) || !dpPermits s e.1 e.2.1) then (s, .refused 0x0E28 0)
    else
      ({ nextFree s with conv := { s.conv with dpSets := s.conv.dpSets ++ es.map (fun e => ⟨xpOf e.1 e.2.1, e.2.2, ramp, gainFrom s⟩) } },
        .ok [])))

/-! ### Meters (R213 to R215) -/

/-- The kind of point `q` in the meter map of bank `b` (R147). -/
def meterKind (s : State) (b q : Nat) : Nat := (memGet (s.eng.banks.getD b Bank.reset).meterMap q).toNat % 8

/-- The points in use in bank `b`. -/
def meterPoints (s : State) (b : Nat) : List Nat :=
  ((s.eng.banks.getD b Bank.reset).meterMap.filter (fun c => c.2.toNat % 8 != 0)).map (·.1)

/-- The square of a value in units of 2^-300 (R213). -/
def squareOf (w : Word) : Nat :=
  match cls w with
  | .num _ m e => if m = 0 then 0 else m * m * 2 ^ (2 * e + 300).toNat
  | _ => 0

/-- Fold the words of a point into its window (R213). -/
def meterFold (a : MeterAcc) (kind : Nat) (w0 w1 : Word) : MeterAcc :=
  if isNan w0 then a
  else
    let x := canon w0
    let m := x &&& 0x7FFFFFFF
    let a := { a with n := a.n + 1, max := if a.max.toNat < m.toNat then m else a.max }
    if kind = 1 then { a with count := if 0x3F800000 ≤ m.toNat then a.count + 1 else a.count }
    else if kind = 2 then { a with sum := a.sum + squareOf x, inf := a.inf || m == 0x7F800000 }
    else if kind = 3 then
      { a with
        lo := match a.lo with
          | some (v, _) => if cmpKey x < cmpKey v then some (x, w1) else a.lo
          | none => some (x, w1),
        hi := match a.hi with
          | some (v, _) => if cmpKey v < cmpKey x then some (x, w1) else a.hi
          | none => some (x, w1) }
    else a

/-- The service folds every point of the window's plate (R213). -/
def meterStep (s : State) : State :=
  if !fnOn s 0x2B then s
  else
    let b := s.conv.mBank
    let acc := (meterPoints s b).map (fun q =>
      let a := ((s.conv.mAcc.find? (fun p => p.1 == q)).map (·.2)).getD MeterAcc.reset
      (q, meterFold a (meterKind s b q) (memGet s.dsp.meter (4 * q)) (memGet s.dsp.meter (4 * q + 1))))
    { s with conv := { s.conv with mFolded := min (s.conv.mFolded + 1) 65535, mAcc := acc } }

/-- The square root of a mean square, rounded once: sum in units of 2^-300 over n. -/
def rmsOf (sum n : Nat) : Word :=
  if n = 0 ∨ sum = 0 then 0
  else
    let r := rootSearch 340 0 n (sum * 2 ^ 64)
    (deliverNum false (2 * r + (if r * r * n = sum * 2 ^ 64 then 0 else 1)) (-183)).w

/-- The snapshot words of a point (R213). -/
def meterWords (s : State) (b q : Nat) : List Word :=
  let a := ((s.conv.mAcc.find? (fun p => p.1 == q)).map (·.2)).getD MeterAcc.reset
  match meterKind s b q with
  | 1 => [a.max, BitVec.ofNat 32 a.count, 0, 0]
  | 2 => [if a.inf then infF false else rmsOf a.sum a.n, a.max, 0, 0]
  | 3 =>
    let l := a.lo.getD (0, 0)
    let h := a.hi.getD (0, 0)
    [l.1, l.2, h.1, h.2]
  | _ => memGetList s.dsp.meter (4 * q) 4

/-- Start a new window under bank `b` (R214). -/
def meterOpen (s : State) (b : Nat) : State :=
  { s with conv := { s.conv with mBank := b, mFolded := 0, mAcc := [], mLost := !cpIsRunning s } }

/-- A snapshot found no buffer (R215). -/
def meterDrop (s : State) : State :=
  setFault (logEv (bump s R.METER_DROP_CNT) 0x0E66 0x2B sevWarning []) 14 3

/-- The snapshot of the window that ends at the current boundary (R214, R215). -/
def snapshotNow (s : State) (cut : Bool) : Snapshot :=
  let off := engineOff s
  let b := s.conv.mBank
  { flags := (if cut then 1 else 0) + (if s.conv.mGap then 2 else 0) + (if off then 4 else 0),
    at_ := s.sctr.toNat, hash := getR s (R.PLATE_HASH b), folded := s.conv.mFolded,
    points := if off then [] else (meterPoints s b).foldl (fun m q => memSetList m (4 * q) (meterWords s b q)) [] }

/-- A window ends at the current boundary, cut by a swap or not: its snapshot waits to be written, or is dropped where no buffer is
free; windows that end or began in a CP restart are lost (R214, R215). -/
def meterClose (s : State) (cut : Bool) (b : Nat) : State :=
  if !fnOn s 0x2B then { s with conv := { s.conv with mBank := b } }
  else
    let lost := s.conv.mLost || !cpIsRunning s
    let snap := snapshotNow s cut
    let s := { s with conv := { s.conv with mSeq := s.conv.mSeq + 1, mGap := s.conv.mGap || lost } }
    let s := if lost || !isF s F.METER_CFG_SNAP_EN then s
      else if bufPosted s 1 then { s with conv := { s.conv with snap := some snap } }
      else meterDrop s
    meterOpen s b

/-- The bytes of a snapshot record (R214). -/
def snapBytes (x : Snapshot) (seq : Nat) : List Byte :=
  le 4 seq ++ le 4 x.flags ++ le 8 x.at_ ++ le 4 x.hash.toNat ++ le 2 x.folded ++ List.replicate 42 0 ++
  (List.range 16384).flatMap (fun i => le 4 (memGet x.points i).toNat)

/-- The record of the window that ended is written, within 1 ms of its end (R214). -/
def execMeterWindowEnd (buf : Desc) (s : State) : Host.Outcome State Fault Refusal :=
  match s.conv.snap with
  | none => .next s
  | some x =>
    if !cpIsRunning s || decide (x.at_ + 96 < s.sctr.toNat) then .next s
    else
      let s := { s with conv := { s.conv with snap := none } }
      let (s, ok) := bufWrite s 1 buf (snapBytes x s.conv.mSeq)
      .next (if ok then { setR s R.METER_SEQ (BitVec.ofNat 32 s.conv.mSeq) with conv := { s.conv with mGap := false } } else meterDrop s)

/-- A snapshot whose 1 ms is over without a write is no longer held (log entry 48). -/
def meterOverdue (s : State) : State :=
  match s.conv.snap with
  | some x => if x.at_ + 96 < s.sctr.toNat then { s with conv := { s.conv with snap := none } } else s
  | none => s

/-- The enable check of function 0x2B. -/
def meterCheck (s : State) : Option (Nat × Nat) :=
  let n := getF s F.METER_CFG_BUFFERS
  if n < 2 ∨ 16 < n then some (0x0E2B, 0) else none

/-! ### Taps (R216 to R220) -/

/-- The enable check of function 0x2A. -/
def tapCheck (s : State) : Option (Nat × Nat) :=
  if 256 < getF s F.TAP_CFG_CAP_COUNT ∨ 256 < getF s F.TAP_CFG_PLAY_COUNT then some (0x0E2A, 0) else none

/-- Function 0x2A starts or stops: nothing is gathered or fetched. -/
def tapClear (s : State) : State :=
  { s with conv := { s.conv with capRows := [], capBlock := none, capGap := false, play := [], fetchDue := none } }

/-- The bytes of a capture block (R217). -/
def tapBytes (b seq n flags : Nat) (rows : List (List Word)) : List Byte :=
  le 8 b ++ le 4 seq ++ le 2 n ++ le 2 flags ++ List.replicate 16 0 ++ rows.flatMap (fun r => r.flatMap (fun w => le 4 w.toNat))

/-- A capture block found no buffer (R218). -/
def capDrop (s : State) : State :=
  let s := { s with conv := { s.conv with capBlock := none, capGap := true } }
  setFault (logEv (bump s R.TAP_CAPDROP_CNT) 0x0E65 0x2A sevWarning []) 14 2

/-- The taps take the sink values just read (R216, R218). -/
def tapCapture (s : State) : State :=
  if !fnOn s 0x2A then s
  else
    let n := getF s F.TAP_CFG_CAP_COUNT
    let rows := s.conv.capRows ++ [(List.range n).map (fun c => memGet s.dsp.sinkVals (4096 * 4 + c))]
    if s.sctr.toNat % 16 ≠ 0 then { s with conv := { s.conv with capRows := rows } }
    else
      let s := if s.conv.capBlock.isSome then capDrop s else s
      { s with conv := { s.conv with capRows := [], capSeq := if rows.length = 16 ∧ 0 < n then s.conv.capSeq + 1 else s.conv.capSeq,
                                     capBlock := if rows.length = 16 ∧ 0 < n then some (s.sctr.toNat - 16, rows) else none } }

def execTapCaptureBlock (buf : Desc) (s : State) : Host.Outcome State Fault Refusal :=
  match s.conv.capBlock with
  | none => .next s
  | some (b, rows) =>
    let data := tapBytes b s.conv.capSeq (getF s F.TAP_CFG_CAP_COUNT) (if s.conv.capGap then 1 else 0) rows
    let (t, ok) := bufWrite s 2 buf data
    .next (if ok then { t with conv := { t.conv with capBlock := none, capGap := false } } else capDrop t)

/-- An underrun: the playback channels play +0.0 for 16 sp (R219). -/
def tapUnderrun (s : State) : State :=
  setFault (logEv (bump s R.TAP_UNDERRUN_CNT) 0x0E63 0x2A sevWarning []) 14 1

/-- A late block is counted and logged (R219). -/
def tapLate (s : State) : State := logEv (bump s R.TAP_LATE_CNT) 0x0E64 0x2A sevWarning []

/-- The samples of a playback block, sp by sp (R217). -/
def playRows (n : Nat) (data : List Byte) : List (List Word) :=
  (List.range 16).map (fun i => (List.range n).map (fun c => BitVec.ofNat 32 (leAt data (32 + 4 * (i * n + c)) 4)))

/-- Fetch the playback block of sp `b` from the posted buffers (R219, R460). -/
def playFetch (s : State) (b : Nat) : List PlayBuf → State
  | [] => tapUnderrun s
  | x :: t =>
    if !bufPosted s 3 then tapUnderrun s
    else
      let n := getF s F.TAP_CFG_PLAY_COUNT
      if x.desc.len.toNat < 32 + 64 * n ∨ leAt x.data 12 2 ≠ n then playFetch (tapLate (bufShort s 3 x.desc)) b t
      else
        let at_ := leAt x.data 0 8
        if at_ < b then playFetch (tapLate (bufDone s 3 x.desc 0 4)) b t
        else if b < at_ then tapUnderrun s
        else if x.late then tapUnderrun (bufDone s 3 x.desc 0 4)
        else bufDone { s with conv := { s.conv with play := s.conv.play ++ [(b, playRows n x.data)] } } 3 x.desc 0 1

def execTapPlaybackFetch (bufs : List PlayBuf) (s : State) : Host.Outcome State Fault Refusal :=
  match s.conv.fetchDue with
  | some b => .next (playFetch { s with conv := { s.conv with fetchDue := none } } b bufs)
  | none => .next s

/-- Playback at a boundary: a fetch that was due and did not take place underruns, the next one becomes due, and the words of the
sp that begins are staged (R216, R219). -/
def tapPlayback (s : State) : State :=
  if !fnOn s 0x2A then s
  else
    let t := s.sctr.toNat
    let n := getF s F.TAP_CFG_PLAY_COUNT
    let s := if s.conv.fetchDue.isSome then tapUnderrun { s with conv := { s.conv with fetchDue := none } } else s
    let s := if t % 16 = 0 ∧ 0 < n then { s with conv := { s.conv with fetchDue := some (t + 32) } } else s
    let row := match s.conv.play.find? (fun p => decide (p.1 ≤ t) && decide (t < p.1 + 16)) with
      | some p => p.2.getD (t - p.1) []
      | none => []
    let words := (List.range 256).map (fun c => if c < n then row.getD c 0 else 0)
    { s with dsp := { s.dsp with staging := memSetList s.dsp.staging 0xB00 words },
             conv := { s.conv with play := s.conv.play.filter (fun p => decide (t < p.1 + 16)) } }

end Sys2Proof.Machine
end

