-- ==== Sys2Proof/Machine/Flags.lean ====
section
/-! DEFINITION. The sticky lane flags of a press (R88), its faults (R74, R75, R89, R90), and access to its lanes. -/

namespace Sys2Proof.Machine

def press (s : State) (p : Nat) : Press := s.dsp.presses.getD p Press.reset

def setPress (s : State) (p : Nat) (x : Press) : State :=
  { s with dsp := { s.dsp with presses := s.dsp.presses.setIfInBounds p x } }

def lane (s : State) (p j : Nat) : Lane := (press s p).lanes.getD j Lane.reset

def setLane (s : State) (p j : Nat) (l : Lane) : State :=
  setPress s p { press s p with lanes := (press s p).lanes.setIfInBounds j l }

/-- Note what a lane entry wrote or read in the slot that issues, for the check lanes (R73). -/
def note (s : State) (p : Nat) (w : Wr) : State := setPress s p { press s p with trace := w :: (press s p).trace }

/-- The compute lane that lane entry `j` stands for: itself, or for a check lane the lane it checks (R71). -/
def laneNo (s : State) (p j : Nat) : Nat :=
  if j < 32 then j else 2 * getF s (F.PRESS_STAT_CHECK_K p) + (j - 32)

/-- The flags of R88. -/
inductive LFlag where
  | nan
  | inf
  | ovf
  | tlost
  deriving DecidableEq, Repr

/-- Register, summary bit of `SFAULT_ENG`, event code and check-lane bit of a flag (R88, R91, R92). -/
def LFlag.reg (f : LFlag) (p : Nat) : Nat :=
  match f with
  | .nan => R.FLAG_NAN p
  | .inf => R.FLAG_INF p
  | .ovf => R.FLAG_OVF p
  | .tlost => R.FLAG_TLOST p

def LFlag.idx (f : LFlag) : Nat :=
  match f with
  | .nan => 0
  | .inf => 1
  | .ovf => 2
  | .tlost => 3

/-- Log an event of press `p` in issue slot `t` (R31, R95). -/
def pressEv (s : State) (t code sev : Nat) (args : List Byte) : State := logAt s (fracOf t) code 0x40 sev args

/-- Flag `f` of lane entry `j` sets: a change from 0 to 1 of a compute lane's flag is logged and summarised (R88). -/
def raiseFlag (s : State) (p t j : Nat) (f : LFlag) : State :=
  if j < 32 then
    if wbit (getR s (f.reg p)) j then s
    else
      let s := setR s (f.reg p) (wput (getR s (f.reg p)) j true)
      setFault (pressEv s t (0x06E3 + f.idx) sevWarning (le 1 p ++ le 1 j)) 6 (5 + f.idx)
  else
    let x := press s p
    setPress s p { x with checkFlags := x.checkFlags.setIfInBounds (j - 32) (x.checkFlags.getD (j - 32) 0 ||| (1 <<< f.idx)) }

/-- Set a flag of lane entry `j` if `on`, which the check lanes compare (R73, R88). -/
def setLaneFlag (s : State) (p t j : Nat) (f : LFlag) (on : Bool) : State :=
  if on then raiseFlag (note s p (.flag j f.idx)) p t j f else s

/-- A press becomes faulted (R89). -/
def pressFault (s : State) (p : Nat) : State :=
  setFault (setF s (F.PRESS_STAT_FAULTED p) 1) 6 p

/-- A check-lane difference in slot `t` (R74): the first one is captured and logged, every one is counted. -/
def checkMismatch (s : State) (p t c e : Nat) : State :=
  let s := bump s (R.MISM_CNT p)
  if isF s (F.PRESS_STAT_MISMATCH p) then s
  else
    let l := 2 * getF s (F.PRESS_STAT_CHECK_K p) + c
    let s := setF s (F.PRESS_STAT_MISMATCH p) 1
    let s := setR s (R.MISM_INFO p) (BitVec.ofNat 32 (l + c * 2 ^ 5 + e * 2 ^ 6 + t * 2 ^ 10 + 2 ^ 31))
    let s := setR s (R.MISM_SCTR p) (s.sctr.setWidth 32)
    pressEv (pressFault s p) t 0x06E0 sevSevere (le 1 p ++ le 1 l ++ le 1 e ++ le 2 t)

/-- A corrected single-bit error (R75), remembered for the health word (R404). -/
def eccCorrected (s : State) (frac : BitVec 16) (p mem l : Nat) : State :=
  let s := { s with rs := { s.rs with eccAt := s.sctr.toNat :: s.rs.eccAt } }
  logAt (bump s (R.ECC_CORR_CNT p)) frac 0x06E1 0x40 sevNotice (le 1 p ++ le 1 mem ++ le 1 l)

/-- An uncorrectable error (R75, R76): captured, logged, and the press is faulted. -/
def eccUncorrectable (s : State) (frac : BitVec 16) (p mem l addr : Nat) (scrub : Bool) : State :=
  let b := if scrub then 1 else 0
  let s := setF s (F.PRESS_STAT_ECC_UNC p) 1
  let s := setR s (R.ECC_UNC_INFO p) (BitVec.ofNat 32 (mem + l * 2 ^ 2 + b * 2 ^ 7 + addr * 2 ^ 8 + 2 ^ 31))
  let s := setFault (pressFault s p) 6 4
  logAt s frac 0x06E2 0x40 sevCritical (le 1 p ++ le 1 mem ++ le 1 l ++ le 2 addr ++ le 1 b)

/-! ### Memory codes (R75) -/

/-- Whether the word at place `k` of memory `m` is bad: in one bit (`some false`) or in two (`some true`). -/
def markOf (x : Press) (m k : Nat) : Option Bool := (x.marks.find? (fun e => e.1 == m && e.2.1 == k)).map (·.2.2)

/-- Fresh check bits for a word: a write, or a correction in place (R75). -/
def unmark (x : Press) (m k : Nat) : Press := { x with marks := x.marks.filter (fun e => !(e.1 == m && e.2.1 == k)) }

/-- The lane of a place of memory `m`, and its address as `ECC_UNC_INFO` gives it (R91). -/
def placeLane (m k : Nat) : Nat :=
  match m with
  | 0 => k / 32768
  | 1 => k % 65536 / 2048
  | _ => 0

def placeAddr (m k : Nat) : Nat :=
  match m with
  | 0 => k % 32768
  | 1 => k / 65536 * 2048 + k % 2048
  | _ => k

/-- The place of a word of memory `m`, the other way. -/
def placeOf (m l a : Nat) : Nat :=
  match m with
  | 0 => l * 32768 + a
  | 1 => a / 2048 * 65536 + l * 2048 + a % 2048
  | _ => a

/-- A read of a bad word, at fraction `f` of the sp: a single-bit error is corrected in place and counted, a two-bit error is
captured and faults the press (R75, R76). The correction waits for a free cycle of the write port, which the model takes to come at
once (log entry 40). -/
def eccCheck (s : State) (f : BitVec 16) (p m k : Nat) (scrub : Bool) : State :=
  match markOf (press s p) m k with
  | none => s
  | some false => eccCorrected (setPress s p (unmark (press s p) m k)) f p m (placeLane m k)
  | some true => eccUncorrectable s f p m (placeLane m k) (placeAddr m k) scrub

/-- A word goes bad: a second single-bit error in a word makes two wrong bits (R75). -/
def strikeWord (s : State) (p m k : Nat) (two : Bool) : State :=
  let x := press s p
  setPress s p { unmark x m k with marks := (m, k, two || (markOf x m k).isSome) :: (unmark x m k).marks }

end Sys2Proof.Machine
end

