-- ==== Sys2Proof/Machine/InstrWord.lean ====
section
/-! DEFINITION. The 64-bit instruction word of a press (R96 to R102): its fields, the word of an instruction, the instruction of a
word, and the slots that a program's repeat blocks take (R117). -/

namespace Sys2Proof.Machine

/-! ### Fields -/

/-- A field of an instruction word. -/
def ifld (w : BitVec 64) (hi lo : Nat) : Nat := w.toNat / 2 ^ lo % 2 ^ (hi + 1 - lo)

/-- The opcode of an instruction word (R96). -/
def opOf (w : BitVec 64) : Nat := ifld w 63 58

/-- The fields of [51:34] that the X operand's kind gives a meaning, by highest and lowest bit (R99). -/
def xBits (w : BitVec 64) : List (Nat × Nat) :=
  (51, 50) :: (match ifld w 51 50 with
    | 0 => [(37, 34)]
    | 1 => [(45, 34)]
    | _ => [(47, 34)])

/-- The fields of [33:22] that the C operand's kind gives a meaning (R99). -/
def cBits (w : BitVec 64) : List (Nat × Nat) := (33, 33) :: (if ifld w 33 33 = 0 then [(25, 22)] else [(32, 22)])

/-- The fields of [53:0] that the opcode gives a meaning; `none` for a reserved opcode (R97, R102). -/
def opBits (w : BitVec 64) : Option (List (Nat × Nat)) :=
  match opOf w with
  | 0x00 => some []
  | 0x01 => some [(53, 50), (31, 0)]
  | 0x02 => some [(53, 46)]
  | 0x03 => some [(53, 50)]
  | 0x04 => some [(53, 4)]
  | 0x05 => some [(53, 36)]
  | 0x06 => some [(53, 29)]
  | 0x07 => some [(53, 52), (31, 0)]
  | 0x08 => some [(53, 46)]
  | 0x09 => some [(53, 53)]
  | 0x0A => some [(53, 49)]
  | 0x0B => some [(15, 0)]
  | 0x0C => some []
  | 0x10 => some [(53, 42)]
  | 0x11 => some [(53, 42)]
  | 0x12 => some [(53, 42)]
  | 0x13 => some [(53, 38)]
  | 0x14 => some [(53, 46)]
  | 0x15 => some [(53, 46)]
  | 0x16 => some [(53, 42)]
  | 0x17 => some [(53, 42)]
  | 0x18 => some [(49, 42), (37, 33)]
  | 0x19 => some [(53, 42), (37, 36)]
  | 0x1A => some [(53, 46)]
  | 0x1B => some [(53, 46)]
  | 0x1C => some [(53, 46)]
  | 0x1D => some [(53, 46)]
  | 0x20 => some ([(53, 52)] ++ xBits w ++ cBits w)
  | 0x21 => some ([(53, 52)] ++ xBits w ++ cBits w)
  | 0x22 => some ([(53, 52)] ++ xBits w)
  | 0x23 => some [(53, 52)]
  | 0x24 => some [(53, 48)]
  | 0x25 => some [(53, 42)]
  | 0x28 => some ([(33, 6)] ++ xBits w)
  | 0x29 => some ([(33, 6)] ++ xBits w)
  | 0x2A => some [(53, 53)]
  | 0x30 => some [(53, 38)]
  | 0x31 => some [(53, 38)]
  | 0x32 => some [(53, 39)]
  | 0x33 => some [(53, 50), (13, 0)]
  | 0x34 => some [(53, 44), (13, 0)]
  | 0x35 => some [(53, 16)]
  | 0x36 => some [(53, 16)]
  | 0x37 => some [(53, 43), (13, 0)]
  | 0x3C => some [(53, 46)]
  | 0x3D => some [(53, 46)]
  | _ => none

/-- The part of [53:0] that the given fields hold. -/
def definedPart (w : BitVec 64) (l : List (Nat × Nat)) : Nat := (l.map (fun x => ifld w x.1 x.2 * 2 ^ x.2)).sum

/-- Whether the opcode is reserved, or a bit that its format gives no meaning is set (R97 to R99, R102). -/
def reservedSet (w : BitVec 64) : Bool :=
  match opBits w with
  | none => true
  | some l => definedPart w l != w.toNat % 2 ^ 54

/-! ### The word of an instruction -/

/-- A word from its opcode, its common fields, and its format fields: each the place of its lowest bit and its value (R96). -/
def word (op : Nat) (h : Issue) (l : List (Nat × Nat)) : BitVec 64 :=
  BitVec.ofNat 64 (op * 2 ^ 58 + (if h.pe then 2 ^ 57 else 0) + h.psel.val * 2 ^ 55 + (if h.pinv then 2 ^ 54 else 0) +
    (l.map (fun f => f.2 * 2 ^ f.1)).sum)

/-- SXK and payload of an X operand (R99). -/
def xFields : XOp → List (Nat × Nat)
  | .v r => [(34, r.val)]
  | .mem n disp pm => [(50, 1), (34, n.val), (37, disp.toNat), (45, pm.toNat)]
  | .ex a => [(50, 2), (34, a.toNat)]

/-- CK and payload of a C operand (R99). -/
def cFields : COp → List (Nat × Nat)
  | .v r => [(22, r.val)]
  | .coef m disp cpm => [(33, 1), (22, m.val), (24, disp.toNat), (32, cpm.toNat)]

def lopCode : LogOp → Nat
  | .and => 0
  | .or => 1
  | .xor => 2
  | .andNot => 3

def relCode : Rel → Nat
  | .eq => 0
  | .ne => 1
  | .lt => 2
  | .le => 3
  | .gt => 4
  | .ge => 5

/-- The word of a float instruction (R102). -/
def floatWord (op : Nat) (h : Issue) (d a b c : Fin 16) : BitVec 64 :=
  word op h [(50, d.val), (46, a.val), (42, b.val), (38, c.val)]

/-- The instruction word of a press instruction (R97, R102); `none` for any other command. -/
def encode : Instr → Option (BitVec 64)
  | .nop h => some (word 0x00 h [])
  | .vli h d imm => some (word 0x01 h [(50, d.val), (0, imm.toNat)])
  | .mov h d a => some (word 0x02 h [(50, d.val), (46, a.val)])
  | .laneid h d => some (word 0x03 h [(50, d.val)])
  | .pset h n base len ofs => some (word 0x04 h [(51, n.val), (36, base.toNat), (20, len.toNat), (4, ofs.toNat)])
  | .ppos h n value => some (word 0x05 h [(51, n.val), (36, value.toNat)])
  | .cset h n cptr cofs => some (word 0x06 h [(52, n.val), (41, cptr.toNat), (29, cofs.toNat)])
  | .mset h pd imm => some (word 0x07 h [(52, pd.val), (0, imm.toNat)])
  | .mlog h pd pa pb op => some (word 0x08 h [(52, pd.val), (50, pa.val), (48, pb.val), (46, lopCode op)])
  | .srinit h minimum => some (word 0x09 h [(53, minimum.toNat)])
  | .rds h d index => some (word 0x0A h [(50, d.val), (49, index.toNat)])
  | .rep h count => some (word 0x0B h [(0, count.toNat)])
  | .repEnd h => some (word 0x0C h [])
  | .fadd h d a b => some (floatWord 0x10 h d a b 0)
  | .fsub h d a b => some (floatWord 0x11 h d a b 0)
  | .fmul h d a b => some (floatWord 0x12 h d a b 0)
  | .fma h d a b c => some (floatWord 0x13 h d a b c)
  | .fabs h d a => some (floatWord 0x14 h d a 0 0)
  | .fneg h d a => some (floatWord 0x15 h d a 0 0)
  | .fmin h d a b => some (floatWord 0x16 h d a b 0)
  | .fmax h d a b => some (floatWord 0x17 h d a b 0)
  | .fcmp h pd a b rel => some (word 0x18 h [(46, a.val), (42, b.val), (36, pd.val), (33, relCode rel)])
  | .fsel h d a b pd => some (word 0x19 h [(50, d.val), (46, a.val), (42, b.val), (36, pd.val)])
  | .log2a h d a => some (floatWord 0x1A h d a 0 0)
  | .exp2a h d a => some (floatWord 0x1B h d a 0 0)
  | .rcpa h d a => some (floatWord 0x1C h d a 0 0)
  | .rsqa h d a => some (floatWord 0x1D h d a 0 0)
  | .mac h la x c => some (word 0x20 h ((52, la.val) :: xFields x ++ cFields c))
  | .xmac h la x m disp cpm => some (word 0x21 h ((52, la.val) :: xFields x ++ cFields (.coef m disp cpm)))
  | .aadd h la x => some (word 0x22 h ((52, la.val) :: xFields x))
  | .aclr h la => some (word 0x23 h [(52, la.val)])
  | .ard h d la => some (word 0x24 h [(50, d.val), (48, la.val)])
  | .ains h la seg a b => some (word 0x25 h [(52, la.val), (50, seg.val), (46, a.val), (42, b.val)])
  | .minx h x imm istep lstep => some (word 0x28 h (xFields x ++ [(18, imm.toNat), (12, istep.toNat), (6, lstep.toNat)]))
  | .maxx h x imm istep lstep => some (word 0x29 h (xFields x ++ [(18, imm.toNat), (12, istep.toNat), (6, lstep.toNat)]))
  | .xred h minimum => some (word 0x2A h [(53, minimum.toNat)])
  | .ld h d n disp pm => some (word 0x30 h [(50, d.val), (47, n.val), (39, disp.toNat), (38, pm.toNat)])
  | .st h a n disp pm => some (word 0x31 h [(50, a.val), (47, n.val), (39, disp.toNat), (38, pm.toNat)])
  | .ldc h d m disp cpm => some (word 0x32 h [(50, d.val), (48, m.val), (40, disp.toNat), (39, cpm.toNat)])
  | .ldx h d a => some (word 0x33 h [(50, d.val), (0, a.toNat)])
  | .stx h a vec lane xaddr => some (word 0x34 h [(50, a.val), (49, vec.toNat), (44, lane.val), (0, xaddr.toNat)])
  | .ldd h d t lg pk rs rb =>
    some (word 0x35 h [(50, d.val), (46, t.val), (44, lg.val), (43, pk.toNat), (38, rs.toNat), (16, rb.toNat)])
  | .std h a t lg pk rs rb =>
    some (word 0x36 h [(50, a.val), (46, t.val), (44, lg.val), (43, pk.toNat), (38, rs.toNat), (16, rb.toNat)])
  | .stm h a vec lane srch maddr =>
    some (word 0x37 h [(50, a.val), (49, vec.toNat), (44, lane.val), (43, srch.toNat), (0, maddr.toNat)])
  | .norm h d la seg => some (word 0x3C h [(50, d.val), (48, la.val), (46, seg.val)])
  | .expx h d a => some (floatWord 0x3D h d a 0 0)
  | _ => none

/-! ### The instruction of a word -/

/-- The fields of a word as registers, lanes, pointer sets and flags. -/
def f16 (w : BitVec 64) (hi lo : Nat) : Fin 16 := Fin.ofNat 16 (ifld w hi lo)
def f32 (w : BitVec 64) (hi lo : Nat) : Fin 32 := Fin.ofNat 32 (ifld w hi lo)
def f8 (w : BitVec 64) (hi lo : Nat) : Fin 8 := Fin.ofNat 8 (ifld w hi lo)
def f4 (w : BitVec 64) (hi lo : Nat) : Fin 4 := Fin.ofNat 4 (ifld w hi lo)
def fbit (w : BitVec 64) (b : Nat) : Bool := ifld w b b == 1
def fbv (n : Nat) (w : BitVec 64) (lo : Nat) : BitVec n := BitVec.ofNat n (w.toNat / 2 ^ lo)

/-- The X operand of a word; `none` for SXK 0b11 (R98, R99). -/
def xOf (w : BitVec 64) : Option XOp :=
  match ifld w 51 50 with
  | 0 => some (.v (f16 w 37 34))
  | 1 => some (.mem (f8 w 36 34) (fbv 8 w 37) (fbit w 45))
  | 2 => some (.ex (fbv 14 w 34))
  | _ => none

/-- The C operand of a word (R99). -/
def cOf (w : BitVec 64) : COp :=
  if fbit w 33 then .coef (f4 w 23 22) (fbv 8 w 24) (fbit w 32) else .v (f16 w 25 22)

/-- The relation of `FCMP`; `none` for a reserved code (R98, R102). -/
def relOf : Nat → Option Rel
  | 0 => some .eq
  | 1 => some .ne
  | 2 => some .lt
  | 3 => some .le
  | 4 => some .gt
  | 5 => some .ge
  | _ => none

def lopOf : Nat → LogOp
  | 0 => .and
  | 1 => .or
  | 2 => .xor
  | _ => .andNot

/-- The instruction that a word's opcode and format fields give (R97, R102). -/
def instrOf (h : Issue) (w : BitVec 64) : Option Instr :=
  let d := f16 w 53 50
  let a := f16 w 49 46
  let b := f16 w 45 42
  let la := f4 w 53 52
  match opOf w with
  | 0x00 => some (.nop h)
  | 0x01 => some (.vli h d (fbv 32 w 0))
  | 0x02 => some (.mov h d a)
  | 0x03 => some (.laneid h d)
  | 0x04 => some (.pset h (f8 w 53 51) (fbv 15 w 36) (fbv 16 w 20) (fbv 16 w 4))
  | 0x05 => some (.ppos h (f8 w 53 51) (fbv 15 w 36))
  | 0x06 => some (.cset h la (fbv 11 w 41) (fbv 12 w 29))
  | 0x07 => some (.mset h la (fbv 32 w 0))
  | 0x08 => some (.mlog h la (f4 w 51 50) (f4 w 49 48) (lopOf (ifld w 47 46)))
  | 0x09 => some (.srinit h (fbit w 53))
  | 0x0A => some (.rds h d (fbit w 49))
  | 0x0B => some (.rep h (fbv 16 w 0))
  | 0x0C => some (.repEnd h)
  | 0x10 => some (.fadd h d a b)
  | 0x11 => some (.fsub h d a b)
  | 0x12 => some (.fmul h d a b)
  | 0x13 => some (.fma h d a b (f16 w 41 38))
  | 0x14 => some (.fabs h d a)
  | 0x15 => some (.fneg h d a)
  | 0x16 => some (.fmin h d a b)
  | 0x17 => some (.fmax h d a b)
  | 0x18 => (relOf (ifld w 35 33)).map (fun r => .fcmp h (f4 w 37 36) a b r)
  | 0x19 => some (.fsel h d a b (f4 w 37 36))
  | 0x1A => some (.log2a h d a)
  | 0x1B => some (.exp2a h d a)
  | 0x1C => some (.rcpa h d a)
  | 0x1D => some (.rsqa h d a)
  | 0x20 => (xOf w).map (fun x => .mac h la x (cOf w))
  | 0x21 =>
    match xOf w, cOf w with
    | some x, .coef m disp cpm => some (.xmac h la x m disp cpm)
    | _, _ => none
  | 0x22 => (xOf w).map (fun x => .aadd h la x)
  | 0x23 => some (.aclr h la)
  | 0x24 => some (.ard h d (f4 w 49 48))
  | 0x25 => some (.ains h la (f4 w 51 50) a b)
  | 0x28 => (xOf w).map (fun x => .minx h x (fbv 16 w 18) (fbv 6 w 12) (fbv 6 w 6))
  | 0x29 => (xOf w).map (fun x => .maxx h x (fbv 16 w 18) (fbv 6 w 12) (fbv 6 w 6))
  | 0x2A => some (.xred h (fbit w 53))
  | 0x30 => some (.ld h d (f8 w 49 47) (fbv 8 w 39) (fbit w 38))
  | 0x31 => some (.st h d (f8 w 49 47) (fbv 8 w 39) (fbit w 38))
  | 0x32 => some (.ldc h d (f4 w 49 48) (fbv 8 w 40) (fbit w 39))
  | 0x33 => some (.ldx h d (fbv 14 w 0))
  | 0x34 => some (.stx h d (fbit w 49) (f32 w 48 44) (fbv 14 w 0))
  | 0x35 => some (.ldd h d a (f4 w 45 44) (fbit w 43) (fbv 5 w 38) (fbv 22 w 16))
  | 0x36 => some (.std h d a (f4 w 45 44) (fbit w 43) (fbv 5 w 38) (fbv 22 w 16))
  | 0x37 => some (.stm h d (fbit w 49) (f32 w 48 44) (fbit w 43) (fbv 14 w 0))
  | 0x3C => some (.norm h d (f4 w 49 48) (f4 w 47 46))
  | 0x3D => some (.expx h d a)
  | _ => none

/-- The instruction that press `p` issues for a word, struck by `u`; `none` for a reserved opcode or a reserved bit set (R96 to R99,
R102). -/
def decode (p : Fin 4) (u : List Upset) (w : BitVec 64) : Option Instr :=
  if reservedSet w then none else instrOf ⟨p, fbit w 57, f4 w 56 55, fbit w 54, u⟩ w

/-! ### Repeat blocks (R117) -/

/-- The expanded slot count (R117, R130): `acc` counts the block's body so far, `open_` holds each open block's COUNT and the
count before it. -/
def expanded : List (BitVec 64) → Nat → List (Nat × Nat) → Nat
  | [], acc, _ => acc
  | w :: t, acc, open_ =>
    if opOf w = 0x0B then expanded t 0 ((ifld w 15 0, acc) :: open_)
    else if opOf w = 0x0C then
      match open_ with
      | [] => expanded t (acc + 1) []
      | (n, before) :: rest => expanded t (before + 2 + n * acc) rest
    else expanded t (acc + 1) open_

/-- After a `REP`: its body up to the matching `END`, and what follows that `END`; `d` blocks are open inside the body. -/
def splitBlock : List (BitVec 64) → Nat → List (BitVec 64) × List (BitVec 64)
  | [], _ => ([], [])
  | w :: t, d =>
    if opOf w = 0x0C then
      match d with
      | 0 => ([], t)
      | n + 1 => let r := splitBlock t n; (w :: r.1, r.2)
    else
      let r := splitBlock t (if opOf w = 0x0B then d + 1 else d)
      (w :: r.1, r.2)

/-- Where a program stands: an instruction by its place in the list that `wordAt` is given, its word, and the iteration number of
the innermost repeat block, 0 outside any block. -/
structure Place where
  at_ : Nat
  word : BitVec 64
  iter : Nat
  deriving DecidableEq, Repr

/-- What a program issues in its expanded slot `k`: `REP` and `END` once each, the body COUNT times between them (R117), and `NOP`
past its end (R130). `i` is the place of the list's head, `it` the iteration number outside the list's own blocks. -/
def wordAt : Nat → List (BitVec 64) → Nat → Nat → Nat → Place
  | 0, _, i, _, _ => ⟨i, 0, 0⟩
  | _ + 1, [], i, _, _ => ⟨i, 0, 0⟩
  | n + 1, w :: t, i, k, it =>
    if opOf w = 0x0B then
      let r := splitBlock t 0
      let b := expanded r.1 0 []
      let c := ifld w 15 0
      if k = 0 then ⟨i, w, it⟩
      else if k ≤ c * b then wordAt n r.1 (i + 1) ((k - 1) % b) ((k - 1) / b)
      else if k = c * b + 1 then ⟨i + 1 + r.1.length, t.getD r.1.length 0, it⟩
      else wordAt n r.2 (i + 2 + r.1.length) (k - (c * b + 2)) it
    else if k = 0 then ⟨i, w, it⟩
    else wordAt n t (i + 1) (k - 1) it

/-- The same with fuel for every instruction of the list. -/
def programAt (l : List (BitVec 64)) (k : Nat) : Place := wordAt (l.length + 1) l 0 k 0

end Sys2Proof.Machine
end

