-- ==== Sys2Proof/Machine/Sequencer.lean ====
section
/-! DEFINITION. What a press issues in each slot (R68, R120, R129 to R131, R385, R386): its image, a restrike routine, its
maintenance ROM, or `NOP`. -/

namespace Sys2Proof.Machine

/-! ### Banks (R153) -/

/-- A field of `ENG_BANK_STAT` gives the state of bank `b` (R153). -/
def bankField (b : Nat) : Fld := if b = 0 then F.ENG_BANK_STAT_STATE_A else F.ENG_BANK_STAT_STATE_B

/-- Bank states (R153). -/
def bkEmpty : Nat := 0
def bkLoading : Nat := 1
def bkLoaded : Nat := 2
def bkArming : Nat := 3
def bkArmed : Nat := 4
def bkRunning : Nat := 5
def bkEntering : Nat := 6
def bkLeaving : Nat := 7

def bankState (s : State) (b : Nat) : Nat := getF s (bankField b)
def setBankState (s : State) (b st : Nat) : State := setF s (bankField b) st

def bankRec (s : State) (b : Nat) : Bank := s.eng.banks.getD b Bank.reset

/-- The instruction COUNT of an area. -/
def areaCount (x : Bank) (p a : Nat) : Nat := x.counts.getD (3 * p + a) 0

/-- The instructions of area `a` of press `p` in bank `b` (R122). -/
def areaWords (s : State) (b p a : Nat) : List (BitVec 64) :=
  (List.range (areaCount (bankRec s b) p a)).map (fun i => memGet (press s p).prog (b * 24576 + a * 8192 + i))

/-! ### Programs -/

/-- Whether press `p` runs BIST or a self-test (R401, R403). -/
def pressTested (s : State) (p : Nat) : Bool :=
  getF s F.SELFTEST_STAT_BIST_RUN / 2 ^ p % 2 == 1 || s.rs.testing.map (·.1) == some p

/-- Whether press `p` runs the start-up calibration program (R536): press 0, from the start of the firmware until the boot ends (log
entry 41). -/
def pressCalibrates (s : State) (p : Nat) : Bool :=
  p == 0 && modelA s && getF s F.NODE_STAT_STATE == 1 && decide (4 ≤ getF s F.BOOT_STAT_PHASE)

/-- The maintenance program that press `p` runs in place of its image, and the sp since it began (R120, R401, R403, R536). -/
def romOf (s : State) (p : Nat) : Option (Nat × Nat) :=
  match s.rs.testing with
  | some (q, t) => if q = p then some (0, s.sctr.toNat - t) else none
  | none =>
    match s.rs.bist.find? (fun x => x.1 == p) with
    | some x => some (0, s.sctr.toNat - x.2)
    | none => if pressCalibrates s p then some (1, s.sctr.toNat) else none

/-- The image that press `p` issues in this sp: bank, and area 0 steady or 1 transition; `none` before the start boundary, after the
stop, and outside PRESS_MASK (R130, R161, R162, R171). -/
def imageOf (s : State) (p : Nat) : Option (Nat × Nat) :=
  let b := s.dsp.issueBank
  if (bankRec s b).pressMask / 2 ^ p % 2 = 1 then s.dsp.issueArea.map (fun a => (b, a)) else none

/-- What a press issues in a slot: its place in program memory if it comes from there, its word, and the iteration number of the
innermost repeat block. -/
structure Fetched where
  key : Option Nat
  word : BitVec 64
  iter : Nat
  deriving DecidableEq, Repr

/-- `NOP` (R130). -/
def Fetched.nop : Fetched := ⟨none, 0, 0⟩

/-- Expanded slot `k` of what begins at instruction `from_` of an area (R117, R130). -/
def fetchAt (s : State) (b p a from_ k : Nat) : Fetched :=
  let l := areaWords s b p a
  let x := programAt (l.drop from_) k
  if from_ + x.at_ < l.length then ⟨some (b * 24576 + a * 8192 + from_ + x.at_), x.word, x.iter⟩ else Fetched.nop

/-- The copy routine and slot that offset `o` of a copy window holds (R385). -/
def copySlot (o : Nat) : List (Nat × Nat) → Option (Nat × Nat)
  | [] => none
  | x :: t => if o < x.2 then some (x.1, o) else copySlot (o - x.2) t

/-- The slots of the load part of a replay, and of one pass. -/
def Replay.load (r : Replay) : Nat := (r.parts.map (·.load)).sum
def Replay.pass (r : Replay) : Nat := (r.parts.map (·.pass)).sum

/-- The group and its slot that offset `o` of the load parts holds (R386). -/
def loadSlot (o : Nat) : List ReplayPart → Option (ReplayPart × Nat)
  | [] => none
  | x :: t => if o < x.load then some (x, o) else loadSlot (o - x.load) t

/-- The group and its slot, after its load part, that offset `o` of a pass holds (R386). -/
def passSlot (o : Nat) : List ReplayPart → Option (ReplayPart × Nat)
  | [] => none
  | x :: t => if o < x.pass then some (x, x.load + o) else passSlot (o - x.pass) t

/-- The group whose routine issues at offset `o` of the replay window, and its slot: the load parts, then D passes (R386). -/
def Replay.slot (r : Replay) (o : Nat) : Option (ReplayPart × Nat) :=
  if o < r.load then loadSlot o r.parts
  else if o - r.load < r.d * r.pass then passSlot ((o - r.load) % r.pass) r.parts
  else none

/-- The routine of a copy or replay window of bank `b`, or `NOP` (R131, R385, R386). -/
def fetchRoutine (s : State) (b p t : Nat) : Fetched :=
  if t < 144 then
    match s.rs.copying with
    | some (q, l) =>
      match copySlot (t - 128) l with
      | some (a, k) => if q = p then fetchAt s b p 2 a k else Fetched.nop
      | none => Fetched.nop
    | none => Fetched.nop
  else
    match s.rs.replay with
    | some r =>
      match r.slot (t - 144) with
      | some (x, k) => if r.press = p then fetchAt s b p 2 x.at_ k else Fetched.nop
      | none => Fetched.nop
    | none => Fetched.nop

/-- What press `p` issues in its current slot (R129 to R131). -/
def fetch (s : State) (p : Nat) : Fetched :=
  let t := (press s p).slot
  match romOf s p with
  | some (k, n) => ⟨none, Config.romWord k n t, Config.romIter k n t⟩
  | none =>
    match imageOf s p with
    | none => Fetched.nop
    | some (b, a) =>
      if (bankRec s b).pair then (if t < 464 then fetchRoutine s b p t else fetchAt s b p a 0 (t - 464))
      else fetchAt s b p a 0 (t - 128)

/-- Whether press `p` is powered (R533). -/
def pressPowered (s : State) (p : Nat) : Bool := !isF s (F.PRESS_STAT_GATED p) || pressCalibrates s p

/-- Whether press `p` issues word `w` next: it is powered, an issue slot is left in this sp, and `w` is what it fetches (R14, R68,
R130). -/
def canIssue (s : State) (p : Nat) (w : BitVec 64) : Bool :=
  pressPowered s p && decide (128 ≤ (press s p).slot) && decide ((press s p).slot < 10240) && (fetch s p).word == w

/-! ### The windows of a restrike (R385 to R387) -/

/-- Whether press `p`, in its current slot, is in the copy or the replay window of a unit (R385). -/
def inWindow (s : State) (p : Nat) : Bool :=
  let t := (press s p).slot
  (s.rs.copying.map (·.1) == some p && decide (128 ≤ t) && decide (t < 144)) ||
  (match s.rs.replay with
   | some r => r.press == p && decide (144 ≤ t) && decide (t < 464)
   | none => false)

/-- In the pass part of a replay: the sp that the pass computes, and the INPUTS of its group (R386, R387). -/
def passOf (s : State) (p : Nat) : Option (Nat × List Nat) :=
  match s.rs.replay with
  | none => none
  | some r =>
    let o := (press s p).slot - 144
    if inWindow s p ∧ r.press = p ∧ r.load ≤ o then
      (r.slot o).map (fun x => (r.n + (o - r.load) / r.pass, x.1.inputs))
    else none

end Sys2Proof.Machine
end

