-- ==== Sys2Proof/Machine/TwoWire.lean ====
section
/-! DEFINITION. The two-wire controllers and the two-wire target (chapter 17). -/

namespace Sys2Proof.Machine

/-- The function of controller `k`. -/
def twFn (k : Nat) : Nat := 0x58 + k

/-- Controller `k` beside its registers. -/
def twc (s : State) (k : Nat) : Twc := s.tw.twc.getD k ⟨[], none, [], [], 0, 0, false⟩
def setTwc (s : State) (k : Nat) (x : Twc) : State := { s with tw := { s.tw with twc := s.tw.twc.setIfInBounds k x } }

def twStuck (s : State) (k : Nat) : Bool := isF s (F.TWC_STAT_SDA_STUCK k)
def twBusy (s : State) (k : Nat) : Bool := isF s (F.TWC_STAT_BUS_BUSY k)

/-- Set the queue of controller `k`; `TWC_STAT.QUEUE` shows its length, at most 31 (R519). -/
def setTwQueue (s : State) (k : Nat) (q : List TwXfer) : State :=
  setF (setTwc s k { twc s k with queue := q }) (F.TWC_STAT_QUEUE k) (min 31 q.length)

/-! ### Checks at enable (R502, R509, R518) -/

/-- The enable check of a controller: code and field. -/
def twCheck (s : State) (f : Nat) : Option (Nat × Nat) :=
  let bad (v : Nat) := decide (v < 1 ∨ 100 < v)
  if getF s (F.TWC_CFG_SPEED f) = 3 then some (0x0A20, 0)
  else if getF s (F.TWC_CFG_SPEED f) = 2 ∧ getF s (F.TWC_CFG_FALL f) = 3 then some (0x0A23, 0)
  else if getF s (F.TWC_CFG_ATTN f) = 3 then some (0x0A21, 0)
  else if bad (getF s (F.TWC_TIMEOUT_SCL_TO f)) || bad (getF s (F.TWC_TIMEOUT_SDA_TO f)) then some (0x0A22, 4)
  else none

/-! ### Transfers (R504, R505) -/

/-- One bit step of the SMBus packet error code. -/
def pecBit (r : Byte) : Byte := if r.getLsbD 7 then (r <<< 1) ^^^ 0x07 else r <<< 1

/-- The packet error code of a byte list (R504): CRC-8, polynomial 0x07, initial value 0, not reflected. -/
def pecOf (p : List Byte) : Byte :=
  p.foldl (fun r b => pecBit (pecBit (pecBit (pecBit (pecBit (pecBit (pecBit (pecBit (r ^^^ b))))))))) 0

def twWriteAddr (x : TwXfer) : Byte := BitVec.ofNat 8 (2 * x.addr)
def twReadAddr (x : TwXfer) : Byte := BitVec.ofNat 8 (2 * x.addr + 1)

/-- Whether a transfer writes: it has write bytes, or nothing to read (R504). -/
def twWrites (x : TwXfer) : Bool := !x.wr.isEmpty || x.rd == 0

/-- The bytes a transfer writes: the address and the data, and a PEC where nothing is read (R504). -/
def twWritten (x : TwXfer) : List Byte :=
  let b := if twWrites x then twWriteAddr x :: x.wr else []
  if x.pec && x.rd == 0 then b ++ [pecOf b] else b

/-- The address byte of its read, if it reads. -/
def twReads (x : TwXfer) : List Byte := if x.rd = 0 then [] else [twReadAddr x]

/-- The bytes the controller sends: addresses and write bytes, and a write's PEC (R504). -/
def twSent (x : TwXfer) : List Byte := twWritten x ++ twReads x

/-- The bytes the controller takes: the read bytes, and their PEC (R504). -/
def twTaken (x : TwXfer) : Nat := if x.rd = 0 then 0 else x.rd + (if x.pec then 1 else 0)

/-- The PEC a read must carry (R504). -/
def twPec (x : TwXfer) (rd : List Byte) : Byte := pecOf (twSent x ++ rd)

/-- The result of an AVS transfer (R530, R532): an acknowledged VOUT_COMMAND is the commanded value; a failed one is repeated
once after 1 ms, and its second failure stops AVS. -/
def avsEnd (s : State) (x : TwXfer) (res : Nat) : State :=
  if x.pm < 2 then s
  else if res = 0 then
    bump { setF s F.PM_VCORE_CMD_MV x.mv with
      pm := { s.pm with avsRetry := none, oldMv := getF s F.PM_VCORE_CMD_MV, ackAt := some s.sctr.toNat } } R.AVS_WRITES
  else if x.pm = 2 ∧ res ≠ 8 then { s with pm := { s.pm with avsRetry := some (x.mv, s.sctr.toNat + 96) } }
  else if res ≠ 8 then
    let s := putF { s with pm := { s.pm with avsFailed := true, avsRetry := none } } F.PM_VCORE_AVS_ON false
    setFault (logEv (bump s R.AVS_FAIL_CNT) 0x0B68 0x60 sevError (le 1 res)) 11 4
  else s

/-- A transfer ends with result `res` after `acked` acknowledged bytes (R505, R521). -/
def twFinish (s : State) (k : Nat) (x : TwXfer) (res acked : Nat) (rd : List Byte) : State :=
  let s := setF s (F.TWC_STAT_LAST_RESULT k) res
  let s := if res = 1 ∨ res = 2 then bump s (R.TWC_NACK_CNT k) else s
  let s := avsEnd s x res
  answer s x.ch (.ok (le 1 res ++ le 1 acked ++ le 1 (getF s (F.TWC_STAT_ARB_BYTE k)) ++ le 1 (getF s (F.TWC_STAT_ARB_BIT k)) ++
    le 1 x.attempts ++ le 3 0 ++ rd))

/-- Every transfer that waits ends with result `res` (R505, R508). -/
def twDrain (s : State) (k res : Nat) : State :=
  (twc s k).queue.foldl (fun s x => twFinish s k x res 0 []) (setTwQueue s k [])

/-- No transfer runs any more; the bus is free after the controller's STOP (R503). -/
def twIdle (s : State) (k : Nat) (free : Bool) : State :=
  let s := putF (setTwc s k { twc s k with cur := none }) (F.TWC_STAT_XFER k) false
  if free then putF s (F.TWC_STAT_BUS_BUSY k) false else s

/-! ### Bus clear (R508) -/

/-- Nine pulses at most; SDA is high after `freed` + 1 of them, or never (R508). -/
def busClearRun (s : State) (k : Nat) (freed : Option (Fin 9)) : State :=
  match freed with
  | some n =>
    let s := bump s (R.TWC_CLEAR_CNT k)
    let s := logEv s 0x0A62 (twFn k) sevNotice (le 1 (n.val + 1))
    let s := putF (putF s (F.TWC_STAT_SDA_STUCK k) false) (F.TWC_STAT_SDA_LOW k) false
    putF s (F.TWC_STAT_BUS_BUSY k) false
  | none =>
    let s := setFault s 10 (2 + k)
    let s := putF (putF s (F.TWC_STAT_SDA_STUCK k) true) (F.TWC_STAT_SDA_LOW k) true
    twDrain (logEv s 0x0A61 (twFn k) sevError []) k 6

/-- The response of `BUS_CLEAR` (R521). -/
def clearReply (freed : Option (Fin 9)) : Reply :=
  match freed with
  | some n => .ok (le 1 (n.val + 1) ++ le 1 0)
  | none => .ok (le 1 9 ++ le 1 1)

/-- A bus clear that runs by itself: not while SDA is known to be stuck (R508). -/
def autoClear (s : State) (k : Nat) (freed : Option (Fin 9)) : State := if twStuck s k then s else busClearRun s k freed

/-- The bus clears that waited for a running transfer (R521). -/
def waitingClears (s : State) (k : Nat) (freed : Option (Fin 9)) : State :=
  let cs := (twc s k).clears
  if cs.isEmpty then s
  else
    let s := busClearRun (setTwc s k { twc s k with clears := [] }) k freed
    cs.foldl (fun s c => answer s (some c) (clearReply freed)) s

/-! ### Start and stop of the functions (R423, R503, R507) -/

/-- Function 0x58 + k starts: the bus is busy until it has been seen free, and a low SDA starts a bus clear (R503, R508).
`sda` is `none` with SDA high, else what the bus clear finds. -/
def twStart (s : State) (k : Nat) (sda : Option Byte) : State :=
  let s := setTwc s k { twc s k with queue := [], cur := none, clears := [], fifo := [], miss := 0, off := false }
  let s := setR s (R.TWC_ATTN k) 0
  let s := setF (putF s (F.TWC_STAT_BUS_BUSY k) true) (F.TWC_STAT_QUEUE k) 0
  match sda with
  | none => s
  | some n => autoClear s k (if h : n.toNat < 9 then some ⟨n.toNat, h⟩ else none)

/-- Function 0x58 + k is disabled: what has not begun ends with ABORTED (R505). -/
def twStop (s : State) (k : Nat) : State :=
  let s := twDrain s k 8
  let cs := (twc s k).clears
  cs.foldl (fun s c => answer s (some c) (.refused 0x0A24 0)) (setTwc s k { twc s k with clears := [] })

/-- A CP restart answers what has not begun; those transfers and clears are gone (R412, R506). -/
def twRestart (s : State) : State :=
  [0, 1].foldl (fun s k =>
    let s := setTwQueue s k ((twc s k).queue.filter (fun x => decide (0 < x.attempts)))
    setTwc s k { twc s k with clears := [] }) s

/-! ### Commands (R521) -/

/-- Whether an address of controller `k` is reserved for the CP (R514, R515). -/
def twReserved (s : State) (k a : Nat) : Bool :=
  wbit (getR s (R.TWC_CP_ADDR (twFn k) (a / 32))) (a % 32) ||
  (k == 1 && fnOn s 0x60 && isF s F.PM_CFG_AVS_EN && getF s F.PM_CFG_AVS_ADDR == a)

/-- Whether the fields of a `TW_XFER` are out of range (R521). -/
def twBadFormat (p : List Byte) : Bool :=
  let a := leAt p 1 1
  let w := leAt p 3 1
  let r := leAt p 4 1
  decide (1 < leAt p 0 1) || decide (a < 0x08) || decide (0x77 < a) || decide (3 < leAt p 2 1) || decide (32 < w) ||
    decide (32 < r) || (w == 0 && r == 0) || leAt p 5 3 != 0

/-- The transfer a `TW_XFER` names. -/
def twRequest (s : State) (q : Req) : TwXfer where
  addr := leAt q.payload 1 1
  pec := leAt q.payload 2 1 % 2 == 1
  rstart := leAt q.payload 2 1 / 2 % 2 == 1
  wr := (q.payload.drop 8).take (leAt q.payload 3 1)
  rd := leAt q.payload 4 1
  attempts := 0
  at_ := s.sctr.toNat
  ch := some q.ch
  pm := 0
  mv := 0

def execTwXfer (c : Fin 8) (s : State) : Host.Outcome State Fault Refusal :=
  let w := leAt (reqOf s c.val).payload 3 1
  .next (serve s c.val 0x0A01 (fun n => n == 8 + w || (decide (32 < w) && decide (8 ≤ n))) false (fun s q =>
    let k := leAt q.payload 0 1
    if twBadFormat q.payload then (s, .refused 0x0A25 0)
    else if !fnOn s (twFn k) then (s, .refused 0x0A24 0)
    else if twReserved s k (leAt q.payload 1 1) then (s, .refused 0x0A26 (leAt q.payload 1 1))
    else if twStuck s k then (twFinish s k (twRequest s q) 6 0 [], .later)
    else (setTwQueue s k ((twc s k).queue ++ [twRequest s q]), .later)))

def execBusClear (c : Fin 8) (freed : Option (Fin 9)) (s : State) : Host.Outcome State Fault Refusal :=
  .next (serve s c.val 0x0A02 (· == 1) false (fun s q =>
    let k := leAt q.payload 0 1
    if 1 < k then (s, .refused 0x0A25 0)
    else if !fnOn s (twFn k) then (s, .refused 0x0A24 0)
    else if (twc s k).cur.isSome then (setTwc s k { twc s k with clears := (twc s k).clears ++ [q.ch] }, .later)
    else (busClearRun s k freed, clearReply freed)))

/-! ### The bus (R503, R505, R507, R512, R513) -/

/-- Whether controller `k` may start the head of its queue: on a free bus, and a new one only while the CP runs (R503, R506). -/
def twMayStart (s : State) (k : Nat) : Bool :=
  fnOn s (twFn k) && !twBusy s k && !twStuck s k && (twc s k).cur.isNone && (twc s k).clears.isEmpty &&
    match (twc s k).queue with
    | [] => false
    | x :: _ => cpIsRunning s || decide (0 < x.attempts)

/-- The head of the queue starts: its command commits and its bytes are driven (R504, R506). -/
def twBegin (s : State) (k : Nat) (x : TwXfer) : State :=
  let s := match x.ch with
    | some c => commit s c
    | none => s
  let s := if x.attempts = 0 then bump s (R.TWC_XFER_CNT k) else s
  let s := setTwc s k { twc s k with cur := some { x with attempts := x.attempts + 1 } }
  let s := putF (putF s (F.TWC_STAT_BUS_BUSY k) true) (F.TWC_STAT_XFER k) true
  emit s (.twoWire k (twWritten x) x.rstart (twReads x) (twTaken x))

def execTwTransferStart (k : Fin 2) (s : State) : Host.Outcome State Fault Refusal :=
  if twMayStart s k.val then
    match (twc s k.val).queue with
    | [] => .next s
    | x :: q => .next (twBegin (setTwQueue s k.val q) k.val x)
  else .next s

/-- A transfer that starts again goes to the head of the queue, but behind the power manager's (R504, R512). -/
def requeue (x : TwXfer) (q : List TwXfer) : List TwXfer :=
  if 0 < x.pm then x :: q else q.takeWhile (fun y => decide (0 < y.pm)) ++ x :: q.dropWhile (fun y => decide (0 < y.pm))

/-- Arbitration lost in bit `bit` of byte `byte` (R512): recorded and logged, then retried or ended. -/
def twArbLost (s : State) (k : Nat) (x : TwXfer) (byte bit : Nat) : State :=
  let f := twFn k
  let s := setF (setF s (F.TWC_STAT_ARB_BYTE k) byte) (F.TWC_STAT_ARB_BIT k) bit
  let s := logEv (bump s (R.TWC_ARB_CNT k)) 0x0A63 f sevNotice (le 1 byte ++ le 1 bit ++ le 1 x.addr)
  let s := twIdle s k false
  if isF s (F.TWC_CFG_MULTI f) && decide (x.attempts ≤ getF s (F.TWC_CFG_RETRY f)) && fnOn s f then
    setTwQueue s k (requeue { x with at_ := s.sctr.toNat } (twc s k).queue)
  else twFinish (setFault s 10 (4 + k)) k x 3 byte []

/-- Arbitration lost during a STOP or repeated START (R513). -/
def twArbCond (s : State) (k : Nat) (x : TwXfer) (byte : Nat) : State :=
  let s := setF (setF s (F.TWC_STAT_ARB_BYTE k) byte) (F.TWC_STAT_ARB_BIT k) 15
  let s := logEv (bump s (R.TWC_ARB_CNT k)) 0x0A64 (twFn k) sevWarning (le 1 byte ++ le 1 x.addr)
  twFinish (setFault (twIdle s k false) 10 (4 + k)) k x 4 byte []

/-- The running transfer `x` ends with OK on the bus; a read's PEC is compared (R504, R505). -/
def twOk (s : State) (k : Nat) (x : TwXfer) (rd : List Byte) (pec : Byte) : State :=
  let s := twIdle s k true
  let n := (twSent x).length
  if x.pec && x.rd != 0 && pec != twPec x rd then
    twFinish (setFault (logEv s 0x0A67 (twFn k) sevWarning (le 1 x.addr)) 10 (8 + k)) k x 7 n rd
  else twFinish s k x 0 n rd

/-- The end `e` of the running transfer `x`. -/
def twEnd (s : State) (k : Nat) (x : TwXfer) (e : TwEnd) : State :=
  match e with
  | .ok rd pec => if rd.length = x.rd then twOk s k x rd pec else s
  | .nackAddr second => twFinish (twIdle s k true) k x 1 (if second && twWrites x then 1 + x.wr.length else 0) []
  | .nackData n => twFinish (twIdle s k true) k x 2 (1 + n.val) []
  | .arbLost byte bit => twArbLost s k x byte.val bit.val
  | .arbCond byte => twArbCond s k x byte.val
  | .notFree => s

def execTwTransferEnd (k : Fin 2) (e : TwEnd) (s : State) : Host.Outcome State Fault Refusal :=
  match (twc s k.val).cur with
  | some x => .next (twEnd s k.val x e)
  | none =>
    match (twc s k.val).queue with
    | [] => .next s
    | x :: q =>
      if e = .notFree ∧ twBusy s k.val ∧ x.at_ + 9600 ≤ s.sctr.toNat then
        .next (twFinish (setTwQueue s k.val q) k.val x 6 0 [])
      else .next s

def execSclLowTimeout (k : Fin 2) (acked : Fin 68) (freed : Option (Fin 9)) (s : State) : Host.Outcome State Fault Refusal :=
  if fnOn s (twFn k.val) then
    let s := bump s (R.TWC_TIMEOUT_CNT k.val)
    let s := logEv (setFault s 10 k.val) 0x0A60 (twFn k.val) sevError []
    let s := match (twc s k.val).cur with
      | some x => twFinish (twIdle s k.val false) k.val x 5 acked.val []
      | none => s
    .next (autoClear s k.val freed)
  else .next s

def execSdaLowTimeout (k : Fin 2) (freed : Option (Fin 9)) (s : State) : Host.Outcome State Fault Refusal :=
  if fnOn s (twFn k.val) && getF s (F.TWC_CFG_ATTN (twFn k.val)) != 2 && (twc s k.val).cur.isNone then
    .next (autoClear s k.val freed)
  else .next s

def execTwBusFree (k : Fin 2) (freed : Option (Fin 9)) (s : State) : Host.Outcome State Fault Refusal :=
  if fnOn s (twFn k.val) && (twc s k.val).cur.isNone then
    let s := putF (putF s (F.TWC_STAT_BUS_BUSY k.val) false) (F.TWC_STAT_SDA_STUCK k.val) false
    let s := putF (putF s (F.TWC_STAT_SCL_LOW k.val) false) (F.TWC_STAT_SDA_LOW k.val) false
    .next (waitingClears s k.val freed)
  else .next s

def execTwBusBusy (k : Fin 2) (s : State) : Host.Outcome State Fault Refusal :=
  if fnOn s (twFn k.val) then .next (putF s (F.TWC_STAT_BUS_BUSY k.val) true) else .next s

/-! ### Attention (R509 to R511) -/

/-- An attention of address `a` has been served: into the FIFO of 8, or counted, logged and discarded (R511). -/
def twAttention (s : State) (k a : Nat) (inband : Bool) : State :=
  let x := twc s k
  let full := decide (8 ≤ x.fifo.length)
  let s := if full then s else setTwc s k { x with fifo := x.fifo ++ [a] }
  let s := bump s (R.TWC_ATTN_CNT k)
  let s := setF (putF (setF s (F.TWC_ATTN_ADDR k) a) (F.TWC_ATTN_INBAND k) inband) (F.TWC_ATTN_FIFO k) (twc s k).fifo.length
  let s := putF s (F.TWC_ATTN_VALID k) true
  logEv s 0x0A65 (twFn k) sevInfo (le 1 a ++ le 1 (if inband then 1 else 0) ++ le 1 (if full then 1 else 0))

/-- The CP empties the attention FIFOs (R511). -/
def twTakeAttentions (s : State) : State :=
  if cpIsRunning s then
    [0, 1].foldl (fun s k =>
      if (twc s k).fifo.isEmpty then s else setF (setTwc s k { twc s k with fifo := [] }) (F.TWC_ATTN_FIFO k) 0) s
  else s

/-- Whether controller `k` may serve attention of mode `m` now: enabled, on a free bus, with no transfer and none of the power manager's
waiting (R504, R510, R511). -/
def twMayServe (s : State) (k m : Nat) : Bool :=
  fnOn s (twFn k) && (twc s k).queue.all (·.pm == 0) && getF s (F.TWC_CFG_ATTN (twFn k)) == m && !twBusy s k && !twStuck s k && (twc s k).cur.isNone

/-- One read of the alert response address; after 8 without an answer the reading stops (R510). -/
def alertRead (s : State) (k : Nat) (fresh : Bool) (answer : Option Byte) : State :=
  let x := twc s k
  let x := if fresh then { x with miss := 0, off := false } else x
  let s := putF (setTwc s k { x with readAt := s.sctr.toNat }) (F.TWC_STAT_ALERT_LOW k) true
  let s := emit (bump s (R.TWC_XFER_CNT k)) (.twoWire k [] false [0x19] 1)
  match answer with
  | some b => twAttention (setF (setTwc s k { twc s k with miss := 0 }) (F.TWC_STAT_LAST_RESULT k) 0) k (b.toNat / 2) false
  | none =>
    let n := x.miss + 1
    let s := bump (setF s (F.TWC_STAT_LAST_RESULT k) 1) (R.TWC_NACK_CNT k)
    let s := setTwc s k { twc s k with miss := n, off := decide (8 ≤ n) }
    if 8 ≤ n then logEv (setFault s 10 (6 + k)) 0x0A66 (twFn k) sevWarning [] else s

def execAlertResponseRead (k : Fin 2) (fresh : Bool) (answer : Option Byte) (s : State) : Host.Outcome State Fault Refusal :=
  let x := twc s k.val
  if twMayServe s k.val 1 && (fresh || (!x.off && decide (x.readAt + 96 ≤ s.sctr.toNat))) then
    .next (alertRead s k.val fresh answer)
  else .next s

def execInBandRequest (k : Fin 2) (bits : Byte) (freed : Option (Fin 9)) (s : State) : Host.Outcome State Fault Refusal :=
  if twMayServe s k.val 2 then
    let a := bits.toNat / 2
    if 0x08 ≤ a ∧ a ≤ 0x77 ∧ bits.toNat % 2 = 1 then .next (twAttention s k.val a true)
    else .next (autoClear s k.val freed)
  else .next s

/-! ### The target (R516, R517) -/

/-- A signed 12-bit reading in 0.25 °C, rounded down to whole °C in one byte (R516, R527). -/
def wholeTemp (t : Nat) : Byte := BitVec.ofInt 8 ((BitVec.ofNat 12 t).toInt / 4)

/-- Byte `b` of a word, 0 the least. -/
def byteOf (w : Word) (b : Nat) : Byte := (w >>> (8 * b)).setWidth 8

/-- Byte `a` of the status page (R516); the SCTR bytes come from the latch. -/
def pageByte (s : State) (a : Nat) : Byte :=
  if a < 0x04 then byteOf (getR s R.ID_DEVICE) a
  else if a < 0x08 then byteOf (getR s R.ID_SERIAL_LO) (a - 0x04)
  else if a < 0x0C then byteOf (getR s R.ID_SERIAL_HI) (a - 0x08)
  else if a < 0x10 then byteOf (getR s R.NODE_STAT) (a - 0x0C)
  else if a < 0x14 then byteOf (getR s R.SFAULT_SUM) (a - 0x10)
  else if a < 0x4C then byteOf (getR s (R.SFAULT (1 + (a - 0x14) / 4))) ((a - 0x14) % 4)
  else if a < 0x50 then byteOf (getR s R.PAIR_STAT) (a - 0x4C)
  else if a < 0x58 then (s.tw.twt.sctr >>> (8 * (a - 0x50))).setWidth 8
  else if a < 0x60 then wholeTemp (getF s (F.PM_TEMP_TEMP (a - 0x58)))
  else if a < 0x64 then byteOf (getR s R.CP_STAT) (a - 0x60)
  else 0

/-- A read of `n` bytes from the pointer; byte 0x50 latches the SCTR (R516). -/
def pageRead (s : State) : Nat → State × List Byte
  | 0 => (s, [])
  | n + 1 =>
    let p := s.tw.twt.ptr
    let s := if p = 0x50 then { s with tw := { s.tw with twt := { s.tw.twt with sctr := s.sctr } } } else s
    let b := pageByte s p.toNat
    let (s, l) := pageRead { s with tw := { s.tw with twt := { s.tw.twt with ptr := p + 1 } } } n
    (s, b :: l)

def execTwtWrite (data : List Byte) (s : State) : Host.Outcome State Fault Refusal :=
  if fnOn s 0x5A then
    match data with
    | [] => .next s
    | p :: t => .next (bump { s with tw := { s.tw with twt := { s.tw.twt with ptr := p } } } R.TWT_NACK_CNT t.length)
  else .next s

def execTwtRead (n : BitVec 16) (s : State) : Host.Outcome State Fault Refusal :=
  if fnOn s 0x5A then
    let r := pageRead s n.toNat
    .next (emit (bump r.1 R.TWT_RD_CNT n.toNat) (.target r.2))
  else .next s

def execTwtAlertResponse (whole : Bool) (s : State) : Host.Outcome State Fault Refusal :=
  if fnOn s 0x5A && isF s F.TWT_STAT_ALERT && whole then
    .next (emit (putF s F.TWT_STAT_ALERT false) (.target [BitVec.ofNat 8 (2 * getF s F.TWT_STAT_ADDR)]))
  else .next s

def execTwtTimeout (s : State) : Host.Outcome State Fault Refusal :=
  if fnOn s 0x5A then .next (logEv (setFault s 10 10) 0x0A68 0x5A sevWarning []) else .next s

end Sys2Proof.Machine
end

