-- ==== Sys2Proof/Machine/CpRestart.lean ====
section
/-! DEFINITION. The start of a CP restart and the halt of the CP (R412, R413, R434, R435), and the release of an agent's
semaphores (R469). -/

namespace Sys2Proof.Machine

/-- Release every semaphore agent `a` holds (R469). -/
def releaseSems (s : State) (a : Nat) : State :=
  let mine := s.host.sem.filter (fun x => x.2 == a)
  if mine.isEmpty then s
  else
    let s := { s with host := { s.host with sem := s.host.sem.filter (fun x => x.2 != a) } }
    mine.foldl (fun s x => logEv s 0x0D67 0x00 sevNotice (le 1 x.1 ++ le 1 a)) s

/-- Whether the CP may be halted at its next expiry: expiries within the last 60 s (5,760,000 sp), this one included. -/
def recentExpiries (s : State) : List Nat :=
  s.sctr.toNat :: s.cp.wdtTimes.filter (fun t => decide (s.sctr.toNat < t + 5760000))

/-- The work that a restart cuts short is left as R413 states. -/
def cutWork (s : State) : State :=
  let s := match s.eng.load with
    | some j =>
      let s := setBankState s j.bank bkEmpty
      { s with eng := { s.eng with load := none, banks := s.eng.banks.setIfInBounds j.bank Bank.reset },
               cp := { s.cp with interrupted := s.cp.interrupted ++ [(true, j.bank)] } }
    | none => s
  let s := putF s F.ENG_BANK_STAT_BUSY false
  let s := match s.eng.arm with
    | some j =>
      let s := setBankState s j.bank bkLoaded
      { s with eng := { s.eng with arm := none }, cp := { s.cp with interrupted := s.cp.interrupted ++ [(false, j.bank)] } }
    | none => s
  let st := getF s F.FW_STAT_STATE
  if st = 1 then
    putF (setR (setF { s with sec := { s.sec with stage := none, staged := 0 } } F.FW_STAT_STATE 0) R.FW_STAGED_VERSION 0)
      F.FW_STAT_HOLD false
  else if st = 3 then setF { s with sec := { s.sec with verifyCh := none } } F.FW_STAT_STATE 2
  else s

/-- The hardware answers BUSY to the channels of a restarting CP (R412). -/
def busyChannels (s : State) : State :=
  (List.range 8).foldl (fun s c =>
    let st := getF s (F.MB_STAT_STATE c)
    if st = mbPending then finish s c (.busy 0) true
    else if st = mbRunning ∧ !s.cp.committed.contains c then finish s c (.busy 1) true
    else s) s

/-- A snapshot that waits is lost, and so is the running window: the next record carries GAP (R215). -/
def meterCut (s : State) : State :=
  { s with conv := { s.conv with snap := none, mLost := true, mGap := s.conv.mGap || fnOn s 0x2B } }

/-- A CP restart begins: cause 1 watchdog, 2 firmware activation, 3 command (R48, R434, R469). -/
def cpRestart (s : State) (cause : Nat) : State :=
  let s := setF (setF s F.CP_STAT_CP_STATE 1) F.CP_STAT_LAST_CAUSE cause
  let s := setR s R.CP_RESTARTS (getR s R.CP_RESTARTS + 1)
  let s := { s with cp := { s.cp with restartAt := s.sctr.toNat } }
  let s := busyChannels (twRestart (cutWork (meterCut s)))
  let s := releaseSems s 2
  if fnOn s 0x21 || fnOn s 0x22 then
    let s := putF s F.DPLL_STAT_SERVO_PAUSED true
    logEv { s with clock := { s.clock with paused := true } } 0x056D 0x20 sevNotice []
  else s

/-- The CP halts (R435). -/
def cpHalt (s : State) : State :=
  let s := setF s F.CP_STAT_CP_STATE 2
  let s := logEv (setFault s 1 1) 0x0162 0x00 sevCritical []
  let s := twRestart (cutWork (meterCut s))
  let s := { s with cp := { s.cp with late := [] } }
  (List.range 8).foldl (fun s c =>
    let st := getF s (F.MB_STAT_STATE c)
    if st = mbPending ∨ st = mbRunning then finish s c (.busy 2) true else s) s

end Sys2Proof.Machine
end

