-- ==== Sys2Proof/Machine/Press.lean ====
section
/-! DEFINITION. How a press issues an instruction: the effective mask (R96), results that become visible in a later slot
(R69, R70, R109 to R112, R115), the check lanes' comparison and the memory codes (R73 to R75), and the memories a press reads. -/

namespace Sys2Proof.Machine

/-! ### Delayed results -/

/-- Add a result that becomes visible in slot `t`, after those of the same slot. -/
def pendIns (t : Nat) (w : Wr) : List (Nat × Wr) → List (Nat × Wr)
  | [] => [(t, w)]
  | x :: l => if t < x.1 then (t, w) :: x :: l else x :: pendIns t w l

/-- A result becomes visible from slot `t` on; the check lanes compare it (R73). -/
def push (s : State) (p t : Nat) (w : Wr) : State :=
  setPress s p { press s p with pend := pendIns t w (press s p).pend, trace := w :: (press s p).trace }

/-- One entry of a pointer-set list with a new PTR. -/
def withPtr (l : Vector PtrSet 8) (n : Nat) (w : BitVec 15) : Vector PtrSet 8 :=
  l.setIfInBounds n { l.getD n PtrSet.reset with ptr := w }

def withCptr (l : Vector CPtr 4) (n : Nat) (w : BitVec 11) : Vector CPtr 4 :=
  l.setIfInBounds n { l.getD n CPtr.reset with ptr := w }

/-- Change lane entry `j` of a press. -/
def Press.onLane (x : Press) (j : Nat) (f : Lane → Lane) : Press :=
  { x with lanes := x.lanes.setIfInBounds j (f (x.lanes.getD j Lane.reset)) }

/-- A result becomes visible. -/
def applyWr (x : Press) (w : Wr) : Press :=
  match w with
  | .v j r w => x.onLane j (fun l => { l with v := l.v.setIfInBounds r w })
  | .pset j n y => x.onLane j (fun l => { l with ps := l.ps.setIfInBounds n y })
  | .ptr j n w => x.onLane j (fun l => { l with ps := withPtr l.ps n w })
  | .cset j n y => x.onLane j (fun l => { l with cp := l.cp.setIfInBounds n y })
  | .cptr j n w => x.onLane j (fun l => { l with cp := withCptr l.cp n w })
  | .mask n bits em => { x with masks := x.masks.setIfInBounds n ((x.masks.getD n 0 &&& ~~~em) ||| (bits &&& em)) }
  | .st lane a w => unmark { x with mem := memSet x.mem (lane * 32768 + a) w } 0 (lane * 32768 + a)
  | .laVis j k y => x.onLane j (fun l => { l with laVis := l.laVis.setIfInBounds k y })
  | .srch j y => x.onLane j (fun l => { l with srch := y })
  | .srchVis j y => x.onLane j (fun l => { l with srchVis := y })
  | .rd .. | .out .. | .bit .. | .flag .. => x

/-- Make every result visible whose slot has come. -/
def commitPend (x : Press) (t : Nat) : Press :=
  let now := x.pend.filter (fun e => decide (e.1 ≤ t))
  let later := x.pend.filter (fun e => decide (t < e.1))
  now.foldl (fun y e => applyWr y e.2) { x with pend := later }

/-! ### Upsets (R73, R75; log entry 40) -/

/-- Flip bits of a result of lane entry `j`. -/
def flipWr (j : Nat) (x : Word) (w : Wr) : Wr :=
  match w with
  | .v k r y => if k = j then .v k r (y ^^^ x) else w
  | .st k a y => if k = j then .st k a (y ^^^ x) else w
  | .out k n a y => if k = j then .out k n a (y ^^^ x) else w
  | .laVis k n y => if k = j then .laVis k n { y with value := y.value ^^^ x.setWidth 96 } else w
  | .srchVis k y => if k = j then .srchVis k { y with value := y.value ^^^ x } else w
  | _ => w

/-- A flipped accumulator or search value is also the lane's own, which the next accumulate or search takes. -/
def keepFlip (x : Press) (w : Wr) : Press :=
  match w with
  | .laVis j k y => x.onLane j (fun l => { l with la := l.la.setIfInBounds k y })
  | .srchVis j y => x.onLane j (fun l => { l with srch := y })
  | _ => x

/-- Bits of the results that this slot's instruction forms in lane entry `j` flip. -/
def flipResult (x : Press) (j : Nat) (m : Word) : Press :=
  let mine := x.trace.filter (fun w => flipWr j m w != w)
  let y := { x with pend := x.pend.map (fun e => if mine.contains e.2 then (e.1, flipWr j m e.2) else e),
                    trace := x.trace.map (flipWr j m) }
  (mine.map (flipWr j m)).foldl keepFlip y

/-- The effect of an upset on registers and memory words, before the instruction issues. -/
def strike (s : State) (p : Nat) (u : Upset) : State :=
  let onLane := fun (j : Nat) (f : Lane → Lane) => setPress s p ((press s p).onLane j f)
  match u with
  | .vreg j r x => onLane j (fun l => { l with v := l.v.set r (l.v[r] ^^^ x) })
  | .pointer j n x => onLane j (fun l => { l with ps := withPtr l.ps n ((l.ps[n]).ptr ^^^ x) })
  | .cpointer j m x => onLane j (fun l => { l with cp := withCptr l.cp m ((l.cp[m]).ptr ^^^ x) })
  | .acc j k x => onLane j (fun l => { l with la := l.la.set k { l.la[k] with value := (l.la[k]).value ^^^ x },
                                              laVis := l.laVis.set k { l.laVis[k] with value := (l.laVis[k]).value ^^^ x } })
  | .srch j x => onLane j (fun l => { l with srch := { l.srch with value := l.srch.value ^^^ x },
                                             srchVis := { l.srchVis with value := l.srchVis.value ^^^ x } })
  | .result _ _ => s
  | .memory m l a two => strikeWord s p m.val (placeOf m.val l.val a.toNat) two

/-- The effect of an upset on the results, before they are compared. -/
def strikeResult (s : State) (p : Nat) (u : Upset) : State :=
  match u with
  | .result j x => setPress s p (flipResult (press s p) j x)
  | _ => s

/-! ### The check lanes' comparison (R73, R74) -/

/-- The lane entry and the element (R91) of what an instruction wrote or read, and the same without the lane entry. -/
def Wr.seen : Wr → Option (Nat × Nat × Wr)
  | .v j r w => some (j, 0, .v 0 r w)
  | .laVis j k x => some (j, 1, .laVis 0 k x)
  | .bit j b => some (j, 2, .bit 0 b)
  | .srchVis j x => some (j, 3, .srchVis 0 x)
  | .pset j n x => some (j, 4, .pset 0 n x)
  | .ptr j n w => some (j, 4, .ptr 0 n w)
  | .cset j n x => some (j, 4, .cset 0 n x)
  | .cptr j n w => some (j, 4, .cptr 0 n w)
  | .st j a w => some (j, 5, .st 0 a w)
  | .out j k a w => some (j, k, .out 0 k a w)
  | .flag j f => some (j, 8, .flag 0 f)
  | .rd j m a => some (j, 9, .rd 0 m a)
  | .mask .. | .srch .. => none

/-- What lane entry `j` wrote or read in element `e` in the slot. -/
def seenBy (l : List Wr) (j e : Nat) : List Wr :=
  l.filterMap (fun w => w.seen.bind (fun x => if x.1 = j ∧ x.2.1 = e then some x.2.2 else none))

/-- Each check lane compares with its compute lane, element by element; each element that differs is one difference (R73, R74; log
entry 40). -/
def compareLanes (s : State) (p t : Nat) : State :=
  let l := (press s p).trace
  [0, 1].foldl (fun s c => (List.range 10).foldl (fun s e =>
    if seenBy l (32 + c) e = seenBy l (laneNo s p (32 + c)) e then s else checkMismatch s p t c e) s) s

/-- The place of the word that a compute lane read from state or coefficient memory. -/
def readPlace : Wr → Option (Nat × Nat)
  | .rd j m a => if j < 32 ∧ m < 2 then some (m, placeOf m j a) else none
  | _ => none

/-- The codes of the words that the compute lanes read (R75). -/
def checkReads (s : State) (p t : Nat) : State :=
  ((press s p).trace.reverse.filterMap readPlace).foldl (fun s x => eccCheck s (fracOf t) p x.1 x.2 false) s

/-! ### Issue -/

/-- The effective mask (R96). -/
def effMask (s : State) (h : Issue) : Word :=
  if h.pe then
    let m := (press s h.p.val).masks.getD h.psel.val 0
    if h.pinv then ~~~m else m
  else 0xFFFFFFFF

/-- Whether the word that press `p` fetches has two bits wrong: it is executed as a no-operation (R75). -/
def badFetch (s : State) (p : Nat) : Bool :=
  match (fetch s p).key with
  | some k => markOf (press s p) 2 k == some true
  | none => false

/-- The code of the word that press `p` fetches (R75). -/
def checkFetch (s : State) (p t : Nat) : State :=
  match (fetch s p).key with
  | some k => eccCheck s (fracOf t) p 2 k false
  | none => s

/-- Press `p` before its next instruction: results that are due are visible, and the upsets of the slot have struck. -/
def ready (s : State) (h : Issue) : State :=
  let x := commitPend (press s h.p.val) (press s h.p.val).slot
  h.upsets.foldl (fun s u => strike s h.p.val u) (setPress s h.p.val { x with trace := [] })

/-- After its effect: results are struck, reads checked and the check lanes compared, and the press goes to its next slot. -/
def retire (s : State) (h : Issue) : State :=
  let p := h.p.val
  let t := (press s p).slot
  let s := h.upsets.foldl (fun s u => strikeResult s p u) s
  let s := compareLanes (checkReads s p t) p t
  setPress s p { press s p with slot := t + 1, trace := [] }

/-- Issue instruction `i` in the press's next slot, if that is what the press fetches there; `f` is its effect, given the state, the
slot and the effective mask (R68, R96, R130). -/
def issue (i : Instr) (h : Issue) (s : State) (f : State → Nat → Word → State) : State :=
  match encode i with
  | none => s
  | some w =>
    if canIssue s h.p.val w then
      let r := ready s h
      let t := (press s h.p.val).slot
      retire (if badFetch r h.p.val then checkFetch r h.p.val t else f (checkFetch r h.p.val t) t (effMask r h)) h
    else s

/-- Run `f` in every lane entry of the mask, in ascending order: it is given the state, the entry and the lane number. -/
def eachLane (s : State) (p : Nat) (m : Word) (f : State → Nat → Nat → State) : State :=
  (List.range 34).foldl (fun s j => let l := laneNo s p j; if wbit m l then f s j l else s) s

/-- A vector register as the instruction reads it. -/
def vreg (s : State) (p j : Nat) (r : Fin 16) : Word := (lane s p j).v.getD r.val 0

/-- Write VD, visible from slot t + 4 (R69). -/
def setV (s : State) (p t j : Nat) (r : Fin 16) (w : Word) : State := push s p (t + 4) (.v j r.val w)

/-- Deliver an arithmetic result to VD with its flags (R79, R88). -/
def setFR (s : State) (p t j : Nat) (r : Fin 16) (x : FR) : State :=
  setV (setLaneFlag (setLaneFlag s p t j .nan x.nan) p t j .inf x.inf) p t j r x.w

/-! ### Memories a press reads -/

/-- The stored word, or +0.0 where two bits are wrong (R75). -/
def delivered (x : Press) (m k : Nat) (w : Word) : Word := if markOf x m k = some true then 0 else w

/-- A state word as lane `l` of press `p` reads it (R75, R111). -/
def readState (s : State) (p l a : Nat) : Word :=
  delivered (press s p) 0 (l * 32768 + a) (memGet (press s p).mem (l * 32768 + a))

/-- The sp whose values press `p` reads in its current slot (R387). -/
def spOf (s : State) (p : Nat) : Nat := ((passOf s p).map (·.1)).getD s.sctr.toNat

/-- A listed input word in a pass, from the input ring (R383, R387). -/
def ringWord (s : State) (p a : Nat) : Option Word :=
  match passOf s p with
  | none => none
  | some (m, ins) =>
    match ins.find? (fun e => e % 2 ^ 14 == a) with
    | none => none
    | some e =>
      let want := if e / 2 ^ 15 = 1 then m - 1 else m
      (s.rs.ring.find? (fun x => x.1 == want)).map (fun x => memGet x.2 a)

/-- Whether an exchange address begins a segment of the accumulator area of press `p` (R385). -/
def areaAddr (p a : Nat) : Bool := decide (0x2000 + 0x800 * p ≤ a) && decide (a < 0x2200 + 0x800 * p) && a % 32 == 0

/-- In the load part of a replay, the accumulator cell that an `LDX` gives lane `l` (R386). -/
def areaWord (s : State) (p a l : Nat) : Option Word :=
  match s.rs.replay with
  | none => none
  | some r =>
    if inWindow s p ∧ r.press = p ∧ (press s p).slot < 144 + r.load ∧ areaAddr p a then
      some (memGet s.rs.acc (512 * p + (a - (0x2000 + 0x800 * p)) + l))
    else none

/-- The value that coefficient word `a` (lane * 2,048 + word) of bank `b` had in sp `m`, now `w`: before the first write at a
boundary after it (R387). -/
def coefIn (s : State) (b p a m : Nat) (w : Word) : Word :=
  let later := s.rs.wrote.filter (fun x => decide (m < x.1) && x.2.1 == b * 262144 + p * 65536 + a)
  (later.getLast?.map (·.2.2)).getD w

/-- A coefficient word as press `p` reads it: in a pass, as it stood in the pass's sp (R101, R124, R387). -/
def coefWord (s : State) (p b a : Nat) : Word :=
  let w := memGet (press s p).coef (b * 65536 + a)
  match passOf s p with
  | none => w
  | some (m, _) => coefIn s b p a m w

/-- A coefficient word of bank `b` as lane `l` of press `p` reads it (R75, R101, R124). -/
def readCoef (s : State) (p b l w : Nat) : Word :=
  delivered (press s p) 1 (b * 65536 + l * 2048 + w) (coefWord s p b (l * 2048 + w))

/-- Whether press `p` discards its stores to exchange and meter memory and its partition reads +0.0: it is muted, or it runs BIST or
a self-test (R89, R401, R403). -/
def silent (s : State) (p : Nat) : Bool := (press s p).muted || pressTested s p

/-- A press-region word as a reader in slot `t` sees it: +0.0 while its partition is silent (R89, R112, R401). -/
def readPressWord (s : State) (t a : Nat) : Word :=
  let q := (a - 0x2000) / 0x800
  if silent s q then 0
  else (press s q).stx.foldl (fun w e => if e.1 ≤ t ∧ e.2.1 = a then e.2.2 else w) (memGet s.dsp.exPress a)

/-- An exchange word as a reader in slot `t` sees it (R16, R112). -/
def readEx (s : State) (t a : Nat) : Word :=
  if a < 0x0C40 then memGet s.dsp.exIn a
  else if a < 0x2000 then 0
  else readPressWord s t a

/-- An exchange word as press `p` reads it in slot `t`: in a pass, a listed input comes from the ring (R387). -/
def readExOf (s : State) (p t a : Nat) : Word := (ringWord s p a).getD (readEx s t a)

/-- One byte of a word replaced, for each enabled byte. -/
def mergeBytes (old new : Word) (be : BitVec 4) : Word :=
  let m : Word := (if be.getLsbD 0 then 0xFF else 0) ||| (if be.getLsbD 1 then 0xFF00 else 0) |||
    (if be.getLsbD 2 then 0xFF0000 else 0) ||| (if be.getLsbD 3 then 0xFF000000 else 0)
  (old &&& ~~~m) ||| (new &&& m)

/-- Insert a delay write in the order of its slot, then its press (R115). -/
def dlyIns (x : DWr) : List DWr → List DWr
  | [] => [x]
  | y :: l => if x.slot < y.slot ∨ (x.slot = y.slot ∧ x.press < y.press) then x :: y :: l else y :: dlyIns x l

/-- A delay word as press `p` reads it in slot `t`: its own writes from 4 slots on, others' from 48 (R115). -/
def readDelay (s : State) (p t a : Nat) : Word :=
  s.dsp.dly.foldl (fun w d =>
    if d.addr = a ∧ (if d.press = p then d.slot + 4 ≤ t else d.slot + 48 ≤ t) then mergeBytes w d.w d.be else w)
    (memGet s.dsp.delay a)

def pushDelay (s : State) (x : DWr) : State := { s with dsp := { s.dsp with dly := dlyIns x s.dsp.dly } }

/-- Insert a meter write in the order of its slot, then its press (R116). -/
def mtrIns (x : MWr) : List MWr → List MWr
  | [] => [x]
  | y :: l => if x.slot < y.slot ∨ (x.slot = y.slot ∧ x.press < y.press) then x :: y :: l else y :: mtrIns x l

def pushMeter (s : State) (p t a : Nat) (w : Word) : State :=
  { s with dsp := { s.dsp with mtr := mtrIns ⟨t, p, a % 16384, w⟩ s.dsp.mtr } }

/-! ### The boundary (R15, R72, R112, R132) -/

/-- Every result of the sp completes: registers, stores, exchange, delay and meter writes (R15, R132). -/
def drainPress (s : State) (p : Nat) : State :=
  let x := press s p
  let s := { s with dsp := { s.dsp with exPress := x.stx.foldl (fun m e => memSet m e.2.1 e.2.2) s.dsp.exPress } }
  setPress s p { commitPend x 20480 with stx := [], slot := 128 }

def drain (s : State) : State :=
  let s := (List.range 4).foldl drainPress s
  { s with dsp := { s.dsp with
      delay := s.dsp.dly.foldl (fun m d => memSet m d.addr (mergeBytes (memGet m d.addr) d.w d.be)) s.dsp.delay,
      dly := [],
      meter := s.dsp.mtr.foldl (fun m d => memSet m d.addr d.w) s.dsp.meter,
      mtr := [] } }

/-- The flags of compute lane `l` as a check lane takes them (R72). -/
def laneFlags (s : State) (p l : Nat) : BitVec 4 :=
  [LFlag.nan, .inf, .ovf, .tlost].foldl (fun b f => if wbit (getR s (f.reg p)) l then b ||| (1 <<< f.idx) else b) 0

/-- The check lanes of press `p` take rotation `k` and the state of the lanes they check (R71, R72). -/
def loadCheck (s : State) (p k : Nat) : State :=
  let s := setF s (F.PRESS_STAT_CHECK_K p) k
  let x := press s p
  let a := x.lanes.getD (2 * k) Lane.reset
  let b := x.lanes.getD (2 * k + 1) Lane.reset
  setPress s p { x with lanes := (x.lanes.set 32 a).set 33 b,
                        checkFlags := #v[laneFlags s p (2 * k), laneFlags s p (2 * k + 1)] }

/-- Whether place `k` of memory `m` lies in the scrubber's share `n` of its pass: 128 state words and 16 coefficient words of each
lane, and 192 instructions, in ascending order (R76; the order is the model's, log entry 40). -/
def inShare (n m k : Nat) : Bool :=
  match m with
  | 0 => k % 32768 / 128 == n
  | 1 => placeAddr 1 k / 16 == n
  | _ => k / 192 == n

/-- The scrubber's share of an sp: 256 sp make a pass (R76). A gated press is not scrubbed. Each bad word of the share is read in a
cycle of its own (log entry 5). -/
def scrubStep (s : State) (p : Nat) : State :=
  if isF s (F.PRESS_STAT_GATED p) then s
  else
    let n := (press s p).scrub
    let hits := (press s p).marks.filter (fun e => inShare n e.1 e.2.1)
    let s := hits.foldl (fun s e => eccCheck (nextFree s) (freeFrac s) p e.1 e.2.1 true) s
    let s := setPress s p { press s p with scrub := (n + 1) % 256 }
    if n = 255 then setR s (R.SCRUB_PASS p) (getR s (R.SCRUB_PASS p) + 1) else s

/-! ### Faults of a press: muting (R89, R90) -/

/-- Muting begins or lifts at a boundary (R89, R90). -/
def muteStep (s : State) (p : Nat) : State :=
  let m := isF s (F.PRESS_STAT_FAULTED p) && isF s F.PRESS_CTL_FAULT_MUTE && unpaired s
  putF (setPress s p { press s p with muted := m }) (F.PRESS_STAT_MUTED p) m

end Sys2Proof.Machine
end

