-- ==== Sys2Proof/Machine/PlateFmt.lean ====
section
/-! DEFINITION. The plate format (R135 to R152): the checks of a load (R154), and how a plate's sections fill a bank. -/

namespace Sys2Proof.Machine

/-- A section directory entry (R138), with its own place in the plate. -/
structure Sect where
  at_ : Nat
  type : Nat
  inst : Nat
  off : Nat
  len : Nat
  count : Nat
  deriving DecidableEq, Repr

/-- The first element of a list of optional findings. -/
def firstSome {α : Type} (l : List (Option α)) : Option α := l.findSome? id

/-- The offset of a field, if its rule is broken. -/
def bad (b : Bool) (o : Nat) : Option Nat := if b then some o else none

def plateDir (d : List Byte) : Nat := leAt d 0x10 4
def plateCount (d : List Byte) : Nat := leAt d 0x0C 2
def plateMask (d : List Byte) : Nat := leAt d 0x1C 1
def platePair (d : List Byte) : Bool := leAt d 0x0E 2 % 2 == 1
def plateMoved (d : List Byte) : Bool := leAt d 0x0E 2 / 2 % 2 == 1

/-- The header rules in the order of R154, step 2 of the load order. -/
def headerFault (d : List Byte) (len : Nat) : Option Nat :=
  let x := leAt d 0x1E 2
  firstSome
    [bad (leAt d 0 4 != 0x4C504755) 0, bad (leAt d 4 1 != 1) 4, bad (leAt d 6 2 != 128) 6, bad (leAt d 8 4 != len) 8,
     bad (plateCount d == 0 || decide (64 < plateCount d)) 0x0C, bad (leAt d 0x0E 2 / 4 != 0) 0x0E,
     bad (plateDir d % 8 != 0 || decide (plateDir d < 128) || decide (len < plateDir d + 16 * plateCount d + 4)) 0x10,
     bad (plateMask d == 0 || decide (16 ≤ plateMask d)) 0x1C, bad (decide (1 < leAt d 0x1D 1)) 0x1D,
     bad (x != 0 && (decide (x < 8) || decide (4096 < x))) 0x1E, bad (leAt d 0x2C 84 != 0) 0x2C]

/-- The directory's entries. -/
def plateSects (d : List Byte) : List Sect :=
  (List.range (plateCount d)).map (fun i =>
    let o := plateDir d + 16 * i
    ⟨o, leAt d o 2, leAt d (o + 2) 2, leAt d (o + 4) 4, leAt d (o + 8) 4, leAt d (o + 12) 4⟩)

/-- The section types whose INSTANCE is a press (R138). -/
def pressType (t : Nat) : Bool := t == 1 || t == 2 || t == 3 || t == 0x10 || t == 0x11

/-- LENGTH as R138 gives it: `none` where the type is not of the table or has no fixed length. -/
def sectLen (t count : Nat) : Option Nat :=
  if t = 1 ∨ t = 2 ∨ t = 3 then some (8 * count)
  else if t = 0x10 then some 262144
  else if t = 0x11 then some 8192
  else if t = 0x20 then some 65536
  else if t = 0x21 then some (4 * count)
  else if t = 0x22 then some 784
  else if t = 0x23 then some 1024
  else if t = 0x24 then some 16384
  else if t = 0x25 then some (8 * count)
  else if t = 0x40 then some 64
  else if t = 0x41 then some (12 * count)
  else none

/-- The largest COUNT of a type; 0 where COUNT must be 0 (R138). -/
def sectMaxCount (t : Nat) : Nat :=
  if t = 1 ∨ t = 2 ∨ t = 3 then 8192
  else if t = 0x21 then 4096 else if t = 0x25 then 512 else if t = 0x41 then 1024 else 0

/-- Whether the plate may hold a section of type `t` (R138). -/
def typeAllowed (d : List Byte) (t : Nat) : Bool :=
  (sectLen t 0).isSome && (t != 3 || platePair d) && (t != 0x41 || plateMoved d) || (t == 0x30 && platePair d)

/-- The first broken field of one entry (R138). -/
def entryFault (d : List Byte) (len : Nat) (x : Sect) : Option Nat :=
  let ends := plateDir d + 16 * plateCount d
  let place := bad (x.off % 8 != 0 || decide (x.off < ends) || decide (len < x.off + 4)) (x.at_ + 4)
  let size := bad (decide (len < x.off + x.len + 4)) (x.at_ + 8)
  if 0x8000 ≤ x.type then firstSome [place, size]
  else
    let m := sectMaxCount x.type
    firstSome
      [bad (!typeAllowed d x.type) x.at_,
       bad (if pressType x.type then decide (4 ≤ x.inst) || plateMask d / 2 ^ x.inst % 2 == 0 else x.inst != 0) (x.at_ + 2),
       place,
       bad (match sectLen x.type x.count with
         | some n => x.len != n
         | none => false) (x.at_ + 8),
       size,
       bad (if m = 0 then x.count != 0 else x.count == 0 || decide (m < x.count)) (x.at_ + 12)]

/-- Whether two sections share a byte. -/
def overlaps (x y : Sect) : Bool := decide (x.off < y.off + y.len) && decide (y.off < x.off + x.len)

/-- The place of the later of two entries that overlap or repeat TYPE and INSTANCE (R138, R154). -/
def relationFault (ss : List Sect) : Option Nat :=
  (ss.find? (fun y => ss.any (fun x =>
    decide (x.at_ < y.at_) && (overlaps x y || (x.type == y.type && x.inst == y.inst))))).map (·.at_)

def findSect (ss : List Sect) (t i : Nat) : Option Sect := ss.find? (fun x => x.type == t && x.inst == i)

/-- The bytes of a section; an absent section has none. -/
def sectBytes (d : List Byte) (ss : List Sect) (t i : Nat) : List Byte :=
  match findSect ss t i with
  | some x => (d.drop x.off).take x.len
  | none => []

/-- The instruction words of a list of 32-bit words. -/
def pairWords : List Word → List (BitVec 64)
  | a :: b :: t => (b ++ a) :: pairWords t
  | _ => []

/-- The instruction words of a byte list (R139). -/
def words64 (p : List Byte) : List (BitVec 64) := pairWords (leWords p)

/-- Whether a program section of the plate uses the delay port. -/
def usesDelay (d : List Byte) (ss : List Sect) : Bool :=
  (ss.filter (fun x => decide (x.type ≤ 3))).any (fun x =>
    (words64 ((d.drop x.off).take x.len)).any (fun w => opOf w == 0x35 || opOf w == 0x36))

/-- Whether a section that the plate must hold is missing (R138). -/
def missingSect (d : List Byte) (ss : List Sect) : Bool :=
  let has := fun t i => (findSect ss t i).isSome
  (List.range 4).any (fun p => plateMask d / 2 ^ p % 2 == 1 &&
    !(has 1 p && has 2 p && has 0x11 p && (!platePair d || has 3 p))) ||
  !(has 0x20 0 && has 0x21 0 && has 0x22 0 && has 0x23 0 && has 0x24 0 && has 0x40 0) ||
  (platePair d && !has 0x30 0) || (plateMoved d && !has 0x41 0) || (usesDelay d ss && !has 0x25 0)

/-! ### The group table's layout (R149) -/

/-- The size of the group at offset `o` of a group table, with its padding. -/
def groupSize (g : List Byte) (o : Nat) : Nat :=
  let n := 24 + 8 * leAt g (o + 6) 1 + 2 * leAt g (o + 7) 1
  (n + 3) / 4 * 4

/-- The first broken field of group `i` at offset `o` of the table. -/
def groupFault (g : List Byte) (i o : Nat) : Option Nat :=
  let n := 24 + 8 * leAt g (o + 6) 1 + 2 * leAt g (o + 7) 1
  firstSome
    [bad (leAt g o 2 != i) o, bad (decide (2 ≤ leAt g (o + 3) 1)) (o + 3), bad (decide (32 < leAt g (o + 7) 1)) (o + 7),
     bad (decide (16 ≤ leAt g (o + 8) 1)) (o + 8), bad (leAt g (o + 9) 1 != 0) (o + 9), bad (leAt g (o + 17) 3 != 0) (o + 17),
     bad (leAt g (o + n) (groupSize g o - n) != 0) (o + n)]

/-- The first broken field of `n` groups from group `i` at offset `o`. -/
def groupsFault (g : List Byte) : Nat → Nat → Nat → Option Nat
  | 0, _, o => bad (o != g.length) (min o g.length)
  | n + 1, i, o =>
    match groupFault g i o with
    | some x => some x
    | none => groupsFault g n (i + 1) (o + groupSize g o)

/-- The first broken field of the group table section. -/
def tableFault (g : List Byte) : Option Nat :=
  firstSome [bad (decide (4096 < leAt g 0 2)) 0, bad (leAt g 2 6 != 0) 2, groupsFault g (leAt g 0 2) 0 8]

/-- The groups of a table. -/
def parseGroups (g : List Byte) : Nat → Nat → List Group
  | 0, _ => []
  | n + 1, o =>
    let r := leAt g (o + 6) 1
    { press := leAt g (o + 2) 1, loop := leAt g (o + 3) 1 % 2 == 1, words := leAt g (o + 4) 2, accLa := leAt g (o + 8) 1,
      copyAt := leAt g (o + 10) 2, replayAt := leAt g (o + 12) 2, copySlots := leAt g (o + 14) 1,
      loadSlots := leAt g (o + 15) 1, passSlots := leAt g (o + 16) 1, accLanes := BitVec.ofNat 32 (leAt g (o + 20) 4),
      runs := (List.range r).map (fun k =>
        ⟨BitVec.ofNat 32 (leAt g (o + 24 + 8 * k) 4), leAt g (o + 28 + 8 * k) 2, leAt g (o + 30 + 8 * k) 2⟩),
      inputs := (List.range (leAt g (o + 7) 1)).map (fun k => leAt g (o + 24 + 8 * r + 2 * k) 2) } ::
    parseGroups g n (o + groupSize g o)

/-! ### The load's checks (R154) -/

/-- The end of the aligned word that holds offset `o`: a fault of a field is found once that word is read. -/
def wordEnd (o : Nat) : Nat := o / 4 * 4 + 4

/-- The end of what must be read for a fault at offset `f` of a directory entry: LENGTH is judged with COUNT. -/
def entryEnd (x : Sect) (f : Nat) : Nat := if f < x.at_ + 8 then wordEnd f else x.at_ + 16

/-- The offset of the first layout fault, header first, and the end of the bytes that show it. -/
def formatFault (d : List Byte) (len : Nat) : Option (Nat × Nat) :=
  match headerFault d len with
  | some o => some (o, wordEnd o)
  | none =>
    let ss := plateSects d
    match ss.findSome? (fun x => (entryFault d len x).map (fun o => (o, entryEnd x o))) with
    | some r => some r
    | none =>
      match relationFault ss with
      | some o => some (o, o + 16)
      | none =>
        if missingSect d ss then some (plateDir d, plateDir d + 16 * plateCount d)
        else
          match findSect ss 0x30 0 with
          | some x => (tableFault (sectBytes d ss 0x30 0)).map (fun o => (o + x.off, wordEnd (o + x.off)))
          | none => none

/-- The refusal of a load that read `d`: code and detail. `readErr` is the offset of a read that failed; a layout fault that the
bytes before it show comes first (R154, R166). -/
def plateFault (d : List Byte) (len : Nat) (readErr : Option Nat) : Option (Nat × Nat) :=
  match readErr with
  | some o =>
    match formatFault (d.take o) len with
    | some f => if f.2 ≤ o then some (0x0615, f.1) else some (0x0613, o)
    | none => some (0x0613, o)
  | none =>
    match formatFault d len with
    | some f => some (0x0615, f.1)
    | none =>
      let c := crc32c (d.take (len - 4))
      if c.toNat = leAt d (len - 4) 4 then none else some (0x0614, c.toNat)

/-! ### Filling a bank (R139 to R152) -/

/-- The non-zero contents of consecutive addresses from `lo`, in ascending order. -/
def cellsOf {w : Nat} (lo : Nat) : List (BitVec w) → Cells w
  | [] => []
  | v :: t => if v = 0 then cellsOf (lo + 1) t else (lo, v) :: cellsOf (lo + 1) t

/-- Replace `n` addresses from `lo` by the contents `l`, zeros after them. -/
def memFill {w : Nat} (m : Cells w) (lo n : Nat) (l : List (BitVec w)) : Cells w :=
  m.filter (fun c => decide (c.1 < lo)) ++ cellsOf lo (l.take n) ++ m.filter (fun c => decide (lo + n ≤ c.1))

/-- The tables of a plate (R136 to R152). -/
def bankOf (d : List Byte) : Bank :=
  let ss := plateSects d
  let sec := sectBytes d ss
  let g := sec 0x30 0
  let dl := sec 0x25 0
  let mv := sec 0x41 0
  { pair := platePair d, movedFlag := plateMoved d, pressMask := plateMask d, curve := leAt d 0x1D 1, xfade := leAt d 0x1E 2,
    fill := leAt d 0x28 4,
    counts := (List.range 12).map (fun k => (sec (k % 3 + 1) (k / 3)).length / 8),
    calloc := (List.range 4).flatMap (fun p => cellsOf (p * 8192) (sec 0x11 p)),
    edges := cellsOf 0 (leWords (sec 0x20 0)),
    sinks := leWords (sec 0x21 0),
    inputMap := cellsOf 0 (sec 0x22 0),
    exAlloc := cellsOf 0 (sec 0x23 0),
    meterMap := cellsOf 0 (leWords (sec 0x24 0)),
    delays := (List.range (dl.length / 8)).map (fun i =>
      ⟨leAt dl (8 * i) 4, leAt dl (8 * i + 4) 1, leAt dl (8 * i + 5) 1, leAt dl (8 * i + 6) 2⟩),
    groups := parseGroups g (leAt g 0 2) 8,
    totals := sec 0x40 0,
    moved := (List.range (mv.length / 12)).map (fun i =>
      ⟨leAt mv (12 * i) 1, leAt mv (12 * i + 2) 2, leAt mv (12 * i + 4) 2, BitVec.ofNat 32 (leAt mv (12 * i + 8) 4)⟩) }

/-- Program and coefficient memory of press `p` in bank `b` from a plate (R139, R140). -/
def loadPress (x : Press) (d : List Byte) (b p : Nat) : Press :=
  let sec := sectBytes d (plateSects d)
  let area := fun (m : Cells 64) (a : Nat) =>
    memFill m (b * 24576 + a * 8192) 8192 (words64 (sec (a + 1) p))
  { x with prog := area (area (area x.prog 0) 1) 2,
           coef := memFill x.coef (b * 65536) 65536 (leWords (sec 0x10 p)),
           marks := x.marks.filter (fun e =>
             !(e.1 == 1 && e.2.1 / 65536 == b) && !(e.1 == 2 && e.2.1 / 24576 == b)) }

end Sys2Proof.Machine
end

