-- ==== Sys2Proof/Machine/Sources.lean ====
section
/-! DEFINITION. Which input words are sourced, as an arm sees them (R145). -/

namespace Sys2Proof.Machine

/-- Whether an enabled receive flow owns receive channel `k` (R145). -/
def flowSourced (s : State) (k : Nat) : Bool :=
  fnOn s 0x08 && s.net.rx.any (fun f => decide (f.base ≤ k) && decide (k < f.base + f.ch))

/-- Whether an enabled serial port owns serial input channel `k` (R145). -/
def serialSourced (s : State) (k : Nat) : Bool :=
  (List.range 16).any (fun n =>
    let f := 0x10 + n
    let b := getF s (F.SAP_CHAN_RX_BASE f)
    fnOn s f && decide (b ≤ k) && decide (k < b + getF s (F.SAP_CHAN_RX_CH f)))

/-- Whether converter channel `c` is assigned, to a sink or to a source (R202). -/
def convAssigned (s : State) (c : Nat) (sink : Bool) : Bool :=
  fnOn s 0x28 && isF s (F.CONV_MAP_USED c) && isF s (F.CONV_MAP_DIR c) == sink

/-- Whether the source of input word `w` is enabled (R145). -/
def wordSourced (s : State) (w : Nat) : Bool :=
  if w < 0x800 then flowSourced s w
  else if w < 0x900 then serialSourced s (w - 0x800)
  else if w < 0xB00 then convAssigned s (w - 0x900) false
  else if w < 0xC00 then fnOn s 0x2A
  else fnOn s (0x30 + (w - 0xC00) / 4)

end Sys2Proof.Machine
end

