-- ==== Sys2Proof/Machine/PlateArm.lean ====
section
/-! DEFINITION. The checks of an arm (R155), with the instruction rules of R98 and R120 over the encodings of R97 to R102. -/

namespace Sys2Proof.Machine

/-! ### Instruction words (R96 to R102) -/

/-- Whether a word stored in area `a` of press `p` breaks a rule of R98 or R120, but for the pairing of `REP` and `END`. -/
def instrBad (p a : Nat) (w : BitVec 64) : Bool :=
  let op := opOf w
  let x := ifld w 13 0
  let vec := ifld w 49 49 == 1
  reservedSet w ||
  ([0x00, 0x07, 0x08, 0x0B, 0x0C].contains op && ifld w 57 57 == 1) ||
  ([0x20, 0x21, 0x22, 0x28, 0x29].contains op && ifld w 51 50 == 3) ||
  (op == 0x21 && ifld w 33 33 == 0) ||
  (op == 0x18 && decide (6 ≤ ifld w 35 33)) ||
  (op == 0x04 && (ifld w 35 20 == 0 || decide (32768 < ifld w 35 20))) ||
  (op == 0x0B && ifld w 15 0 == 0) ||
  ((op == 0x35 || op == 0x36) && (decide (ifld w 42 38 < 4) || decide (17 < ifld w 42 38))) ||
  (op == 0x34 && (x / 0x800 != 4 + p || (vec && x % 32 != 0))) ||
  (op == 0x37 && ((ifld w 43 43 == 1 && x % 2 != 0) || (vec && x % 32 != 0))) ||
  ((op == 0x3C || op == 0x3D) && decide (a < 2))

/-- The instructions that break the pairing of `REP` and `END`, from instruction `i` with the open blocks `open_`, innermost
first (R98, R166). -/
def repFaults : List (BitVec 64) → Nat → List Nat → List Nat
  | [], _, open_ => open_
  | w :: t, i, open_ =>
    if opOf w = 0x0B then
      (if 4 ≤ open_.length then [i] else []) ++ repFaults t (i + 1) (i :: open_)
    else if opOf w = 0x0C then
      match open_ with
      | [] => i :: repFaults t (i + 1) []
      | r :: rest => (if i = r + 1 then [r] else []) ++ repFaults t (i + 1) rest
    else repFaults t (i + 1) open_

/-- Whether `slots` expanded slots from the head of a list lie within it (R150). -/
def routineFits (slots : Nat) : List (BitVec 64) → Nat → List (Nat × Nat) → Bool
  | [], acc, open_ => open_.isEmpty && decide (slots ≤ acc)
  | w :: t, acc, open_ =>
    if open_.isEmpty ∧ slots ≤ acc then true
    else if opOf w = 0x0B then routineFits slots t 0 ((ifld w 15 0, acc) :: open_)
    else if opOf w = 0x0C then
      match open_ with
      | [] => routineFits slots t (acc + 1) []
      | (n, before) :: rest => routineFits slots t (before + 2 + n * acc) rest
    else routineFits slots t (acc + 1) open_

/-! ### A bank's contents -/

/-- Every area, in order of press and area. -/
def areas : List (Nat × Nat) := (List.range 4).flatMap (fun p => (List.range 3).map (fun a => (p, a)))

/-- R166's "location". -/
def location (p a i : Nat) : Nat := p * 2 ^ 30 + a * 2 ^ 28 + i

/-- Whether bit `k` of a bitmap of bytes is set. -/
def bitOf (m : Cells 8) (k : Nat) : Bool := (memGet m (k / 8)).getLsbD (k % 8)

/-- Whether a bank's exchange allocation marks press-region word `w` (R146). -/
def exMarked (x : Bank) (w : Nat) : Bool := bitOf x.exAlloc (w - 0x2000)

/-- Whether a bank's coefficient allocation marks word `ca` of press `p` (R141). -/
def coefMarked (x : Bank) (p ca : Nat) : Bool := bitOf x.calloc (65536 * p + ca)

/-- The first instruction of the listed areas that `f` finds bad: its location. -/
def firstInstr (s : State) (b : Nat) (as : List (Nat × Nat)) (f : Nat → Nat → BitVec 64 → Bool) : Option Nat :=
  firstSome (as.map (fun x =>
    let ws := areaWords s b x.1 x.2
    (ws.findIdx? (f x.1 x.2)).map (location x.1 x.2)))

/-- The steady and transition images. -/
def imageAreas : List (Nat × Nat) := areas.filter (fun x => decide (x.2 < 2))

/-! ### The checks (R155) -/

/-- Check 2. -/
def instrFault (s : State) (b : Nat) : Option Nat :=
  firstSome (areas.map (fun x =>
    let ws := areaWords s b x.1 x.2
    let bads := (match ws.findIdx? (instrBad x.1 x.2) with
      | some i => [i]
      | none => []) ++ repFaults ws 0 []
    match bads with
    | [] => none
    | i :: t => some (location x.1 x.2 (t.foldl min i))))

/-- What an area counts for the totals (R151, R166): expanded slots of an image, instructions of a restrike area. -/
def areaTotal (s : State) (b p a : Nat) : Nat :=
  if a < 2 then expanded (areaWords s b p a) 0 [] else areaCount (bankRec s b) p a

/-- Check 3. -/
def slotsFault (s : State) (b : Nat) : Option Nat :=
  let x := bankRec s b
  let lim := if x.pair then 9776 else 10112
  let det := fun (p a n : Nat) => p * 2 ^ 30 + a * 2 ^ 28 + min n 0x0FFFFFFF
  let budget := imageAreas.map (fun y =>
    let n := areaTotal s b y.1 y.2
    if lim < n then some (det y.1 y.2 n) else none)
  let totals := areas.map (fun y =>
    let n := areaTotal s b y.1 y.2
    if n = leAt x.totals (8 * y.1 + 2 * y.2) 2 then none else some (det y.1 y.2 n))
  firstSome (budget ++ totals)

/-- The fields of a sink entry (R144). -/
def sinkX (w : Word) : Nat := w.toNat % 2 ^ 14
def sinkKind (w : Word) : Nat := w.toNat / 2 ^ 14 % 8
def sinkIdx (w : Word) : Nat := w.toNat / 2 ^ 17 % 2 ^ 11
def sinkStages (w : Word) : Nat := w.toNat / 2 ^ 28

/-- The number of sinks of a kind. -/
def sinkMax (k : Nat) : Nat :=
  match k with
  | 1 => 2048
  | 2 => 256
  | 3 => 16
  | 4 => 256
  | 5 => 512
  | _ => 0

/-- Check 4 on sink entries numbered from `i`; `seen` holds the KIND and INDEX pairs so far. -/
def sinksFault (s : State) (x : Bank) : List Word → Nat → List (Nat × Nat) → Option (Nat × Nat)
  | [], _, _ => none
  | w :: t, i, seen =>
    let k := sinkKind w
    let a := sinkX w
    let key := (k, sinkIdx w)
    if k = 0 then sinksFault s x t (i + 1) seen
    else if sinkMax k ≤ sinkIdx w ∨ seen.contains key ∨ (0x0C40 ≤ a ∧ a < 0x2000) ∨
        (k = 5 ∧ !convAssigned s (sinkIdx w) true) then some (0x061E, i)
    else if 0x2000 ≤ a ∧ !exMarked x a then some (0x0620, 2 ^ 31 + i)
    else sinksFault s x t (i + 1) (key :: seen)

/-- An `STX` to a word that the exchange allocation does not mark (R146). -/
def stxUnmarked (x : Bank) (w : BitVec 64) : Bool :=
  opOf w == 0x34 &&
  (List.range (if ifld w 49 49 = 1 then 32 else 1)).any (fun i => !exMarked x (ifld w 13 0 + i))

/-- The listed bits of a byte map, in ascending order, from bit `lo` on, `n` of them. -/
def bitsOf (m : Cells 8) (lo n : Nat) : List Nat :=
  (m.flatMap (fun c => (List.range 8).filterMap (fun k =>
    if c.2.getLsbD k ∧ lo ≤ 8 * c.1 + k ∧ 8 * c.1 + k < lo + n then some (8 * c.1 + k - lo) else none)))

/-- The power-stage part of check 4. -/
def noPscFault (s : State) (x : Bank) : Option Nat :=
  if modelA s then none
  else
    match x.sinks.findIdx? (fun w => sinkKind w == 3) with
    | some i => some i
    | none => (bitsOf x.inputMap 0 3136).find? (fun w => decide (0xC00 ≤ w) && decide (w < 0xC40))

/-- Check 4. -/
def exchangeFault (s : State) (b : Nat) : Option (Nat × Nat) :=
  let x := bankRec s b
  match firstInstr s b imageAreas (fun _ _ w => stxUnmarked x w) with
  | some l => some (0x0620, l)
  | none =>
    match sinksFault s x x.sinks 0 [] with
    | some r => some r
    | none => (noPscFault s x).map (fun d => (0x061F, d))

/-- Check 5: REQUIRED is a subset of USED, and each of its words is sourced (R145). -/
def inputFault (s : State) (b : Nat) : Option Nat :=
  let x := bankRec s b
  (bitsOf x.inputMap 3136 3136).find? (fun w => !bitOf x.inputMap w || !wordSourced s w)

/-- The meter words that an `STM` writes, outside the points in use (R116, R147). -/
def stmOutside (x : Bank) (w : BitVec 64) : Bool :=
  opOf w == 0x37 &&
  (List.range ((if ifld w 49 49 = 1 then 32 else 1) * (if ifld w 43 43 = 1 then 2 else 1))).any (fun i =>
    let a := ifld w 13 0 + i
    decide (16384 ≤ a) || (memGet x.meterMap (a / 4)).toNat % 8 == 0)

/-- Check 6. -/
def meterFault (s : State) (b : Nat) : Option Nat :=
  let x := bankRec s b
  match x.meterMap.find? (fun c => decide (5 ≤ c.2.toNat % 8) || c.2.toNat / 8 % 2 ^ 13 != 0) with
  | some c => some c.1
  | none => firstInstr s b imageAreas (fun _ _ w => stmOutside x w)

/-- The words of a delay block (R126). -/
def blkWords (d : DelayBlk) : Nat := (if d.pk = 1 then 6 else 8) * 2 ^ d.rs

def blkOverlap (d e : DelayBlk) : Bool := decide (d.rb < e.rb + blkWords e) && decide (e.rb < d.rb + blkWords d)

/-- Whether block `i` of a list breaks R148 itself or with an earlier block. -/
def blkBad (l : List DelayBlk) (i : Nat) : Bool :=
  let d := l.getD i ⟨0, 0, 0, 0⟩
  decide (2 ^ 22 ≤ d.rb) || decide (d.rs < 4) || decide (17 < d.rs) || decide (1 < d.pk) || decide (16 ≤ d.presses) ||
  decide (2 ^ 22 < d.rb + blkWords d) || (l.take i).any (blkOverlap d)

/-- A delay access that names no block of its press (R148). -/
def accessBad (l : List DelayBlk) (p : Nat) (w : BitVec 64) : Bool :=
  (opOf w == 0x35 || opOf w == 0x36) &&
  !l.any (fun d => d.rb == ifld w 37 16 && d.rs == ifld w 42 38 && d.pk == ifld w 43 43 && d.presses / 2 ^ p % 2 == 1)

/-- Check 7. -/
def delayFault (s : State) (b : Nat) (run : Option Nat) : Option (Nat × Nat) :=
  let l := (bankRec s b).delays
  match (List.range l.length).find? (blkBad l) with
  | some i => some (0x0623, i)
  | none =>
    match firstInstr s b areas (fun p _ w => accessBad l p w) with
    | some x => some (0x0623, x)
    | none =>
      match run with
      | none => none
      | some r =>
        let m := (bankRec s r).delays
        (l.findIdx? (fun d => !m.any (fun e => e.rb == d.rb && e.rs == d.rs && e.pk == d.pk) && m.any (blkOverlap d))).map
          (fun i => (0x0624, i))

/-- The lanes of a mask. -/
def lanesOf (m : Word) : List Nat := (List.range 32).filter (wbit m)

def Group.accCells (g : Group) : Nat := 4 * (lanesOf (BitVec.ofNat 32 (g.accLa % 16))).length * (lanesOf g.accLanes).length

/-- Whether two groups hold a state word in common; a run of COUNT 0 holds none. -/
def shareWord (g h : Group) : Bool :=
  g.press == h.press && g.runs.any (fun r => h.runs.any (fun q =>
    r.lanes &&& q.lanes != 0 && decide (0 < r.count) && decide (0 < q.count) && decide (r.base < q.base + q.count) && decide (q.base < r.base + r.count)))

/-- Whether two groups hold an accumulator cell in common (R382). -/
def shareCell (g h : Group) : Bool :=
  g.press == h.press && g.accLa &&& h.accLa != 0 && g.accLanes &&& h.accLanes != 0

/-- Whether group `i` breaks R150. -/
def groupBad (s : State) (b : Nat) (l : List Group) (i : Nat) : Bool :=
  match l[i]? with
  | none => false
  | some g =>
    let run := (g.runs.map (fun r => (lanesOf r.lanes).length * r.count)).sum
    let ws := areaWords s b g.press 2
    !(decide (g.press < 4) && (bankRec s b).pressMask / 2 ^ g.press % 2 == 1 && g.words == run &&
      decide (1 ≤ g.words + g.accCells) && decide (g.words + g.accCells ≤ 256) && decide (g.copySlots ≤ 16) &&
      decide (g.loadSlots + 4 * g.passSlots ≤ 320) && g.runs.all (fun r => decide (r.base + r.count ≤ 32768)) &&
      routineFits g.copySlots (ws.drop g.copyAt) 0 [] &&
      routineFits (g.loadSlots + g.passSlots) (ws.drop g.replayAt) 0 []) ||
    (l.take i).any (shareWord g)

/-- The units in proof order: first group and members (R382); an unfinished chain counts as a unit. -/
def unitsOf : List Group → Nat → List (Nat × List Group)
  | [], _ => []
  | g :: t, i =>
    if g.loop then
      match unitsOf t (i + 1) with
      | [] => [(i, [g])]
      | u :: rest => (i, g :: u.2) :: rest
    else (i, [g]) :: unitsOf t (i + 1)

/-- Whether a unit breaks R382; `before` holds the groups of earlier units. -/
def unitBad (before u : List Group) : Bool :=
  !(u.all (fun g => g.press == (u.head?.map (·.press)).getD 0) && decide ((u.map (·.copySlots)).sum ≤ 16) &&
    decide ((u.map (·.loadSlots)).sum + 4 * (u.map (·.passSlots)).sum ≤ 320) &&
    decide ((u.map (·.inputs.length)).sum ≤ 128)) ||
  u.any (fun g => before.any (shareCell g)) ||
  (List.range u.length).any (fun i => (u.take i).any (fun h =>
    match u[i]? with
    | some g => shareCell g h
    | none => false)) ||
  (u.getLast?.map (·.loop)).getD false

/-- Check 8. -/
def groupsArmFault (s : State) (b : Nat) : Option Nat :=
  let l := (bankRec s b).groups
  match (List.range l.length).find? (groupBad s b l) with
  | some i => some i
  | none => ((unitsOf l 0).find? (fun u => unitBad (l.take u.1) u.2)).map (·.1)

/-- The fields of an edge entry (R142). -/
def edgeValid (w : Word) : Bool := w.getLsbD 31
def edgeGhost (w : Word) : Bool := w.getLsbD 30
def edgeCarry (w : Word) : Bool := w.getLsbD 29
def edgePress (w : Word) : Nat := w.toNat / 2 ^ 16 % 4
def edgeAddr (w : Word) : Nat := w.toNat % 2 ^ 16
def edgeWord (w : Word) : Nat := w.toNat % 2 ^ 18

/-- The entry of edge `e` in bank `b`. -/
def edgeOf (s : State) (b e : Nat) : Word := memGet (bankRec s b).edges e

/-- The first edge that breaks R142 or R141. -/
def edgesFault (x : Bank) : Cells 32 → List Nat → Option Nat
  | [], _ => none
  | c :: t, seen =>
    let w := c.2
    if (!edgeValid w && !edgeGhost w) || (edgeValid w && edgeGhost w) || (edgeCarry w && !edgeValid w) ||
        w.toNat / 2 ^ 18 % 2 ^ 11 != 0 || x.pressMask / 2 ^ edgePress w % 2 == 0 || seen.contains (edgeWord w) ||
        !coefMarked x (edgePress w) (edgeAddr w) then some c.1
    else edgesFault x t (edgeWord w :: seen)

/-- What R143 refuses of a new entry `w` against the running bank's entry `r`. -/
def classFault (y : Bank) (force : Bool) (w r : Word) : Option Nat :=
  let same := edgeWord w == edgeWord r
  if edgeValid w then
    if edgeValid r then
      if edgeCarry w then (if same then none else some 0x061C)
      else if same ∨ force then none else some 0x061B
    else if edgeCarry w then some 0x061C
    else if coefMarked y (edgePress w) (edgeAddr w) then some 0x061D
    else none
  else if edgeGhost w then (if edgeValid r ∧ same then none else some 0x061C)
  else none

/-- Check 9. -/
def edgeFault (s : State) (b : Nat) (run : Option Nat) (force : Bool) : Option (Nat × Nat) :=
  let x := bankRec s b
  match edgesFault x x.edges [] with
  | some e => some (0x061A, e)
  | none =>
    match run with
    | none => none
    | some r =>
      let y := bankRec s r
      x.edges.findSome? (fun c => (classFault y force c.2 (memGet y.edges c.1)).map (fun k => (k, c.1)))

/-- Check 10. -/
def totalsFault (x : Bank) : Option Nat :=
  let used := x.sinks.filter (fun w => sinkKind w != 0)
  firstSome
    [bad (leAt x.totals 0x20 2 != (x.edges.filter (fun c => edgeValid c.2)).length) 0x20,
     bad (leAt x.totals 0x22 2 != used.length) 0x22,
     bad (leAt x.totals 0x24 2 != (x.meterMap.filter (fun c => c.2.toNat % 8 != 0)).length) 0x24,
     bad (leAt x.totals 0x26 2 != x.groups.length) 0x26,
     bad (leAt x.totals 0x28 4 != (x.delays.map blkWords).sum) 0x28,
     bad (leAt x.totals 0x2C 1 != (used.map sinkStages).foldl max 0) 0x2C]

/-- The bank that is RUNNING. -/
def runningBank (s : State) : Option Nat := [0, 1].find? (fun b => bankState s b == bkRunning)

/-- The refusal of an arm of bank `b`: code and detail of the first check that fails. -/
def armFault (s : State) (b : Nat) (force : Bool) : Option (Nat × Nat) :=
  let x := bankRec s b
  let run := runningBank s
  firstSome
    [if !x.pair && (roleOf s == roleActive || roleOf s == roleStandby) then some (0x0618, 0) else none,
     (instrFault s b).map (fun d => (0x0616, d)),
     (slotsFault s b).map (fun d => (0x0617, d)),
     exchangeFault s b,
     (inputFault s b).map (fun d => (0x0621, d)),
     (meterFault s b).map (fun d => (0x0622, d)),
     delayFault s b run,
     (groupsArmFault s b).map (fun d => (0x0625, d)),
     edgeFault s b run force,
     (totalsFault x).map (fun d => (0x0626, d)),
     if x.movedFlag && !force then some (0x0619, x.moved.length) else none]

end Sys2Proof.Machine
end

