-- ==== Sys2Proof/Machine/Psc.lean ====
section
/-! DEFINITION. Power stage control (chapter 11): the modulator and the loop, sense readback, over-current, retries, the start
diagnostics, calibration and the channel states. -/

namespace Sys2Proof.Machine

/-! ### Checks and accessors -/

def pscFn (n : Nat) : Nat := 0x30 + n

/-- Log an event of channel `n` (R345). -/
def pscEv (s : State) (n code sev : Nat) (args : List Byte) : State := logEv s code (pscFn n) sev args

/-- Whether this node may drive the power stage: SOLO, WITNESS or ACTIVE, with the guard not acting (R335, R346). -/
def pscDrives (s : State) : Bool :=
  !guarded s && (roleOf s == roleSolo || roleOf s == roleWitness || roleOf s == roleActive)

def pscRunsFast (s : State) (n : Nat) : Bool := isF s (F.PSC_CFG_FSW (pscFn n))

/-- Counts in a switching period (R320). -/
def pscPd (s : State) (n : Nat) : Nat := if pscRunsFast s n then 1280 else 2560

/-- Whether a float is positive and finite. -/
def posFinite (w : Word) : Bool :=
  match cls w with
  | .num neg m _ => !neg && m != 0
  | _ => false

/-- Whether a float is finite. -/
def finite (w : Word) : Bool :=
  match cls w with
  | .num _ _ _ => true
  | _ => false

/-- `a ≤ b` for two words that are not NaN. -/
def leF (a b : Word) : Bool := decide (cmpKey (canon a) ≤ cmpKey (canon b))

/-- The enable check of channel `n` (R340): refusal code and field. -/
def pscCheck (s : State) (n : Nat) : Option (Nat × Nat) :=
  let f := pscFn n
  let scales := [(R.PSC_GAIN f, 4), (R.PSC_VSCALE f, 0x0C), (R.PSC_ISCALE f, 0x10), (R.PSC_PSCALE f, 0x14), (R.PSC_XOVER f, 0x28)]
  let clip := getR s (R.PSC_CLIP f)
  let lo := getF s (F.PSC_PVDD_LIM_PVDD_MIN f)
  let hi := getF s (F.PSC_PVDD_LIM_PVDD_MAX f)
  let win := getF s (F.PSC_OC_OC_WIN f)
  let thr := getF s (F.PSC_OC_OC_THR f)
  let ms := getF s (F.PSC_RETRY_RETRY_MS f)
  let open_ := getF s (F.PSC_DIAG_THR_OPEN_OHM f)
  let short := getF s (F.PSC_DIAG_THR_SHORT_OHM f)
  let same := fun m => m != n && fnState s (pscFn m) != fnDisabled &&
    getF s (F.PSC_CFG_PVDD_SEL (pscFn m)) == getF s (F.PSC_CFG_PVDD_SEL f) &&
    getR s (R.PSC_PSCALE (pscFn m)) != getR s (R.PSC_PSCALE f)
  match scales.find? (fun x => !posFinite (getR s x.1)) with
  | some x => some (0x0720, x.2)
  | none =>
    if !(posFinite clip) || !(leF clip 0x3F800000) then some (0x0721, 8)
    else if lo < 24 ∨ 150 < hi ∨ hi ≤ lo then some (0x0722, 0x18)
    else if (List.range 16).any same then some (0x0723, 0x14)
    else if win < 16 ∨ 1024 < win ∨ thr = 0 ∨ win < thr then some (0x0724, 0x1C)
    else if 60 < getF s (F.PSC_CFG_OC_FILT f) then some (0x0724, 0)
    else if ms < 10 ∨ 2000 < ms then some (0x0725, 0x20)
    else if open_ < 100 ∨ 10000 < open_ ∨ short < 5 ∨ 80 < short then some (0x0726, 0x24)
    else if 200 < getF s (F.PSC_CFG_MIN_PULSE f) then some (0x0727, 0)
    else ((List.range 12).find? (fun j => !finite (getR s (R.PSC_LOOP f j)))).map (fun j => (0x0728, 0x30 + 4 * j))

/-! ### Queueing and failed retries (R332, R333) -/

/-- Put a channel into the queue of the diagnostic sequencer. -/
def pscQueue (s : State) (n : Nat) : State :=
  let s := setPsc s n { pscCh s n with began := s.sctr.toNat }
  { pscSetState s n psQueued with psc := { (pscSetState s n psQueued).psc with queue := s.psc.queue ++ [n] } }

/-- The failed retries of channel `n` that began within the last 60 s (5,760,000 sp). -/
def recentFails (s : State) (n : Nat) : List Nat := (pscCh s n).fails.filter (fun t => decide (s.sctr.toNat < t + 5760000))

/-- Bring `PSC_STAT.RETRIES` up to date: failures of more than 60 s ago leave it (R341). -/
def pscRetries (s : State) (n : Nat) : State :=
  let l := recentFails s n
  setF (setPsc s n { pscCh s n with fails := l }) (F.PSC_STAT_RETRIES n) (min l.length 15)

/-- A retry of channel `n` failed: it waits for the next, or latches at eight (R332). -/
def pscFailed (s : State) (n : Nat) (counted : Bool) : State :=
  let x := pscCh s n
  let s := setPsc s n { x with fails := if counted then x.began :: x.fails else x.fails, waitFrom := s.sctr.toNat, passedAt := none }
  let s := pscRetries s n
  if 8 ≤ (pscCh s n).fails.length then
    setFault (pscEv (pscSetState s n psLatched) n 0x0763 sevCritical []) 7 19
  else pscSetState s n psShutdown

/-- The channels of a group. -/
def groupChans (g : Nat) : List Nat := (List.range 4).map (fun j => 4 * g + j)

/-- Whether a channel drives the bridge. -/
def pscActive (s : State) (n : Nat) : Bool :=
  pscState s n == psFadeIn || pscState s n == psRunning || pscState s n == psPvddHold || pscState s n == psStopping

/-- Enter FADE_IN; the group enable stays as it is (R326). -/
def pscFadeIn (s : State) (n : Nat) : State :=
  setPsc (pscSetState s n psFadeIn) n { pscCh s n with fade := 0, dark := false }

/-- Enter FADE_IN, the group enable asserted (R335). -/
def pscFade (s : State) (n : Nat) : State := setAmpEn (pscFadeIn s n) (n / 4) true

/-- The function of channel `n` is enabled (R335). A load diagnostic or a calibration that it is in goes on: the first counts as its start
diagnostics, after the second it is queued. -/
def pscEnable (s : State) (n : Nat) : State :=
  let x := pscCh s n
  if pscState s n = psCal then setPsc s n { x with calBack := if pscDrives s then psQueued else psObserving }
  else if pscState s n = psQueued ∨ pscState s n = psDiag then
    setPsc s n { x with back := if pscDrives s then none else some psObserving, began := s.sctr.toNat }
  else if pscState s n ≠ psOff then s
  else
    let s := setPsc s n { PscCh.reset with fails := x.fails }
    if !pscDrives s then pscSetState s n psObserving
    else if isF s (F.PSC_CFG_DIAG_EN (pscFn n)) then pscQueue s n
    else pscFade s n

/-- Whether the legs of channel `n` switch: it fades in or plays. -/
def legsPlay (s : State) (n : Nat) : Bool := pscState s n == psFadeIn || pscState s n == psRunning

/-- ENABLE of channel `n` is written 0 (R335): where its legs do not switch, they stay low through the fade-out (log entry 60). -/
def pscStop (s : State) (n : Nat) : State :=
  let s := { s with psc := { s.psc with queue := s.psc.queue.filter (· != n) } }
  let s := match s.psc.test with
    | some (l, passive) =>
      if l.contains n then
        let rest := l.filter (· != n)
        setF { s with psc := { s.psc with test := if rest.isEmpty then none else some (rest, passive) } } (F.PSC_STAT_DIAG_RESULT n) 7
      else s
    | none => s
  setPsc (pscSetState s n psStopping) n { pscCh s n with fade := 0, back := none, dark := !legsPlay s n }

/-- Whether channel `n` observes, or calibrates between two spells of observing (R337). -/
def pscWatches (s : State) (n : Nat) : Bool :=
  pscState s n == psObserving || (pscState s n == psCal && (pscCh s n).calBack == psObserving)

/-- The driving role is granted: channel `n`, an observer, resumes or is queued; one in a calibration is queued after it (R337). -/
def pscResume (s : State) (n : Nat) : State :=
  if !pscWatches s n then s
  else
    let x := pscCh s n
    let cal := pscState s n == psCal
    let live := match x.seenAt with
      | some t => !cal && decide (s.sctr.toNat ≤ t + 1)
      | none => false
    let s := pscRetries (setPsc s n { x with fails := [], fade := 32, passedAt := none, retrying := false }) n
    let s := if live then setAmpEn (pscSetState s n psRunning) (n / 4) true
      else if cal then setPsc s n { pscCh s n with calBack := psQueued }
      else pscQueue s n
    pscEv s n 0x076C sevNotice (le 1 (if live then 0 else 1))

/-- The driving role is granted: a running passive test is aborted (R334), and every observer goes on. -/
def pscGrant (s : State) : State := (List.range 16).foldl pscResume (pscAbort s)

/-! ### The input at a boundary (R323, R324) -/

/-- An sp of channel `n` is clipped: counted once, and logged after a quiet second (96,000 sp, R323). -/
def pscClipped (s : State) (n : Nat) : State :=
  let x := pscCh s n
  if x.clipSp then s
  else
    let quiet := match x.clipAt with
      | some t => decide (t + 96000 ≤ s.sctr.toNat)
      | none => true
    let s := setFault (bump (setPsc s n { x with clipSp := true, clipAt := some s.sctr.toNat }) (R.PSC_CLIP_CNT n)) 7 18
    if quiet then pscEv s n 0x0768 sevWarning [] else s

/-- The clip guard (R323): the guarded input, and whether it clamped. -/
def clipGuard (x clip : Word) : Word × Bool :=
  let x := if isNan x then 0 else canon x
  let m := x &&& 0x7FFFFFFF
  if cmpKey (canon clip) < cmpKey m then ((clip &&& 0x7FFFFFFF) ||| (x &&& 0x80000000), true) else (x, false)

/-- The channel input of the boundary: the sink's value and the Drypoint's, faded (R208, R273, R323, R335). -/
def pscInput (s : State) (n : Nat) : Word × PscCh :=
  let x := pscCh s n
  let sink := memGet s.dsp.sinkVals (4096 * 3 + n)
  let v := match s.conv.dpPsc.find? (fun d => d.1 == s.sctr.toNat && d.2.1 == n) with
    | some d => (fadd sink d.2.2).w
    | none => sink
  let st := pscState s n
  if st = psFadeIn then
    let k := min 32 (x.fade + 1)
    (if k = 32 then v else (fmul v (intF (k : Int) (-5))).w, { x with fade := k, held := v })
  else if st = psStopping then
    let k := min 32 (x.fade + 1)
    (if k = 32 then 0 else (fmul x.held (intF (32 - (k : Int)) (-5))).w, { x with fade := k })
  else (v, { x with held := v })

/-- Channel `n` takes its input at a boundary: the flags of the sp that ended and the failed retries are shown, and a new target voltage
enters the interpolator. -/
def pscTake (s : State) (n : Nat) : State :=
  let x := pscCh s n
  let s := putF (putF s (F.PSC_STAT_LIMITED n) x.limSp) (F.PSC_STAT_CLIPPED n) x.clipSp
  let s := pscRetries (setPsc s n { x with limSp := false, clipSp := false }) n
  if pscState s n = psOff then s
  else
    let (v, x) := pscInput s n
    let (v, clipped) := clipGuard v (getR s (R.PSC_CLIP (pscFn n)))
    let r := (fmul v (getR s (R.PSC_GAIN (pscFn n)))).w
    let s := setPsc s n { x with hist := (r :: x.hist).take 3 }
    if clipped then pscClipped s n else s

/-- Every channel takes its input; Drypoint values of past boundaries are dropped. -/
def pscInputs (s : State) : State :=
  let s := (List.range 16).foldl pscTake s
  { s with conv := { s.conv with dpPsc := s.conv.dpPsc.filter (fun d => decide (s.sctr.toNat < d.1)) } }

/-! ### Sense readback (R325, R327) -/

def mulF (a b : Word) : Word := (fmul a b).w
def addF (a b : Word) : Word := (fadd a b).w
def subF (a b : Word) : Word := (fsub a b).w

/-- The scaled voltage, current and supply of ball volts (R325). -/
def senseOf (s : State) (n : Nat) (v i p : Word) : Word × Word × Word :=
  let f := pscFn n
  (mulF (mulF (getR s (R.PSC_VSCALE f)) (getR s (R.PSC_CAL_V_GAIN n))) (subF v (getR s (R.PSC_CAL_V_OFS n))),
   mulF (mulF (getR s (R.PSC_ISCALE f)) (getR s (R.PSC_CAL_I_GAIN n))) (subF i (getR s (R.PSC_CAL_I_OFS n))),
   mulF (getR s (R.PSC_PSCALE f)) p)

/-- The status word of R327: the highest that applies. -/
def pscStatus (s : State) (n : Nat) : Word :=
  let x := pscCh s n
  let st := pscState s n
  if st = psLatched then 0x40C00000
  else if st = psShutdown then 0x40A00000
  else if st = psQueued ∨ st = psDiag ∨ st = psPvddHold ∨ st = psGroupHold ∨ st = psCal then 0x40800000
  else if x.clipSp then 0x40400000
  else if x.limSp then 0x40000000
  else if st = psOff then 0
  else 0x3F800000

/-- At a boundary the readback of every enabled channel is decided for the sp that ended (R327). -/
def senseDecide (s : State) : State :=
  (List.range 16).foldl (fun s n =>
    if fnState s (pscFn n) = fnDisabled then s
    else
      let x := pscCh s n
      decidePq s s.sctr.toNat (.sense (Fin.ofNat 16 n) x.sense.1 x.sense.2.1 x.sense.2.2 (pscStatus s n))) s

/-- A readback applies at the coming boundary: its words are staged for the sp that begins (R327). -/
def applySense (s : State) (n : Nat) (w : List Word) : State :=
  if fnState s (pscFn n) = fnDisabled then s
  else { s with dsp := { s.dsp with staging := memSetList s.dsp.staging (0xC00 + 4 * n) w } }

/-- A disabled channel's words read +0.0 (R16, R327). -/
def senseClear (s : State) (n : Nat) : State :=
  { s with dsp := { s.dsp with staging := memSetList s.dsp.staging (0xC00 + 4 * n) [0, 0, 0, 0] } }

/-! ### The loop and the modulator (R321, R322, R324, R328) -/

/-- The reference in period `k` of the sp (R324): a linear-phase interpolator whose response is symmetric about its group delay of 1 sp,
8 or 4 periods, so that it spans three target voltages, newest first; summed exactly and rounded once (log entry 13). -/
def pscRef (fast : Bool) (k : Nat) (hist : List Word) : Word :=
  let l := if fast then 8 else 4
  let tap := fun (j : Nat) => if 2 * l < l * j + k then 0 else Config.pscTap fast (max (l * j + k) l - min (l * j + k) l)
  dot ((List.range 3).map (fun j => (hist.getD j 0, tap j)))

/-- `m · 2^e` in units of 2^-149. -/
def fixed149 (w : Word) : Int :=
  match cls w with
  | .num neg m e => signed neg m * 2 ^ (e + 149).toNat
  | _ => 0

/-- A number in units of 2^-149 rounded to nearest, ties to even. -/
def roundEven149 (x : Int) : Int :=
  let q := x / 2 ^ 149
  let r := x % 2 ^ 149
  if 2 ^ 149 < 2 * r ∨ (2 * r = 2 ^ 149 ∧ q % 2 = 1) then q + 1 else q

/-- dmax of R322. -/
def pscDmax (s : State) (n : Nat) : Word :=
  let pd := pscPd s n
  let m := getF s (F.PSC_CFG_MIN_PULSE (pscFn n))
  if pd ≤ 2 * m then 0 else ratioF false (pd - 2 * m) pd 0

/-- The loop of one period (R328): the new state, d, and whether d was clamped. -/
def pscLoop (s : State) (n : Nat) (x : PscCh) (r v i p : Word) : PscCh × Word × Bool :=
  let c := fun j => getR s (R.PSC_LOOP (pscFn n) j)
  let t := getR s (R.PSC_LOOP_TRIM n)
  let e := subF r v
  let s1 := subF (subF (mulF t (addF (addF (mulF (c 0) e) (mulF (c 1) x.e1)) (mulF (c 2) x.e2))) (mulF (c 3) x.s1a)) (mulF (c 4) x.s1b)
  let s2 := subF (subF (addF (addF (mulF (c 5) s1) (mulF (c 6) x.s1a)) (mulF (c 7) x.s1b)) (mulF (c 8) x.s2a)) (mulF (c 9) x.s2b)
  let u := subF (addF (mulF (c 10) r) s2) (mulF (c 11) i)
  let d := fdiv u p
  let dmax := pscDmax s n
  let clip := !isNan d && decide (cmpKey dmax < cmpKey (d &&& 0x7FFFFFFF))
  let d' := if clip then dmax ||| (d &&& 0x80000000) else d
  let s2' := if clip then addF (subF (mulF d' p) (mulF (c 10) r)) (mulF (c 11) i) else s2
  ({ x with e2 := x.e1, e1 := e, s1b := x.s1a, s1a := s1, s2b := x.s2a, s2a := s2' }, d', clip)

/-- The ideal high time of leg A in units of 2^-149 counts (R321); a duty that is no number leaves it open (log entry 18). -/
def highTime (s : State) (n : Nat) (d : Word) : Int :=
  if isNan d then ((Config.freeWord s.free).toNat % (pscPd s n + 1) : Nat) * 2 ^ 149
  else ((pscPd s n / 2 : Nat) : Int) * (2 ^ 149 + fixed149 d)

/-- The modulator (R321): the rounded high time, and the channel with its new error. -/
def modulate (x : PscCh) (w : Int) : Int × PscCh :=
  let y := w + 2 * x.q1 - x.q2
  let wq := roundEven149 y
  (wq, { x with q2 := x.q1, q1 := y - wq * 2 ^ 149 })

/-- A period is limited (R330). -/
def pscLimit (s : State) (n : Nat) : State :=
  let x := pscCh s n
  if x.limNow then s
  else
    let quiet := match x.limAt with
      | some t => decide (t + 96000 ≤ s.sctr.toNat)
      | none => true
    let s := bump (setPsc s n { x with limNow := true, limSp := true, limAt := some s.sctr.toNat }) (R.PSC_LIMIT_CNT n)
    if quiet then pscEv s n 0x0760 sevWarning [] else s

/-- The supply register's field for input `m`. -/
def pvddField (m : Nat) : Fld := if m = 0 then F.PVDD_STAT_PVDD0 else F.PVDD_STAT_PVDD1

/-- A float as a whole number of at most 16 bits, rounded to nearest, ties to even; below zero it is 0 (log entry 60). -/
def whole16 (w : Word) : Nat :=
  match cls w with
  | .num false m e => min 65535 (if 0 ≤ e then m * 2 ^ (min e.toNat 64) else rne m e.natAbs)
  | .inf false => 65535
  | _ => 0

/-- A supply in V as a number of 10 mV steps. -/
def centivolts (p : Word) : Nat := whole16 (mulF p 0x42C80000)

/-- A resistance in Ω as a number of 0.1 Ω steps; where v and i are both zero it is open (log entry 60). -/
def tenths (z : Word) : Nat := if isNan z then 65535 else whole16 (mulF z 0x41200000)

/-- The period before has ended: it joins the window of R331. -/
def endPeriod (s : State) (n : Nat) (x : PscCh) : PscCh :=
  { x with win := (x.limNow :: x.win).take (getF s (F.PSC_OC_OC_WIN (pscFn n)) - 1), limNow := false }

/-- Whether the enabled channel `n` selects input `m`. -/
def pscOn (s : State) (m n : Nat) : Bool :=
  fnState s (pscFn n) != fnDisabled && getF s (F.PSC_CFG_PVDD_SEL (pscFn n)) == m

/-- The supply of channel `n` at ball volts `volts` against its limits: 0 within, 1 under, 2 over (R326). -/
def pvddSide (s : State) (n : Nat) (volts : Word) : Nat :=
  let p := (senseOf s n 0 0 volts).2.2
  if isNan p || !(leF (natF (getF s (F.PSC_PVDD_LIM_PVDD_MIN (pscFn n)))) p) then 1
  else if !(leF p (natF (getF s (F.PSC_PVDD_LIM_PVDD_MAX (pscFn n))))) then 2
  else 0

/-- Both legs of channel `n` go low where it is in state `st`. -/
def legsLowIf (s : State) (n st : Nat) : State := if pscState s n = st then emit s (.pwm n none) else s

/-- Put channel `n` into PVDD_HOLD if it plays, both legs low; its supply is outside its limits now (R326). -/
def pvddHold (s : State) (n : Nat) : State :=
  let s := setPsc s n { pscCh s n with outAt := some s.sctr.toNat }
  if legsPlay s n then pscSetState s n psPvddHold else s

/-- What the converters give in a period: the readback, the supply shown, the supply against the limits on an input that has failed, and
what an observer sees. -/
def takeSense (s : State) (n : Nat) (x : PwmSense) : State :=
  let y := pscCh s n
  let y := match x.slow with
    | some (v, i, p) => { y with sense := senseOf s n v i p }
    | none => y
  let s := setPsc s n (if x.seen then { y with seenAt := some s.sctr.toNat } else y)
  let m := getF s (F.PSC_CFG_PVDD_SEL (pscFn n))
  if !pscOn s m n then s
  else
    let s := setF s (pvddField m) (centivolts (senseOf s n x.v x.i x.p).2.2)
    if s.psc.pvddOut.getD m false && pvddSide s n x.p != 0 then pvddHold s n else s

/-- The background offset tracking (R329). -/
def trackOffsets (s : State) (n : Nat) (x : PwmSense) : State :=
  match x.track with
  | some (v, i) => setR (setR s (R.PSC_CAL_V_OFS n) v) (R.PSC_CAL_I_OFS n) i
  | none => s

/-- Whether the loop of channel `n` runs: while it drives the bridge or observes it, in a passive test too (R328, R336, R338). -/
def pscLooping (s : State) (n : Nat) : Bool :=
  let st := pscState s n
  st == psFadeIn || st == psRunning || st == psStopping || st == psObserving ||
    ((st == psQueued || st == psDiag) && (pscCh s n).back == some psObserving)

/-- The count after the sp boundary at which period `k` of channel `n` begins (R320). -/
def periodStart (s : State) (n k : Nat) : Nat := pscPd s n * k + getF s (F.PSC_CFG_PHASE (pscFn n)) * pscPd s n / 16

/-- The legs of channel `n` in period `k` for a duty: where `AMPn_OC_N` is asserted the period is limited from its first count
(R321, R330). -/
def switchLegs (s : State) (n k : Nat) (d : Word) (oc : Bool) : State :=
  let (wq, y) := modulate (pscCh s n) (highTime s n d)
  let s := setPsc (if isNan d then nextFree s else s) n y
  if oc then emit (pscLimit s n) (.pwm n none)
  else emit s (.pwm n (some (periodStart s n k + (((pscPd s n : Int) - wq) / 2).toNat, wq.toNat)))

/-- The modulator alone, on a channel that does not switch its legs. -/
def trackLegs (s : State) (n : Nat) (d : Word) : State :=
  let y := (modulate (pscCh s n) (highTime s n d)).2
  setPsc (if isNan d then nextFree s else s) n y

/-- Both legs low, where this node drives the balls of channel `n` at all. -/
def legsLow (s : State) (n : Nat) : State :=
  if pscDrives s && pscState s n != psObserving then emit s (.pwm n none) else s

/-- A period of a channel whose loop runs (R328): it switches the legs of a channel that plays or fades out with its bridge. -/
def loopPeriod (s : State) (n k : Nat) (x : PwmSense) : State :=
  let (v, c, p) := senseOf s n x.v x.i x.p
  let (y, d, clip) := pscLoop s n (pscCh s n) (pscRef (pscRunsFast s n) k (pscCh s n).hist) v c p
  let s := setPsc s n y
  let s := if clip then pscClipped s n else s
  if pscDrives s && (legsPlay s n || (pscState s n == psStopping && !(pscCh s n).dark)) then switchLegs s n k d x.oc
  else trackLegs (legsLow s n) n d

/-! ### The legs in a test (R329, R334) -/

/-- The phase of the running test: 0 the supply check, 1 short to ground, 2 short to supply, 3 the tone's ramp up, 4 the impedance, 5 its
ramp down, 6 the results (R334). -/
def testPhase (s : State) : Nat :=
  let t := s.sctr.toNat - s.psc.testAt
  if t < 192 then 0 else if t < 576 then 1 else if t < 960 then 2 else if t < 1152 then 3
  else if t < 3456 then 4 else if t < 3648 then 5 else 6

/-- The code of an over-current or an excess current in the running phase (R334). -/
def shortCode (s : State) (oc : Bool) : Option Nat :=
  match testPhase s with
  | 1 => some 2
  | 2 => some 3
  | 3 => if oc then some 5 else none
  | _ => none

/-- The first test that channel `n` fails ends its own test (R334). -/
def testFails (s : State) (n code : Nat) : State :=
  if (pscCh s n).failed.isSome then s else setPsc s n { pscCh s n with failed := some code }

/-- Whether a current of `i` A exceeds a part of the full scale of 100 mV at the balls (R318, R334, R338). -/
def excess (s : State) (n : Nat) (i part : Word) : Bool :=
  !isNan i && !(leF (i &&& 0x7FFFFFFF) (mulF (getR s (R.PSC_ISCALE (pscFn n))) part))

/-- What a period of a test finds on channel `n`. -/
def testSense (s : State) (n : Nat) (x : PwmSense) : State :=
  if testPhase s = 0 then (if pvddSide s n x.p ≠ 0 then testFails s n 6 else s)
  else
    match shortCode s x.oc with
    | some c => if x.oc || excess s n (senseOf s n x.v x.i x.p).2.1 0x3C23D70A then testFails s n c else s
    | none => s

/-- A tone of `num / den` V peak at `freq` across the load, its sample `j` (R329, R334). -/
def toneLegs (s : State) (n k : Nat) (freq : Word) (j num den : Nat) (x : PwmSense) : State :=
  let v := mulF (ratioF false (min num den) den 0) (Config.sine freq (pscRunsFast s n) j)
  let d := fdiv v (senseOf s n x.v x.i x.p).2.2
  let dmax := pscDmax s n
  switchLegs s n k (if !isNan d && decide (cmpKey dmax < cmpKey (d &&& 0x7FFFFFFF)) then dmax ||| (d &&& 0x80000000) else d) x.oc

/-- The pulses of 2 µs every 100 µs, 1,966 of 98,304 counts, as far as they lie in the period that begins at count `c` of the phase: the
first count in the period, and how many (R334). -/
def pulseIn (c pd : Nat) : Option (Nat × Nat) :=
  let u := c % 98304
  if u < 1966 then some (0, min pd (1966 - u))
  else if 98304 < u + pd then some (98304 - u, min (u + pd - 98304) 1966)
  else none

/-- A period of channel `n` under test (R334). -/
def testPeriod (s : State) (n k : Nat) (x : PwmSense) : State :=
  let s := testSense s n x
  let t := s.sctr.toNat - s.psc.testAt
  let per := if pscRunsFast s n then 8 else 4
  let tone := fun (num : Nat) => toneLegs s n k 0x44FA0000 ((t - 960) * per + k) num 192 x
  if (pscCh s n).failed.isSome then emit s (.pwm n none)
  else
    match testPhase s with
    | 1 =>
      match pulseIn ((t - 192) * 10240 + pscPd s n * k) (pscPd s n) with
      | some (a, w) => emit s (.bothHigh n (periodStart s n k + a) w)
      | none => emit s (.pwm n none)
    | 3 => tone (t - 959)
    | 4 => tone 192
    | 5 => tone (3647 - t)
    | _ => emit s (.pwm n none)

/-- Whether channel `n` drives the trim tone of a calibration: mode 2, in the 10 ms after the sense calibration, on a node that drives
(R329). -/
def calTone (s : State) (n : Nat) : Bool :=
  let x := pscCh s n
  pscState s n == psCal && x.calMode == 2 && pscDrives s &&
    decide (x.calAt + 960 ≤ s.sctr.toNat) && decide (s.sctr.toNat < x.calAt + 1920)

/-- A period of a channel whose loop does not run. -/
def idlePeriod (s : State) (n k : Nat) (x : PwmSense) : State :=
  if pscState s n = psDiag ∧ pscDrives s then testPeriod s n k x
  else if calTone s n then
    let s := if s.psc.en.getD (n / 4) false then s else setAmpEn s (n / 4) true
    let per := if pscRunsFast s n then 8 else 4
    toneLegs s n k (getR s (R.PSC_XOVER (pscFn n))) ((s.sctr.toNat - (pscCh s n).calAt - 960) * per + k) 1 1 x
  else legsLow s n

def execPwmPeriod (n : Fin 16) (k : Fin 8) (x : PwmSense) (s : State) : Host.Outcome State Fault Refusal :=
  let i := n.val
  if !pscRunsFast s i ∧ 4 ≤ k.val then .next s
  else
    let s := trackOffsets s i x
    if pscState s i = psOff then .next s
    else
      let s := takeSense (setPsc s i (endPeriod s i (pscCh s i))) i x
      .next (if pscLooping s i then loopPeriod s i k x else idlePeriod s i k x)

/-- Whether the legs of channel `n` switch in the running period. -/
def legsSwitch (s : State) (n : Nat) : Bool :=
  pscDrives s && (legsPlay s n || (pscState s n == psStopping && !(pscCh s n).dark) || pscState s n == psDiag || calTone s n)

def execOverCurrent (n : Fin 16) (s : State) : Host.Outcome State Fault Refusal :=
  let i := n.val
  if !legsSwitch s i then .next s
  else
    let s := emit (pscLimit s i) (.pwm i none)
    if pscState s i = psDiag then
      .next (match shortCode s true with
        | some c => testFails s i c
        | none => s)
    else .next s

/-! ### Shutdown and retry (R331, R332) -/

/-- The limited periods among the last OC_WIN, the running one included. -/
def limitedCount (x : PscCh) : Nat := ((x.limNow :: x.win).filter id).length

/-- Channel `n` shuts down, with its group if SHUT_GROUP is set (R331). -/
def pscShut (s : State) (n : Nat) : State :=
  let x := pscCh s n
  let s := setPsc s n { x with limNow := false, win := [] }
  let s := if isF s (F.PSC_CFG_SHUT_GROUP (pscFn n)) then
      (groupChans (n / 4)).foldl (fun s m =>
        if m ≠ n ∧ (pscState s m = psFadeIn ∨ pscState s m = psRunning) then
          emit (pscSetState s m psGroupHold) (.pwm m none)
        else s) (setAmpEn s (n / 4) false)
    else s
  let s := setFault (bump s (R.PSC_SHUT_CNT n)) 7 n
  let s := pscEv (emit s (.pwm n none)) n 0x0761 sevError (le 1 1)
  let again := match x.passedAt with
    | some t => decide (s.sctr.toNat < t + 5760000)
    | none => false
  pscFailed s n again

def execPscShutdown (n : Fin 16) (s : State) : Host.Outcome State Fault Refusal :=
  let st := pscState s n.val
  if (st = psFadeIn ∨ st = psRunning) ∧ getF s (F.PSC_OC_OC_THR (pscFn n.val)) ≤ limitedCount (pscCh s n.val) then
    .next (pscShut s n.val)
  else .next s

def execPscRetry (n : Fin 16) (s : State) : Host.Outcome State Fault Refusal :=
  let i := n.val
  if pscState s i = psShutdown ∧ pscDrives s ∧
    (pscCh s i).waitFrom + 96 * getF s (F.PSC_RETRY_RETRY_MS (pscFn i)) ≤ s.sctr.toNat then
    let s := pscRetries s i
    let s := pscEv s i 0x0762 sevNotice (le 1 (recentFails s i).length)
    let s := pscQueue (setPsc s i { pscCh s i with retrying := true }) i
    .next ((groupChans (i / 4)).foldl (fun s m => if pscState s m = psGroupHold then pscQueue s m else s) s)
  else .next s

/-! ### Start diagnostics (R333, R334, R338) -/

/-- The unit that channel `n` belongs to at its turn (R333). -/
def diagUnit (s : State) (n : Nat) : List Nat :=
  if s.psc.en.getD (n / 4) false then [n]
  else (groupChans (n / 4)).filter (fun m => m == n || s.psc.queue.contains m || pscState s m == psGroupHold)

def execDiagTestStart (s : State) : Host.Outcome State Fault Refusal :=
  match s.psc.test, s.psc.queue with
  | none, n :: _ =>
    let passive := !pscDrives s
    let unit := if passive then [n] else diagUnit s n
    let s := unit.foldl (fun s m => if s.psc.queue.contains m then s else setPsc s m { pscCh s m with began := s.sctr.toNat }) s
    let s := { s with psc := { s.psc with queue := s.psc.queue.filter (fun m => !unit.contains m), test := some (unit, passive),
                                          testAt := s.sctr.toNat } }
    let s := unit.foldl (fun s m => pscSetState (setPsc s m { pscCh s m with failed := none }) m psDiag) s
    .next (if passive then s else setAmpEn s (n / 4) true)
  | _, _ => .next s

/-- |Z| in 0.1 Ω from the magnitudes of the demodulated ball volts, saturating (R334, R341). -/
def loadZ (s : State) (n : Nat) (o : DiagObs) : Nat :=
  let f := pscFn n
  let v := mulF (mulF (getR s (R.PSC_VSCALE f)) (getR s (R.PSC_CAL_V_GAIN n))) o.v
  let i := mulF (mulF (getR s (R.PSC_ISCALE f)) (getR s (R.PSC_CAL_I_GAIN n))) o.i
  tenths (fdiv (v &&& 0x7FFFFFFF) (i &&& 0x7FFFFFFF))

/-- Whether a passive test has a signal: |i| exceeds 1 % of full scale (R338). -/
def loadSignal (s : State) (n : Nat) (o : DiagObs) : Bool :=
  excess s n (mulF (mulF (getR s (R.PSC_ISCALE (pscFn n))) (getR s (R.PSC_CAL_I_GAIN n))) o.i) 0x3A83126F

/-- The result code of a channel's test, and the |Z| with it (R334, R338). -/
def diagResult (s : State) (n : Nat) (o : DiagObs) (passive : Bool) : Nat × Nat :=
  let open_ := getF s (F.PSC_DIAG_THR_OPEN_OHM (pscFn n))
  let short := getF s (F.PSC_DIAG_THR_SHORT_OHM (pscFn n))
  let z := loadZ s n o
  let byZ := if open_ < z then 4 else if z < short then 5 else 1
  if passive then (if loadSignal s n o then (byZ, z) else (0, 0))
  else
    match (pscCh s n).failed with
    | some c => (c, 0)
    | none => (byZ, z)

/-- Channel `n` passes or fails its test (R334); a retry that passes is remembered (R332). -/
def diagPost (s : State) (n : Nat) (o : DiagObs) (passive : Bool) : State :=
  let (code, z) := diagResult s n o passive
  let s := setF s (F.PSC_STAT_DIAG_RESULT n) code
  let s := if code = 6 ∨ code = 2 ∨ code = 3 ∨ code = 0 then s else setF s (F.PSC_DIAG_Z_Z n) z
  let s := if code = 1 then pscEv s n 0x0764 sevInfo (le 2 z)
    else if code = 0 then s
    else setFault (pscEv s n 0x0765 sevError (le 1 code ++ le 2 z)) 7 n
  let x := pscCh s n
  match x.back with
  | some st => setPsc (pscSetState s n st) n { x with back := none }
  | none =>
    let s := setPsc s n { x with retrying := false }
    if code = 1 then
      pscFade (setPsc s n { pscCh s n with passedAt := if x.retrying then some s.sctr.toNat else none }) n
    else pscFailed s n true

/-! ### Supplies (R326) -/

/-- The lowest enabled channel on input `m` (R345). -/
def pvddSource (s : State) (m : Nat) : Nat := ((List.range 16).find? (pscOn s m)).getD 0

/-- The supply of input `m` in ball volts is shown as the channel `n` scales it (R341). -/
def showPvdd (s : State) (m n : Nat) (volts : Word) : State :=
  setF s (pvddField m) (centivolts (senseOf s n 0 0 volts).2.2)

/-- Mark whether supply input `m` is outside the limits of a channel. -/
def setPvddOut (s : State) (m : Nat) (out : Bool) : State :=
  { s with psc := { s.psc with pvddOut := s.psc.pvddOut.setIfInBounds m out } }

def execPscPvddFault (m : Fin 2) (volts : Word) (s : State) : Host.Outcome State Fault Refusal :=
  let out := (List.range 16).filter (fun n => pscOn s m.val n && pvddSide s n volts != 0)
  match out with
  | [] => .next s
  | n :: _ =>
    let side := pvddSide s n volts
    let was := s.psc.pvddOut.getD m false
    let s := setPvddOut (showPvdd s m n volts) m true
    let s := if was then s
      else setFault (pscEv s (pvddSource s m.val) 0x0766 sevError (le 1 m.val ++ le 1 side)) 7 (16 + m.val)
    .next (out.foldl (fun s n => legsLowIf (pvddHold s n) n psPvddHold) s)

/-- Whether the supply of channel `n` has been seen within its limits for 10 ms (R326). -/
def pvddSettled (s : State) (n : Nat) : Bool :=
  match (pscCh s n).outAt with
  | some t => decide (t + 960 ≤ s.sctr.toNat)
  | none => true

/-- Supply input `m` within limits: the channels it held fade in again, the group enable as it is; the input itself has returned when it is
within the limits of every enabled channel on it (R326). -/
def execPscPvddOk (m : Fin 2) (volts : Word) (s : State) : Host.Outcome State Fault Refusal :=
  let on := (List.range 16).filter (pscOn s m.val)
  let ok := fun (n : Nat) => pvddSide s n volts == 0 && pvddSettled s n
  let back := on.filter (fun n => pscState s n == psPvddHold && ok n)
  let s := match on with
    | n :: _ => if on.any ok then showPvdd s m n volts else s
    | [] => s
  let s := if s.psc.pvddOut.getD m false && on.all ok then
      pscEv (setPvddOut s m false) (pvddSource s m.val) 0x0767 sevNotice (le 1 m.val)
    else s
  .next (back.foldl pscFadeIn s)

/-- Whether channel `n` needs its group enable: it drives, is held with its enable on, is under test or in the trim tone. -/
def pscUses (s : State) (n : Nat) : Bool := pscActive s n || pscState s n == psDiag || calTone s n

def execPscFadeInDone (n : Fin 16) (s : State) : Host.Outcome State Fault Refusal :=
  if pscState s n.val = psFadeIn ∧ 32 ≤ (pscCh s n.val).fade then .next (pscSetState s n.val psRunning) else .next s

def execPscStopDone (n : Fin 16) (s : State) : Host.Outcome State Fault Refusal :=
  let i := n.val
  if pscState s i = psStopping ∧ 32 ≤ (pscCh s i).fade then
    let s := senseClear (pscSetState s i psOff) i
    let s := if pscDrives s then emit s (.pwm i none) else s
    let s := if (groupChans (i / 4)).any (pscUses s) then s else setAmpEn s (i / 4) false
    let s := if (List.range 16).any (fun m => pscOn s (getF s (F.PSC_CFG_PVDD_SEL (pscFn i))) m && m != i) then s
      else setF s (pvddField (getF s (F.PSC_CFG_PVDD_SEL (pscFn i)))) 0
    .next (pscEv (setFn s (pscFn i) fnDisabled) i 0x0165 sevInfo [])
  else .next s

/-! ### Commands (R329, R338, R343) -/

/-- The channels of a mask. -/
def pscMask (m : Nat) : List Nat := (List.range 16).filter (fun n => m / 2 ^ n % 2 == 1)

/-- Whether a channel is queued, in a test or in calibration. -/
def pscWaits (s : State) (n : Nat) : Bool := pscState s n == psQueued || pscState s n == psDiag || pscState s n == psCal

/-- The checks that both intrusive commands make of a mask; `bad`: another reason of `PSC_MASK` (R338, R344). The rules of a SOLO node hold
in the other unpaired roles too (R346). -/
def intrusiveRefusal (s : State) (m : Nat) (bad : Bool) : Option Reply :=
  let l := pscMask m
  if !modelA s then some (.unsupported 0x0124)
  else if l.isEmpty ∨ bad then some (.refused 0x072B 0)
  else if roleOf s != roleStandby && l.any (fun n => fnState s (pscFn n) != fnDisabled) then
    some (.refused 0x0729 0)
  else if l.any (pscWaits s) then some (.refused 0x072C 0)
  else none

/-- Queue a channel for load diagnostics; it returns to the state it is in (R334, R338). -/
def diagQueue (s : State) (n : Nat) : State :=
  let st := pscState s n
  pscQueue (setPsc s n { pscCh s n with back := some st }) n

/-- The first part of a calibration result out of range: 0 voltage, 1 current, 2 loop trim (R329). -/
def calFault (mode : Nat) (r : CalResult) : Option Nat :=
  let within := fun (w lo hi : Word) => !isNan w && leF lo w && leF w hi
  let small := fun (w lim : Word) => !isNan w && leF (w &&& 0x7FFFFFFF) lim
  if !(within r.vGain 0x3F666666 0x3F8CCCCD && small r.vOfs 0x3CA3D70A) then some 0
  else if !(within r.iGain 0x3F666666 0x3F8CCCCD && small r.iOfs 0x3B03126F) then some 1
  else if mode = 2 ∧ !(within r.trim 0x3F000000 0x40000000) then some 2
  else none

/-- A calibration result is applied, or the old values stay (R329). -/
def calApply (s : State) (n mode : Nat) (r : CalResult) : State :=
  match calFault mode r with
  | some k => setFault (pscEv s n 0x076A sevError (le 1 k)) 7 20
  | none =>
    let s := setR (setR s (R.PSC_CAL_V_GAIN n) r.vGain) (R.PSC_CAL_V_OFS n) r.vOfs
    let s := setR (setR s (R.PSC_CAL_I_GAIN n) r.iGain) (R.PSC_CAL_I_OFS n) r.iOfs
    let s := if mode = 2 then setR s (R.PSC_LOOP_TRIM n) r.trim else s
    pscEv s n 0x0769 sevInfo (le 1 mode)

/-- Channel `n` leaves LATCHED, its failed retries cleared: it is queued, or observes while the guard acts (R335). -/
def pscUnlatch (s : State) (n : Nat) : State :=
  let s := pscRetries (setPsc s n { pscCh s n with fails := [], passedAt := none, retrying := false }) n
  pscEv (if pscDrives s then pscQueue s n else pscSetState s n psObserving) n 0x076B sevInfo []

def execPscClear (c : Fin 8) (s : State) : Host.Outcome State Fault Refusal :=
  .next (serve s c.val 0x0703 (· == 2) false (fun s q =>
    let l := pscMask (leAt q.payload 0 2)
    if !modelA s then (s, .unsupported 0x0124)
    else if l.isEmpty then (s, .refused 0x072B 0)
    else if l.any (fun n => pscState s n != psLatched) then (s, .refused 0x072A 0)
    else (l.foldl pscUnlatch s, .ok [])))

/-- Whether an intrusive operation of this chapter runs or waits (R338, R355). -/
def pscIntrusive (s : State) : Bool :=
  (List.range 16).any (fun n => pscState s n == psCal || (pscCh s n).back.isSome)

end Sys2Proof.Machine
end

