-- ==== Sys2Proof/Machine/PairCore.lean ====
section
/-! DEFINITION. What the live change, the pair and the restrike share: the issuing bank (R168), own faults (R354), session tags
(R357, R363), the agreement run (R362) and the abort of a restrike (R394). -/

namespace Sys2Proof.Machine

def pairEv (s : State) (code sev : Nat) (args : List Byte) : State := logEv s code 0x48 sev args

/-! ### Banks as a change sees them (R168) -/

/-- The bank in a state. -/
def bankIn (s : State) (st : Nat) : Option Nat := [0, 1].find? (fun b => bankState s b == st)

/-- The bank whose image the presses issue. -/
def issuingBank (s : State) : Option Nat :=
  match bankIn s bkEntering with
  | some b => some b
  | none => bankIn s bkRunning

/-- PLATE_HASH of the issuing bank, 0 if none (R358). -/
def issuingHash (s : State) : Word :=
  match issuingBank s with
  | some b => getR s (R.PLATE_HASH b)
  | none => 0

/-- The groups of the issuing plate. -/
def issuingGroups (s : State) : List Group :=
  match issuingBank s with
  | some b => (bankRec s b).groups
  | none => []

/-- FILL_TIME of the issuing plate (R398). -/
def fillTime (s : State) : Nat :=
  match issuingBank s with
  | some b => (bankRec s b).fill
  | none => 0

/-- `SWAP_STAT.STATE` (R193). -/
def swapState (s : State) : Nat := getF s F.SWAP_STAT_STATE

/-! ### Own faults (R354, R402) -/

/-- The reason code of the first self-detected fault present (R354); a failing sense cross-check is an own fault of a STANDBY
without a code of its own (R402); reason 4 stands from the acceptance of `PAIR_YIELD` to its boundary. -/
def faultReason (s : State) : Option Nat :=
  if (List.range 4).any (fun p => isF s (F.PRESS_STAT_FAULTED p)) then some 1
  else if s.pm.hot then some 2
  else if getF s F.PM_RAIL_STAT_OUT ≠ 0 then some 3
  else if s.pair.stopFault then some 5
  else none

def ownFault (s : State) : Bool := (faultReason s).isSome || s.pair.yieldAsked || getF s F.SELFTEST_STAT_SENSE_FAIL != 0

/-- Bring the own-fault flag up to date; an own fault ends promotability (R355). -/
def refreshOwn (s : State) : State :=
  let f := ownFault s
  let s := putF s F.PAIR_STAT_OWN_FAULT f
  if f then setF { s with pair := { s.pair with promoteTo := none } } F.PAIR_STAT_PROMOTABLE 0 else s

/-- `PAIR_OK` (R351). -/
def pairOk (s : State) : Bool :=
  (roleOf s == roleStandby && isF s F.PAIR_STAT_MATCHED) ||
  (roleOf s == roleActive && !isF s F.PAIR_STAT_OWN_FAULT && isF s F.PAIR_STAT_LINK_UP && !isF s F.PAIR_STAT_PEER_LOST &&
    isF s F.PAIR_STAT_PEER_MATCHED)

/-- The agreement run returns to 0, for a reason of R379 (R362). -/
def agreeReset (s : State) (why : Nat) : State :=
  setR { s with pair := { s.pair with agreeWhy := why, agreeHit := true } } R.PAIR_AGREE 0

/-! ### Tags (R357, R363) -/

/-- The key that a session uses for a frame of boundary `n` (R558). -/
def keyAt (x : Session) (n : Nat) : Option (List Byte) :=
  match x.newKey with
  | some k => if x.switchAt ≤ n then some k else x.key
  | none => x.key

/-- The 8-byte TAG over a message under a key. -/
def tagOf (key msg : List Byte) : List Byte := (Config.cmac key msg).take 8

/-- Whether a TAG verifies under the key of boundary `n`, or, until 96 sp after a switch, under the other (R558). -/
def tagOk (x : Session) (n now : Nat) (msg tag : List Byte) : Bool :=
  let ok := fun (k : Option (List Byte)) => match k with
    | some k => tag == tagOf k msg
    | none => false
  ok (keyAt x n) || (ok x.newKey && decide (now < x.switchAt + 96)) || (ok x.oldKey && decide (now < x.switchAt + 96))

/-- The entry of a list of SEQ by key; 0 where there is none. -/
def seqOf (l : List (Nat × Nat)) (k : Nat) : Nat := ((l.find? (fun x => x.1 == k)).map (·.2)).getD 0

def setSeq (l : List (Nat × Nat)) (k v : Nat) : List (Nat × Nat) := (k, v) :: l.filter (fun x => x.1 != k)

/-! ### The pair link (R357) -/

/-- `PAIR_PEER` as a MAC address: octet 0 is the most significant of the 48-bit number (R231). -/
def pairPeer (s : State) : Nat := getF s F.PAIR_PEER_HI_PEER_HI * 2 ^ 32 + (getR s R.PAIR_PEER_LO).toNat

/-- The header and payload of a pair-link frame, over which its TAG is formed. -/
def pairBytes (subtype pairId seq sctrLo : Nat) (pay : List Byte) : List Byte :=
  le 1 subtype ++ le 1 1 ++ le 2 pay.length ++ le 4 pairId ++ le 4 seq ++ le 4 sctrLo ++ pay

/-- Send a pair-link frame on the PAIR port; without a key nothing but a handshake is sent. -/
def pairSend (s : State) (subtype : Nat) (pay : List Byte) : State :=
  let x := s.pair.ses
  match portOfRole s 2 with
  | none => s
  | some p =>
    let seq := seqOf x.txSeq subtype + 1
    let msg := pairBytes subtype (getR s R.PAIR_ID).toNat seq (s.sctr.toNat % 2 ^ 32) pay
    let tag := match keyAt x s.sctr.toNat with
      | some k => some (tagOf k msg)
      | none => if 0x10 ≤ subtype then some (List.replicate 8 0) else none
    match tag with
    | none => s
    | some t =>
      let s := { s with pair := { s.pair with ses := { x with txSeq := setSeq x.txSeq subtype seq } } }
      ethSend s p 0 ⟨ethFrame (pairPeer s) (ethMac s p) 0 0 0x88B5 (msg ++ t), 0, none⟩

/-- The SCTR nearest to this node's whose low 32 bits are `lo` (R393). -/
def extendSctr (s : State) (lo : Nat) : Nat :=
  let n := s.sctr.toNat
  let d := (lo + 2 ^ 32 - n % 2 ^ 32) % 2 ^ 32
  if d < 2 ^ 31 then n + d else n + d - 2 ^ 32

/-- A pair-link frame is dropped (R357). -/
def pairDrop (s : State) : State :=
  setFault (pairEv (bump s R.PAIR_TAG_FAIL) 0x0867 sevWarning (le 1 0)) 8 4

/-- Whether the TAG of a pair-link frame of boundary `n` is right: before a key is held, a handshake's is zero (R357, log entry 56). -/
def pairTagOk (s : State) (x : PairFrame) (subtype n : Nat) : Bool :=
  let body := pairBytes subtype x.pairId.toNat x.seq.toNat x.sctrLo.toNat x.payload
  tagOk s.pair.ses n s.sctr.toNat body x.tag ||
  ((keyAt s.pair.ses n).isNone && decide (0x10 ≤ subtype) && x.tag == List.replicate 8 (0 : Byte))

/-- A pair-link frame that has reached the pair logic: taken, or dropped (R357). The SCTR of its boundary where it is taken. A node in an
unpaired role uses the link for handshakes only (R346, log entry 56). -/
def pairCheckIn (s : State) (x : PairFrame) (subtype : Nat) : State × Option Nat :=
  let n := extendSctr s x.sctrLo.toNat
  if !fnOn s 0x48 || (decide (subtype < 0x10) && unpaired s) then (s, none)
  else if x.src.toNat ≠ pairPeer s ∨ x.pairId ≠ getR s R.PAIR_ID ∨ x.seq.toNat ≤ seqOf s.pair.ses.rxSeq subtype ∨
      x.version ≠ 1 ∨ !pairTagOk s x subtype n then (pairDrop s, none)
  else ({ s with pair := { s.pair with ses := { s.pair.ses with rxSeq := setSeq s.pair.ses.rxSeq subtype x.seq.toNat } } }, some n)

/-- What a frame that is taken does: `f` gets the state and the SCTR of its boundary. -/
def pairDeliver (s : State) (x : PairFrame) (subtype : Nat) (f : State → Nat → State) : State :=
  match pairCheckIn s x subtype with
  | (s, some n) => f s n
  | (s, none) => s

/-- A pair-link frame of a subtype arrives: it passes its port's receive path and reaches the pair logic (R235, R237, R357). -/
def pairTake (s : State) (x : PairFrame) (subtype : Nat) (f : State → Nat → State) : State :=
  let r := rxHead s x.head 0x88B5 subtype
  if r.2 then pairDeliver r.1 x subtype f else r.1

/-! ### Restrike (R394, R396) -/

/-- `RS_STAT.STATE` (R389). -/
def rsState (s : State) : Nat := getF s F.RS_STAT_STATE

/-- Send a restrike chunk (R396). -/
def rsSend (s : State) (kind part last index count at_ : Nat) (data : List Byte) : State :=
  pairSend s 5 (le 1 kind ++ le 1 part ++ le 1 last ++ le 1 (getF s F.RS_CFG_D) ++ le 2 index ++ le 2 count ++ le 8 at_ ++ data)

/-- The restrike's transient state is dropped. -/
def rsClear (s : State) : State :=
  let r := { s.rs with coef := [], ramps := none, units := [], replay := none, ring := [], wrote := [] }
  setF (setF { s with rs := r } F.RS_STAT_STATE 0) F.RS_STAT_FAILS 0

/-- A running restrike aborts for a reason of R394: on the STANDBY, ABORT is sent if `tell`; on the ACTIVE the cursor ends. -/
def rsAbort (s : State) (why : Nat) (tell : Bool) : State :=
  if rsState s ≠ 0 then
    let s := if tell then rsSend s 4 0 1 why 0 0 [] else s
    let s := { s with rs := { s.rs with abortTotal := s.rs.abortTotal + 1 } }
    let s := pairEv (bump s R.RS_ABORT_CNT) 0x0874 sevWarning (le 1 why ++ le 2 0)
    setF (rsClear s) F.RS_STAT_LAST_ABORT why
  else
    match s.rs.serve with
    | none => s
    | some _ =>
      let s := if tell then rsSend s 4 0 1 why 0 0 [] else s
      { s with rs := { s.rs with serve := none, copying := none } }

/-! ### Power of the presses (R155, R401, R533) -/

/-- Give press `p` the registers of R160 and clear its lane state memory, with fresh check bits. -/
def clearPressState (s : State) (p : Nat) : State :=
  let x := press s p
  setPress s p { x with lanes := Vector.replicate 34 Lane.reset, checkFlags := Vector.replicate 2 0,
                        masks := Vector.replicate 4 0xFFFFFFFF, pend := [], stx := [], mem := [],
                        marks := x.marks.filter (fun e => e.1 != 0) }

/-- Whether press `p` is powered (R533). -/
def pressNeeded (s : State) (p : Nat) : Bool :=
  [0, 1].any (fun b => decide (bkArmed ≤ bankState s b) && (bankRec s b).pressMask / 2 ^ p % 2 == 1) ||
  s.eng.keep / 2 ^ p % 2 == 1 || pressTested s p

/-- The press is powered, cleared. -/
def powerPress (s : State) (p : Nat) : State := setF (clearPressState s p) (F.PRESS_STAT_GATED p) 0

/-- Gate the presses whose condition has ended (R533). -/
def gatePresses (s : State) : State :=
  (List.range 4).foldl (fun s p =>
    if pressNeeded s p || isF s (F.PRESS_STAT_GATED p) then s
    else setF (clearPressState s p) (F.PRESS_STAT_GATED p) 1) s

end Sys2Proof.Machine
end

