-- ==== Sys2Proof/Machine/Live.lean ====
section
/-! DEFINITION. Live change (chapter 06): coefficient words and edges (R179), swaps (R171 to R174), the Burnisher (R181 to R186),
direct writes (R187 to R189), atomic sets (R190, R191), and the commands that ask for them. -/

namespace Sys2Proof.Machine

def engEv (s : State) (code sev : Nat) (args : List Byte) : State := logEv s code 0x40 sev args

/-! ### Coefficient words -/

/-- Word `a` (lane * 2,048 + word) of press `p` in bank `b` (R124). -/
def coefAt (s : State) (b p a : Nat) : Word := memGet (press s p).coef (b * 65536 + a)

/-- Write a coefficient word; while a restrike runs, the value before it is kept (R387, R391). -/
def setCoef (s : State) (b p a : Nat) (w : Word) : State :=
  let old := coefAt s b p a
  let s := if rsState s = 0 then s
    else { s with rs := { s.rs with wrote := (s.sctr.toNat, b * 262144 + p * 65536 + a, old) :: s.rs.wrote } }
  setPress s p (unmark { press s p with coef := memSet (press s p).coef (b * 65536 + a) w } 1 (b * 65536 + a))

/-- The same word as a read by the Burnisher, the direct-write path or the host has it, with the check of its code in an ENG cycle of
its own (R75, log entry 5). -/
def coefRead (s : State) (b p a : Nat) : State × Word :=
  let k := b * 65536 + a
  match markOf (press s p) 1 k with
  | none => (s, coefAt s b p a)
  | some _ => (eccCheck (nextFree s) (freeFrac s) p 1 k false, delivered (press s p) 1 k (coefAt s b p a))

/-- Write one value to words named by bank, press and address. -/
def setCoefs (s : State) (l : List (Nat × Nat × Nat)) (w : Word) : State :=
  l.foldl (fun s x => setCoef s x.1 x.2.1 x.2.2 w) s

/-- The word an entry of bank `b` names. -/
def entryWord (b : Nat) (x : Word) : Nat × Nat × Nat := (b, edgePress x, edgeAddr x)

/-- The words that a write to edge `e` sets (R179). -/
def edgeWords (s : State) (e : Nat) : List (Nat × Nat × Nat) :=
  match issuingBank s with
  | none => []
  | some i =>
    let x := edgeOf s i e
    match bankIn s bkLeaving with
    | some l =>
      if edgeValid x then entryWord i x :: (if edgeCarry x then [entryWord l x] else [])
      else if edgeGhost x then [entryWord l x] else []
    | none =>
      match bankIn s bkArmed with
      | none => if edgeValid x then [entryWord i x] else []
      | some a =>
        let y := edgeOf s a e
        if edgeValid x then entryWord i x :: (if edgeValid y && edgeCarry y then [entryWord a y] else [])
        else if edgeValid y then [entryWord a y] else []

/-- The word that a read of edge `e` returns, the word that the plate applies, by bank, press and address (R179). -/
def edgePlace (s : State) (e : Nat) : Option (Nat × Nat × Nat) :=
  match issuingBank s with
  | none => none
  | some i =>
    let x := edgeOf s i e
    if edgeValid x then some (entryWord i x)
    else
      match bankIn s bkLeaving with
      | some l => if edgeGhost x then some (entryWord l x) else none
      | none => none

/-- A read of the coefficient word at a place, +0.0 where there is none (R75, R179). -/
def placeRead (s : State) (x : Option (Nat × Nat × Nat)) : State × Word :=
  match x with
  | none => (s, 0)
  | some x => coefRead s x.1 x.2.1 x.2.2

/-- A read of edge `e` (R179). -/
def edgeRead (s : State) (e : Nat) : State × Word := placeRead s (edgePlace s e)

/-! ### Ramps (R181 to R186) -/

/-- The target word of a ramp: press and address in the issuing bank (R183). -/
def rampTarget (s : State) (r : Ramp) : Option (Nat × Nat) :=
  if r.edge then
    match issuingBank s with
    | none => none
    | some i => let x := edgeOf s i r.id; if edgeValid x then some (edgePress x, edgeAddr x) else none
  else some (r.press, r.id)

/-- The words that a step of a ramp writes (R179, R183). -/
def rampWords (s : State) (r : Ramp) : List (Nat × Nat × Nat) :=
  if r.edge then edgeWords s r.id
  else
    match issuingBank s with
    | none => []
    | some i => [(i, r.press, r.id)]

/-- Keep `RAMP_STAT` up to date (R193). -/
def rampStat (s : State) : State :=
  let run := (s.eng.ramps.filter (·.start.isSome)).length
  setF (setF s F.RAMP_STAT_RUNNING run) F.RAMP_STAT_PENDING (s.eng.ramps.length - run)

def setRamps (s : State) (l : List Ramp) : State := rampStat { s with eng := { s.eng with ramps := l } }

/-- Whether ramp `r` takes over the entry of a ramp of `l`, which stands before it (R181). -/
def takesOver (s : State) (l : List Ramp) (r : Ramp) : Bool :=
  l.any (fun q => rampTarget s q == rampTarget s r && decide (q.s0 ≤ r.s0))

/-- The entries of the Burnisher that a list of ramps takes. -/
def rampsHeld (s : State) : List Ramp → List Ramp → Nat
  | _, [] => 0
  | before, r :: t => (if takesOver s before r then 0 else 1) + rampsHeld s (before ++ [r]) t

/-- Whether a word has a sign for the test of a dB ramp (R181). -/
def hasSign (w : Word) : Bool :=
  match cls w with
  | .nan => false
  | .inf _ => true
  | .num _ m _ => m != 0

def oppositeSigns (a b : Word) : Bool := hasSign a && hasSign b && (a.getLsbD 31 != b.getLsbD 31)

/-- 2^-24 with the sign of a word (R184). -/
def tinyLike (w : Word) : Word := if w.getLsbD 31 then 0xB3800000 else 0x33800000

def isZeroF (w : Word) : Bool :=
  match cls w with
  | .num _ m _ => m == 0
  | _ => false

/-- Step `k` of a ramp from `v0` to `vt` in `n` steps (R184). -/
def rampValue (db : Bool) (v0 vt : Word) (k n : Nat) : Word :=
  if isNan v0 || isNan vt then 0
  else if !db || oppositeSigns v0 vt then lerp v0 vt k n
  else if n ≤ k then vt
  else
    let a0 := if isZeroF v0 then tinyLike vt else v0
    let at_ := if isZeroF vt then tinyLike v0 else vt
    let l := lerp (log2a (a0 &&& 0x7FFFFFFF)).w (log2a (at_ &&& 0x7FFFFFFF)).w k n
    let x := (exp2a l).w
    if isNan x then x else x ||| (a0 &&& 0x80000000)

/-- Whether a cancel takes effect at this boundary (R185). -/
def cancelDue (s : State) (r : Ramp) : Bool :=
  match r.cancelAt with
  | some c => decide (c ≤ s.sctr.toNat)
  | none => false

/-- Whether an accepted ramp's boundary has come (R183). -/
def installDue (s : State) (r : Ramp) : Bool := r.start.isNone && decide (r.s0 ≤ s.sctr.toNat)

/-- Cancelled ramps stop at their last step (R185). -/
def cancelRamps (s : State) : State :=
  let gone := s.eng.ramps.filter (cancelDue s)
  if gone.isEmpty then s
  else engEv (setRamps s (s.eng.ramps.filter (fun r => !cancelDue s r))) 0x06CB sevNotice (le 2 gone.length ++ le 1 2)

/-- The word that ramp `r` reads its start value from (R183). -/
def rampPlace (s : State) (r : Ramp) : Option (Nat × Nat × Nat) :=
  if r.edge then edgePlace s r.id else (issuingBank s).map (fun b => (b, r.press, r.id))

/-- Install the ramp at place `i` at this boundary: it reads its start value and replaces the ramp that runs on its word (R183). -/
def installRamp (s : State) (i : Nat) (r : Ramp) : State :=
  let (s, v0) := placeRead s (rampPlace s r)
  let t := rampTarget s r
  let old := (List.range s.eng.ramps.length).filter (fun j =>
    match s.eng.ramps[j]? with
    | some q => j != i && t.isSome && rampTarget s q == t && q.start.isSome
    | none => false)
  let l := s.eng.ramps.set i { r with start := some v0, k := 0 }
  setRamps s ((List.range l.length).filterMap (fun j => if old.contains j then none else l[j]?))

/-- Install every ramp whose boundary has come, in the order of acceptance. -/
def installRamps (s : State) : Nat → State
  | 0 => s
  | fuel + 1 =>
    match s.eng.ramps.findIdx? (installDue s) with
    | none => s
    | some i =>
      match s.eng.ramps[i]? with
      | none => s
      | some r => installRamps (installRamp s i r) fuel

/-- Write one value to an edge: nothing and a count where R179 names no word. -/
def edgePut (s : State) (l : List (Nat × Nat × Nat)) (w : Word) : State :=
  if l.isEmpty then bump s R.DW_EDGE_DROP else setCoefs s l w

/-- The next step of the ramp at place `i`; a ramp that ends frees its entry and reports (R183). -/
def stepRamp (s : State) (i : Nat) : State :=
  match s.eng.ramps[i]? with
  | none => s
  | some r =>
    match r.start with
    | none => s
    | some v0 =>
      let v := rampValue r.db v0 r.target (r.k + 1) r.n
      let l := rampWords s r
      let s := if r.edge then edgePut s l v else setCoefs s l v
      if r.n ≤ r.k + 1 then
        let s := setRamps s (s.eng.ramps.eraseIdx i)
        if r.notify then engEv s 0x06CC sevInfo (le 2 r.tag ++ le 2 r.id) else s
      else { s with eng := { s.eng with ramps := s.eng.ramps.set i { r with k := r.k + 1 } } }

/-- Step 5 of R18: every running ramp steps, in descending place, so that an ended ramp leaves the others theirs. -/
def burnish (s : State) : State := (List.range s.eng.ramps.length).reverse.foldl stepRamp s

/-- Whether the Burnisher overwrites a write of these words at this boundary (R185): a ramp that runs on, neither cancelled
nor replaced by a ramp that starts here, writes one of them. -/
def overridden (s : State) (l : List (Nat × Nat × Nat)) : Bool :=
  s.eng.ramps.any (fun r => r.start.isSome && decide (0 < r.k) && !cancelDue s r &&
    !s.eng.ramps.any (fun q => installDue s q && rampTarget s q == rampTarget s r) &&
    (rampWords s r).any (fun x => l.contains x))

/-- A write below the Burnisher: its words are set, and it counts where a ramp overwrites it. -/
def putUnder (s : State) (l : List (Nat × Nat × Nat)) (w : Word) : State :=
  let s := if overridden s l then bump s R.RAMP_OVERRIDE else s
  setCoefs s l w

/-! ### Atomic sets and direct writes at their boundary (R187, R190) -/

/-- One entry of an atomic set. -/
def applyEntry (s : State) (x : Target × Word) : State :=
  match x.1 with
  | .edge e =>
    let l := edgeWords s e
    if l.isEmpty then bump s R.DW_EDGE_DROP else putUnder s l x.2
  | .word p a =>
    match issuingBank s with
    | some b => putUnder s [(b, p, a)] x.2
    | none => s

def atomicStat (s : State) : State := setF s F.ATOMIC_PEND_SETS s.eng.atomics.length

/-- The set at place `i` writes all its words. -/
def applyAtomicAt (s : State) (i : Nat) : State :=
  match s.eng.atomics[i]? with
  | none => s
  | some x => x.words.foldl applyEntry (atomicStat { s with eng := { s.eng with atomics := s.eng.atomics.eraseIdx i } })

/-- The place of the next set that is due. -/
def nextAtomic (s : State) : Option Nat := s.eng.atomics.findIdx? (fun x => decide (x.due ≤ s.sctr.toNat))

def applyAtomics (s : State) : Nat → State
  | 0 => s
  | fuel + 1 =>
    match nextAtomic s with
    | none => s
    | some i => applyAtomics (applyAtomicAt s i) fuel

/-- The words a direct write sets (R179, R180). -/
def directWords (s : State) (x : DWrite) : List (Nat × Nat × Nat) :=
  if x.edge then edgeWords s x.id else [(x.id / 65536 % 2, x.id / 131072 % 4, x.id % 65536)]

/-- The direct write at place `i` is applied. -/
def applyDirectAt (s : State) (i : Nat) : State :=
  match s.eng.dws[i]? with
  | none => s
  | some x =>
    let s := { s with eng := { s.eng with dws := s.eng.dws.eraseIdx i } }
    let l := directWords s x
    if l.isEmpty then bump s R.DW_EDGE_DROP
    else setR (bump (putUnder s l x.w) R.DW_APPLIED l.length) R.DW_LAST_SCTR (s.sctr.setWidth 32)

/-- The place of the next direct write that is due: raw-window writes first (R18). -/
def nextDirect (s : State) : Option Nat :=
  match s.eng.dws.findIdx? (fun x => !x.edge && decide (x.due ≤ s.sctr.toNat)) with
  | some i => some i
  | none => s.eng.dws.findIdx? (fun x => decide (x.due ≤ s.sctr.toNat))

def applyDirects (s : State) : Nat → State
  | 0 => s
  | fuel + 1 =>
    match nextDirect s with
    | none => s
    | some i => applyDirects (applyDirectAt s i) fuel

/-! ### The crossfade (R174) -/

/-- π in units of 2^-200. -/
def piFix : Nat := 5048344754617993871973410141242436836214643421488662971535368

/-- Terms of the sine series of x (in units of 2^-200) from term `t`, of order 2k + 1. -/
def sinTerms : Nat → Nat → Nat → Int → Int
  | 0, _, _, _ => 0
  | n + 1, k, x, t => t + sinTerms n (k + 1) x (-(t * x * x / 2 ^ 400) / ((2 * k + 2) * (2 * k + 3)))

/-- The binary32 nearest to sin(π a / (2 b)), for a from 0 to b. -/
def sinWeight (a b : Nat) : Word :=
  let x := piFix * a / (2 * b)
  let v := sinTerms 40 0 x x
  if a = 0 then 0 else (deliverNum false v.toNat (-200)).w

/-- The weights of the leaving and the entering bank in sp s + j (R174). -/
def xfadeWeights (curve l j : Nat) : Word × Word :=
  let a := min (j + 1) l
  if curve = 1 then (sinWeight (l - a) l, sinWeight a l)
  else (if a = l then 0 else ratioF false (l - a) l 0, ratioF false a l 0)

/-- The swap-curve pair, the issuing bank and its image in this sp (R106, R168, R171, R174). -/
def setCurve (s : State) : State :=
  match issuingBank s with
  | none => { s with dsp := { s.dsp with issueArea := none } }
  | some b =>
    let w := if swapState s = 2 then
        xfadeWeights (getF s F.SWAP_STAT_CURVE) (getF s F.SWAP_STAT_L) (getF s F.XFADE_POS_J)
      else (0, 0x3F800000)
    let d := { s.dsp with issueArea := some (if bankState s b = bkEntering then 1 else 0) }
    let d := if b = 1 then { d with pairO := w.1, pairI := w.2, issueBank := 1 }
      else { d with pairO := w.2, pairI := w.1, issueBank := 0 }
    { s with dsp := d }

/-! ### The swap (R171) -/

/-- The boundary s that `SWAP_SCTR` shows. -/
def swapAt (s : State) : Nat := (getR s R.SWAP_SCTR_LO).toNat + (getR s R.SWAP_SCTR_HI).toNat * 2 ^ 32

def swapBank (s : State) : Nat := getF s F.SWAP_STAT_ENTER_B

/-- Ramps at a swap boundary: those on carried edges continue (R186). -/
def settleRamps (s : State) (b : Nat) : State :=
  let keep := fun (r : Ramp) => r.edge && edgeValid (edgeOf s b r.id) && edgeCarry (edgeOf s b r.id)
  let gone := (s.eng.ramps.filter (fun r => !keep r)).length
  if gone = 0 then s
  else setFault (engEv (setRamps s (s.eng.ramps.filter keep)) 0x06CB sevNotice (le 2 gone ++ le 1 1)) 6 11

/-- Whether a plate of bank `b` holds a delay block that overlaps none of bank `l`'s (R398). -/
def freshDelay (s : State) (b l : Nat) : Bool :=
  (bankRec s b).delays.any (fun d => !(bankRec s l).delays.any (blkOverlap d))

/-- At boundary s the armed bank becomes ENTERING (R171). -/
def doSwapBegin (s : State) : State :=
  let b := swapBank s
  let s := rsAbort s 4 true
  let s := if freshDelay s b (1 - b) then { s with rs := { s.rs with fillFrom := some s.sctr.toNat } } else s
  let s := { s with rs := { s.rs with sdBad := true } }
  let s := settleRamps s b
  let s := setBankState (setBankState s b bkEntering) (1 - b) bkLeaving
  let s := setF (setF s F.SWAP_STAT_STATE 2) F.XFADE_POS_J 0
  engEv s 0x06C7 sevNotice (le 1 b ++ le 4 (swapAt s))

/-- Clear the GHOST bits of a bank; PRESS and CADDR of an entry stay (R143). -/
def clearGhosts (x : Bank) : Bank :=
  { x with edges := (x.edges.map (fun c => (c.1, c.2 &&& ~~~(0x40000000 : Word)))).filter (fun c => c.2 != 0) }

def setBank (s : State) (b : Nat) (x : Bank) : State := { s with eng := { s.eng with banks := s.eng.banks.setIfInBounds b x } }

/-- At boundary s + L the ENTERING bank becomes RUNNING (R171). -/
def doSwapDone (s : State) : State :=
  let b := swapBank s
  let s := setBankState (setBankState s b bkRunning) (1 - b) bkLoaded
  let s := setBank s b (clearGhosts (bankRec s b))
  let s := setF (setF s F.SWAP_STAT_STATE 0) F.XFADE_POS_J 0
  engEv s 0x06C8 sevNotice (le 1 b ++ le 4 s.sctr.toNat)

def swapBeginDue (s : State) : Bool := swapState s == 1 && decide (swapAt s ≤ s.sctr.toNat)

def swapDoneDue (s : State) : Bool :=
  swapState s == 2 && decide (swapAt s + getF s F.SWAP_STAT_L ≤ s.sctr.toNat)

/-! ### Start and stop of the engine (R161, R162) -/

/-- A pending start finds its bank ARMED and its boundary has come: with START_MODE 0 any boundary after the clearing, at the
latest the last that R160 allows. -/
def startDue (s : State) (late : Bool) : Bool :=
  s.eng.starting && fnState s 0x40 == fnEnabled && bankState s s.eng.startBank == bkArmed &&
  (decide (s.eng.startBy ≤ s.sctr.toNat) || (!late && getF s F.ENG_CFG_START_MODE == 0))

/-- The start boundary: the bank that the enable found ARMED runs (R161); the cause of reason 5 ends (R354), and the state digest and the fill clock restart (R397 to
R399). -/
def doEngineStart (s : State) : State :=
  let b := s.eng.startBank
  if bankState s b ≠ bkArmed then s
  else
    let s := setBankState s b bkRunning
    let s := { s with eng := { s.eng with starting := false, running := true, startBy := s.sctr.toNat },
                      pair := { s.pair with stopFault := false },
                      rs := { s.rs with sdBad := true, fillFrom := some s.sctr.toNat,
                                        provenNext := roleOf s == roleStandby } }
    engEv (refreshOwn s) 0x06C4 sevNotice (le 1 b ++ le 4 s.sctr.toNat)

def stopDue (s : State) : Bool := fnState s 0x40 == fnStopping

/-- Abandon the arm that runs (R162). -/
def stopArm (s : State) : State :=
  match s.eng.arm with
  | none => s
  | some j =>
    let s := putF (setBankState { s with eng := { s.eng with arm := none } } j.bank bkLoaded) F.ENG_BANK_STAT_BUSY false
    answer (engEv s 0x06C3 sevInfo (le 1 j.bank)) (some j.ch) (.refused 0x062D 0)

/-- The stop boundary (R162); a time block lifts with it (R55). -/
def doEngineStop (s : State) : State :=
  let s := rsAbort s 5 true
  let s := if swapState s = 2 then
      setFault (engEv s 0x06CA sevWarning (le 1 (swapBank s) ++ le 2 (getF s F.XFADE_POS_J))) 6 10
    else s
  let s := setF (setF s F.SWAP_STAT_STATE 0) F.XFADE_POS_J 0
  let s := if s.eng.ramps.isEmpty then s
    else engEv (setRamps s []) 0x06CB sevNotice (le 2 s.eng.ramps.length ++ le 1 3)
  let s := if s.eng.atomics.isEmpty then s
    else
      let n := s.eng.atomics.length
      engEv (atomicStat { s with eng := { s.eng with atomics := [] } }) 0x06CE sevNotice (le 2 n)
  let ran := [0, 1].foldl (fun m b => if bkRunning ≤ bankState s b then m ||| (bankRec s b).pressMask else m) 0
  let s := stopArm s
  let s := [0, 1].foldl (fun s b => if bkArmed ≤ bankState s b then setBankState s b bkLoaded else s) s
  let s := { s with eng := { s.eng with starting := false, running := false, keep := ran } }
  let s := engEv (setFn s 0x40 fnDisabled) 0x06C5 sevNotice (le 4 s.sctr.toNat)
  let s := engEv s 0x0165 sevInfo []
  liftBlocks (if getF s F.NODE_STAT_STATE = 3 then setF s F.NODE_STAT_STATE 2 else s)

/-! ### Accepting direct writes (R125, R187 to R189) -/

/-- The words of credit that a direct write of one window takes (R19). -/
def creditOf (edge : Bool) : Nat := if edge then 2 else 1

def recCredit : PqRec → Nat
  | .direct edge _ _ _ => creditOf edge
  | _ => 0

/-- The words of credit taken for the boundary `b` that applies them (R19): direct writes held for it, and those of the pair's sets,
which apply 8 sp after their decision (R189). -/
def creditAt (s : State) (b : Nat) : Nat :=
  ((s.eng.dws.filter (fun x => x.due == b)).map (fun x => creditOf x.edge)).sum +
  ((s.paired.own.filter (fun x => x.1 + 8 == b)).map (fun x => recCredit x.2)).sum +
  ((s.paired.got.filter (fun g => g.n + 8 == b)).flatMap (fun g => g.parts.flatMap (fun p => p.2.map recCredit))).sum

/-- The boundary of a direct write of `words` words accepted in ENG cycle `cycle` (R187); an ACTIVE's applies 8 sp later (R189).
Credit for a full boundary is withheld, and the write is then accepted after it (R19). -/
def directDue (s : State) (cycle words : Nat) : Nat :=
  let n := s.sctr.toNat + (if cycle ≤ 8273 then 1 else 2)
  let d := if roleOf s = roleActive then 8 else 0
  let tries := (List.range (s.eng.dws.length + s.paired.own.length + s.paired.got.length + 1)).map (n + ·)
  (tries.find? (fun k => decide (creditAt s (k + d) + words ≤ 1024))).getD n

/-- The BAR2 offset of a write (R360). -/
def windowOfs (edge : Bool) (id : Nat) : Nat := if edge then 0x400000 + 4 * id else 4 * id

/-- A direct write: dropped on a STANDBY, paired on an ACTIVE, held in an unpaired role (R189). -/
def acceptDirect (s : State) (edge : Bool) (id : Nat) (w : Word) (cycle : Nat) : State :=
  if roleOf s = roleStandby then
    setFault (engEv (bump s R.DW_STBY_DROP) 0x06CD sevWarning (le 1 (if edge then 1 else 0))) 6 12
  else
    let n := directDue s cycle (creditOf edge)
    if roleOf s = roleActive then
      let k := (s.paired.own.filter (fun x => x.1 == n)).length
      decidePq s n (.direct edge (BitVec.ofNat 24 (windowOfs edge id)) w (BitVec.ofNat 16 k))
    else { s with eng := { s.eng with dws := s.eng.dws ++ [⟨edge, id, w, n⟩] } }

/-- A write to the raw coefficient window (R125). -/
def rawWrite (s : State) (b p a : Nat) (w : Word) (cycle : Nat) : State :=
  if !isF s F.DW_CTL_RAW_EN then bump s R.DW_LOCK_DROP
  else
    let st := bankState s b
    if bkRunning ≤ st then acceptDirect s false (p * 131072 + b * 65536 + a) w cycle
    else if (st = bkLoaded ∨ st = bkArmed) ∧ unpaired s then setCoef s b p a w
    else bump s R.RAW_IDLE_DROP

/-- A write to the edge window (R179, R187). -/
def edgeWrite (s : State) (e : Nat) (w : Word) (cycle : Nat) : State :=
  if !isF s F.DW_CTL_EDGE_EN then bump s R.DW_LOCK_DROP else acceptDirect s true e w cycle

def execRawWindowWrite (bank : Fin 2) (p : Fin 4) (a : BitVec 16) (w : Word) (cycle : Fin 10240) (s : State) :
    Host.Outcome State Fault Refusal :=
  .next (rawWrite s bank.val p.val a.toNat w cycle.val)

def execEdgeWindowWrite (e : BitVec 14) (w : Word) (cycle : Fin 10240) (s : State) : Host.Outcome State Fault Refusal :=
  .next (edgeWrite s e.toNat w cycle.val)

/-! ### Mailbox commands (R172, R173, R181, R190, R195) -/

/-- The boundary of a command that may set NEXT (R169). -/
def timedOrNext (s : State) (q : Req) (next : Bool) : Option Nat :=
  if next then some (s.sctr.toNat + 2) else timedAt s q

def inPairRole (s : State) : Bool := roleOf s == roleStandby || roleOf s == roleActive

def sctrLo (s : State) : Nat := s.sctr.toNat % 2 ^ 32

/-- What refuses a `SWAP` (R172). -/
def swapRefusal (s : State) (q : Req) : Option (Nat × Nat) :=
  let b := leAt q.payload 0 1
  let next := leAt q.payload 1 1 % 2 == 1
  let curve := leAt q.payload 2 1
  let l := leAt q.payload 4 2
  let hash := leAt q.payload 8 4
  let st := if b ≤ 1 then bankState s b else 0
  if !s.eng.running then some (0x0630, 0)
  else if next ∧ inPairRole s then some (0x0631, 0)
  else if st ≠ bkArmed then some (0x0632, st)
  else if swapState s ≠ 0 then some (0x0633, swapState s)
  else if (timedOrNext s q next).isNone then some (0x0634, sctrLo s)
  else if (curve ≠ 0 ∧ curve ≠ 1 ∧ curve ≠ 0xFF) ∨ (l ≠ 0 ∧ (l < 8 ∨ 4096 < l)) then some (0x0635, 0)
  else if hash ≠ 0 ∧ hash ≠ (getR s (R.PLATE_HASH b)).toNat then some (0x0636, (getR s (R.PLATE_HASH b)).toNat)
  else none

/-- A `SWAP` is accepted for boundary `at_` (R171, R174). -/
def acceptSwap (s : State) (q : Req) (at_ : Nat) : State :=
  let b := leAt q.payload 0 1
  let x := bankRec s b
  let curve := if leAt q.payload 2 1 = 0xFF then x.curve else leAt q.payload 2 1
  let l := if leAt q.payload 4 2 = 0 then (if x.xfade = 0 then 96 else x.xfade) else leAt q.payload 4 2
  let s := rsAbort s 4 true
  let s := setF (setF (setF (setF s F.SWAP_STAT_STATE 1) F.SWAP_STAT_ENTER_B b) F.SWAP_STAT_CURVE curve) F.SWAP_STAT_L l
  let s := setR (setR s R.SWAP_SCTR_LO (BitVec.ofNat 32 at_)) R.SWAP_SCTR_HI (BitVec.ofNat 32 (at_ / 2 ^ 32))
  engEv s 0x06C6 sevNotice (le 1 b ++ le 1 curve ++ le 2 l ++ le 4 at_)

def execSwap (c : Fin 8) (s : State) : Host.Outcome State Fault Refusal :=
  .next (serve s c.val 0x0605 (· == 12) false (fun s q =>
    match swapRefusal s q with
    | some r => (s, .refused r.1 r.2)
    | none =>
      match timedOrNext s q (leAt q.payload 1 1 % 2 == 1) with
      | none => (s, .refused 0x0634 (sctrLo s))
      | some t => (acceptSwap s q t, .ok (le 8 t))))

def execSwapCancel (c : Fin 8) (s : State) : Host.Outcome State Fault Refusal :=
  .next (serve s c.val 0x0606 (· == 0) false (fun s _ =>
    if swapState s ≠ 1 then (s, .refused 0x0638 0)
    else if swapAt s < s.sctr.toNat + 2 then (s, .refused 0x0639 (swapAt s % 2 ^ 32))
    else (engEv (setF s F.SWAP_STAT_STATE 0) 0x06C9 sevInfo (le 1 (swapBank s)), .ok [])))

/-- Entry `i` of a `RAMP_START` (R182). -/
def rampEntry (p : List Byte) (i s0 : Nat) : Ramp :=
  let o := 16 + 16 * i
  let m := leAt p (o + 2) 1
  { edge := m / 4 % 2 == 0, id := leAt p o 2, press := m % 4, db := m / 8 % 2 == 1, notify := m / 16 % 2 == 1,
    tag := leAt p (o + 10) 2, target := BitVec.ofNat 32 (leAt p (o + 4) 4), n := leAt p (o + 8) 2, s0 := s0, start := none, k := 0,
    cancelAt := none }

/-- Whether a field of entry `i` is out of range (R181). -/
def rampEntryBad (p : List Byte) (i : Nat) : Bool :=
  let o := 16 + 16 * i
  leAt p (o + 2) 1 / 32 != 0 || leAt p (o + 3) 1 != 0 || leAt p (o + 8) 2 == 0 || leAt p (o + 12) 4 != 0

/-- Whether a ramp may not have this target (R181). -/
def rampTargetBad (s : State) (r : Ramp) : Bool :=
  match issuingBank s with
  | none => true
  | some b => if r.edge then !(decide (r.id < 16384) && edgeValid (edgeOf s b r.id)) else !coefMarked (bankRec s b) r.press r.id

/-- Whether the start of a dB ramp, as its word stands, and its target have opposite signs (R181). -/
def rampSignBad (s : State) (r : Ramp) : Bool :=
  match issuingBank s, rampTarget s r with
  | some b, some t => r.db && oppositeSigns (coefAt s b t.1 t.2) r.target
  | _, _ => false

/-- The entries of a request that are installed: of those on one word, the last (R183). -/
def lastOnWord (s : State) : List Ramp → List Ramp
  | [] => []
  | r :: t => if t.any (fun q => rampTarget s q == rampTarget s r) then lastOnWord s t else r :: lastOnWord s t

/-- What refuses a `RAMP_START`, in the order of R181. -/
def rampRefusal (s : State) (q : Req) : Option (Nat × Nat) :=
  let p := q.payload
  let n := leAt p 0 1
  let next := leAt p 1 1 % 2 == 1
  let bads := (List.range n).find? (rampEntryBad p)
  let rs := (List.range n).map (fun i => rampEntry p i ((timedOrNext s q next).getD 0))
  let held := rampsHeld s [] s.eng.ramps
  if !s.eng.running then some (0x0630, 0)
  else if next ∧ inPairRole s then some (0x0631, 0)
  else if n = 0 ∨ 30 < n ∨ leAt p 1 1 / 2 ≠ 0 ∨ leAt p 2 14 ≠ 0 then some (0x063C, 0)
  else if bads.isSome then some (0x063C, bads.getD 0)
  else if (timedOrNext s q next).isNone then some (0x063D, sctrLo s)
  else if rs.any (rampTargetBad s) then some (0x063B, (rs.findIdx? (rampTargetBad s)).getD 0)
  else if rs.any (rampSignBad s) then some (0x063C, (rs.findIdx? (rampSignBad s)).getD 0)
  else if 1024 < rampsHeld s [] (s.eng.ramps ++ lastOnWord s rs) then some (0x063A, held)
  else none

def execRampStart (c : Fin 8) (s : State) : Host.Outcome State Fault Refusal :=
  .next (serve s c.val 0x0607 (fun n => n == 16 + 16 * leAt (reqOf s c.val).payload 0 1) false (fun s q =>
    match rampRefusal s q with
    | some r => (s, .refused r.1 r.2)
    | none =>
      match timedOrNext s q (leAt q.payload 1 1 % 2 == 1) with
      | none => (s, .refused 0x063D (sctrLo s))
      | some t =>
        let l := lastOnWord s ((List.range (leAt q.payload 0 1)).map (fun i => rampEntry q.payload i t))
        let s := setRamps s (s.eng.ramps ++ l)
        (s, .ok (le 2 l.length ++ le 2 (rampsHeld s [] s.eng.ramps) ++ le 8 t))))

/-- What refuses a `RAMP_CANCEL` (R195). -/
def cancelRefusal (p : List Byte) : Option Nat :=
  let n := leAt p 0 1
  let kind := leAt p 1 1
  if n = 0 ∨ 64 < n ∨ 1 < kind ∨ 3 < leAt p 2 1 ∨ leAt p 3 1 ≠ 0 then some 0
  else if kind = 0 then (List.range n).find? (fun i => decide (16384 ≤ leAt p (4 + 2 * i) 2))
  else none

/-- Whether a `RAMP_CANCEL` names a ramp. -/
def cancelNames (p : List Byte) (r : Ramp) : Bool :=
  r.edge == (leAt p 1 1 == 0) && (r.edge || r.press == leAt p 2 1) &&
  (List.range (leAt p 0 1)).any (fun i => leAt p (4 + 2 * i) 2 == r.id)

def execRampCancel (c : Fin 8) (s : State) : Host.Outcome State Fault Refusal :=
  .next (serve s c.val 0x0608 (fun n => n == 4 + 2 * leAt (reqOf s c.val).payload 0 1) false (fun s q =>
    match cancelRefusal q.payload with
    | some i => (s, .refused 0x063C i)
    | none =>
      let hit := fun (r : Ramp) => cancelNames q.payload r && r.cancelAt.isNone
      let n := (s.eng.ramps.filter hit).length
      let l := s.eng.ramps.map (fun r => if hit r then { r with cancelAt := some (s.sctr.toNat + 2) } else r)
      ({ s with eng := { s.eng with ramps := l } }, .ok (le 2 n))))

/-- The words due at boundary `t`, as R19 counts them. -/
def atomicDue (s : State) (t : Nat) : Nat :=
  ((s.eng.atomics.filter (fun x => x.due == t)).flatMap (fun x => x.words.map (fun w => match w.1 with
    | .edge _ => 2
    | .word _ _ => 1))).sum

/-- What refuses a `PARAM_SET_ATOMIC` (R191). -/
def atomicRefusal (s : State) (q : Req) : Option (Nat × Nat) :=
  let p := q.payload
  let n := leAt p 0 1
  let form := leAt p 1 1
  let badId := if form = 0 then (List.range n).find? (fun i => decide (16384 ≤ leAt p (4 + 2 * i) 2)) else none
  if !s.eng.running then some (0x0630, 0)
  else if n = 0 ∨ 64 < n ∨ 1 < form ∨ (form = 1 ∧ 3 < leAt p 2 1) ∨ leAt p 3 1 ≠ 0 then some (0x063E, 0)
  else if badId.isSome then some (0x063E, badId.getD 0)
  else
    match timedAt s q with
    | none => some (0x063F, sctrLo s)
    | some t =>
      let due := atomicDue s t
      if 1024 < due + n * (if form = 0 then 2 else 1) ∨ 32 ≤ s.eng.atomics.length then some (0x0640, due) else none

/-- The words of a `PARAM_SET_ATOMIC` (R190). -/
def atomicWords (p : List Byte) : List (Target × Word) :=
  let n := leAt p 0 1
  (List.range n).map (fun i =>
    let id := leAt p (4 + 2 * i) 2
    (if leAt p 1 1 = 0 then Target.edge id else Target.word (leAt p 2 1) id, BitVec.ofNat 32 (leAt p (4 + 2 * n + 4 * i) 4)))

def execParamSetAtomic (c : Fin 8) (s : State) : Host.Outcome State Fault Refusal :=
  .next (serve s c.val 0x0609 (fun n => n == 4 + 6 * leAt (reqOf s c.val).payload 0 1) false (fun s q =>
    match atomicRefusal s q with
    | some r => (s, .refused r.1 r.2)
    | none =>
      match timedAt s q with
      | none => (s, .refused 0x063F (sctrLo s))
      | some t => (atomicStat { s with eng := { s.eng with atomics := s.eng.atomics ++ [⟨t, atomicWords q.payload⟩] } }, .ok [])))

end Sys2Proof.Machine
end

