-- ==== Sys2Proof/Machine/Plate.lean ====
section
/-! DEFINITION. Loading and arming a plate (R154, R155), `PLATE_DISARM` and `PLATE_INFO` (R158, R165), and the enable check of the
engine with its clearing (R160). -/

namespace Sys2Proof.Machine

/-! ### Loading (R154) -/

/-- What refuses a `PLATE_LOAD` before the bank becomes LOADING (R154, step 1). -/
def loadRefusal (s : State) (p : List Byte) : Option (Nat × Nat) :=
  let b := leAt p 0 1
  let src := leAt p 1 1
  let len := leAt p 4 4
  let addr := leAt p 8 8
  let st := bankState s b
  if 1 < b then some (0x062C, b)
  else if 2 < src then some (0x062B, 1)
  else if addr % 4 ≠ 0 then some (0x062B, 2)
  else if src = 2 ∧ (addr < 0x200000 ∨ 0x400000 < addr + len) then some (0x062B, 3)
  else if src = 2 ∧ isF s F.FW_STAT_HOLD ∧ addr < 0x200000 + 1572864 ∧ 0 < len then some (0x0C28, 0)
  else if len % 4 ≠ 0 ∨ 2097152 < len then some (0x0612, len)
  else if bkRunning ≤ st then some (0x0611, st)
  else if st = bkArming ∨ st = bkArmed then some (0x0610, st)
  else if isF s F.ENG_BANK_STAT_BUSY then some (0x062A, 0)
  else none

/-- The identity of a bank's plate, zero while EMPTY or LOADING (R163). -/
def setPlateId (s : State) (b : Nat) (hash : Word) (id : Nat) : State :=
  setR (setR (setR s (R.PLATE_HASH b) hash) (R.PLATE_ID_LO b) (BitVec.ofNat 32 id)) (R.PLATE_ID_HI b) (BitVec.ofNat 32 (id / 2 ^ 32))

def execPlateLoad (c : Fin 8) (s : State) : Host.Outcome State Fault Refusal :=
  .next (serve s c.val 0x0601 (· == 16) false (fun s q =>
    match loadRefusal s q.payload with
    | some r => (s, .refused r.1 r.2)
    | none =>
      let b := leAt q.payload 0 1
      let s := setPlateId (putF (setBankState s b bkLoading) F.ENG_BANK_STAT_BUSY true) b 0 0
      ({ s with eng := { s.eng with load := some ⟨b, leAt q.payload 1 1, leAt q.payload 4 4, leAt q.payload 8 8, q.ch⟩ } },
       .later)))

/-- The bytes that a load has read: from the staging area where its source is 2. -/
def loadBytes (s : State) (j : LoadJob) (data : List Byte) : List Byte :=
  if j.source = 2 then memGetList s.host.staging (j.addr - 0x200000) j.len else data.take j.len

/-- Write a plate's programs and coefficients into the memories of a bank (R139, R140). -/
def fillBank (s : State) (d : List Byte) (b : Nat) : State :=
  (List.range 4).foldl (fun s p => setPress s p (loadPress (press s p) d b p)) s

/-- A load ends with every check passed (R154, step 5). -/
def loadDone (s : State) (j : LoadJob) (d : List Byte) : State :=
  let hash := BitVec.ofNat 32 (leAt d (j.len - 4) 4)
  let s := setBank (fillBank s d j.bank) j.bank (bankOf d)
  let s := setPlateId s j.bank hash (leAt d 0x20 8)
  let s := putF (setBankState { s with eng := { s.eng with load := none } } j.bank bkLoaded) F.ENG_BANK_STAT_BUSY false
  answer (engEv s 0x06C0 sevInfo (le 1 j.bank ++ le 4 hash.toNat)) (some j.ch) (.ok [])

/-- A load ends on a failed check or read (R154, step 4). What the loader had already written stays: all of it where the CRC
differs, and nothing that a directory describes where header or directory are at fault (log entry 19). -/
def loadFailed (s : State) (j : LoadJob) (d : List Byte) (r : Nat × Nat) : State :=
  let s := if r.1 = 0x0614 then fillBank s d j.bank else s
  let s := setBank s j.bank Bank.reset
  let s := putF (setBankState { s with eng := { s.eng with load := none } } j.bank bkEmpty) F.ENG_BANK_STAT_BUSY false
  let s := engEv (setFault s 6 9) 0x06C1 sevError (le 1 j.bank ++ le 2 r.1 ++ le 4 r.2)
  answer s (some j.ch) (.refused r.1 r.2)

def execPlateLoaded (data : List Byte) (s : State) : Host.Outcome State Fault Refusal :=
  .next (match s.eng.load with
    | none => s
    | some j =>
      let d := loadBytes s j data
      match plateFault d j.len none with
      | none => loadDone s j d
      | some _ => s)

def execPlateLoadFailed (data : List Byte) (readErr : Option Nat) (s : State) : Host.Outcome State Fault Refusal :=
  .next (match s.eng.load with
    | none => s
    | some j =>
      let d := loadBytes s j data
      match plateFault d j.len readErr with
      | none => s
      | some r => loadFailed s j d r)

/-! ### Arming (R155 to R158) -/

def execPlateArm (c : Fin 8) (s : State) : Host.Outcome State Fault Refusal :=
  .next (serve s c.val 0x0602 (· == 2) false (fun s q =>
    let b := leAt q.payload 0 1
    if 1 < b then (s, .refused 0x062C b)
    else if bankState s b ≠ bkLoaded then (s, .refused 0x0610 (bankState s b))
    else if isF s F.ENG_BANK_STAT_BUSY then (s, .refused 0x062A 0)
    else
      let s := rsAbort s 4 true
      let s := putF (setBankState s b bkArming) F.ENG_BANK_STAT_BUSY true
      ({ s with eng := { s.eng with arm := some ⟨b, leAt q.payload 1 1 % 2 == 1, q.ch⟩ } }, .later)))

/-- Power the presses of a plate: a gated one, or one whose BIST the arm ends, starts cleared (R155, R401). -/
def armPower (s : State) (mask : Nat) : State :=
  (List.range 4).foldl (fun s p =>
    let bist := getF s F.SELFTEST_STAT_BIST_RUN / 2 ^ p % 2 == 1
    if mask / 2 ^ p % 2 = 1 ∧ (isF s (F.PRESS_STAT_GATED p) ∨ bist) then
      let s := { s with rs := { s.rs with bist := s.rs.bist.filter (fun x => x.1 != p) } }
      powerPress (setF s F.SELFTEST_STAT_BIST_RUN (getF s F.SELFTEST_STAT_BIST_RUN &&& (15 - 2 ^ p))) p
    else s) s

/-- The carry copy and the zeroing of new edges against running bank `r` (R155, steps 2 and 3, R156). -/
def armEdges (s : State) (b r : Nat) : State :=
  (bankRec s b).edges.foldl (fun s c =>
    let x := edgeOf s r c.1
    if !edgeValid c.2 then s
    else if edgeValid x then
      let (s, w) := coefRead s r (edgePress x) (edgeAddr x)
      if edgeCarry c.2 then setCoef s b (edgePress c.2) (edgeAddr c.2) w else s
    else setCoef s r (edgePress c.2) (edgeAddr c.2) 0) s

/-- Every check has passed: the arm completes (R155). -/
def armDone (s : State) (j : ArmJob) : State :=
  let s := armPower s (bankRec s j.bank).pressMask
  let s := match runningBank s with
    | some r => armEdges s j.bank r
    | none => s
  let s := putF (setBankState { s with eng := { s.eng with arm := none } } j.bank bkArmed) F.ENG_BANK_STAT_BUSY false
  let s := engEv s 0x06C2 sevNotice (le 1 j.bank ++ le 1 (if j.force then 1 else 0) ++ le 4 (getR s (R.PLATE_HASH j.bank)).toNat)
  answer s (some j.ch) (.ok [])

/-- A check fails: the bank returns to LOADED (R155). -/
def armFailed (s : State) (j : ArmJob) (r : Nat × Nat) : State :=
  let s := putF (setBankState { s with eng := { s.eng with arm := none } } j.bank bkLoaded) F.ENG_BANK_STAT_BUSY false
  answer s (some j.ch) (.refused r.1 r.2)

def execPlateArmed (s : State) : Host.Outcome State Fault Refusal :=
  .next (match s.eng.arm with
    | none => s
    | some j =>
      match armFault s j.bank j.force with
      | none => armDone s j
      | some r => armFailed s j r)

def execPlateDisarm (c : Fin 8) (s : State) : Host.Outcome State Fault Refusal :=
  .next (serve s c.val 0x0603 (· == 1) false (fun s q =>
    let b := leAt q.payload 0 1
    if 1 < b then (s, .refused 0x062C b)
    else if bankState s b ≠ bkArmed then (s, .refused 0x0610 (bankState s b))
    else if (swapState s = 1 ∧ swapBank s = b) ∨ s.eng.starting then (s, .refused 0x0637 0)
    else (engEv (setBankState s b bkLoaded) 0x06C3 sevInfo (le 1 b), .ok [])))

def execPlateInfo (c : Fin 8) (s : State) : Host.Outcome State Fault Refusal :=
  .next (serve s c.val 0x0604 (· == 1) false (fun s q =>
    let b := leAt q.payload 0 1
    if 1 < b then (s, .refused 0x062C b)
    else
      let x := if bankState s b ≤ bkLoading then Bank.reset else bankRec s b
      (s, .ok (le 1 (bankState s b) ++ le 1 ((if x.pair then 1 else 0) + (if x.movedFlag then 2 else 0)) ++ le 2 0 ++
        le 4 (getR s (R.PLATE_HASH b)).toNat ++ le 4 (getR s (R.PLATE_ID_LO b)).toNat ++ le 4 (getR s (R.PLATE_ID_HI b)).toNat ++
        le 4 x.fill ++ x.totals))))

/-! ### Enable of the engine (R160) -/

def engStartSctr (s : State) : Nat := (getR s R.ENG_START_LO).toNat + (getR s R.ENG_START_HI).toNat * 2 ^ 32

/-- The enable check of function 0x40: code and field. -/
def engCheck (s : State) : Option (Nat × Nat) :=
  let m := getF s F.ENG_CFG_START_MODE
  if ([0, 1].filter (fun b => bankState s b == bkArmed)).length ≠ 1 then some (0x0627, 0xFFFF)
  else if 1 < m then some (0x0628, 0)
  else if m = 1 ∧ engStartSctr s < s.sctr.toNat + 96 then some (0x0629, 4)
  else none

/-- Function 0x40 is enabled: its memories are cleared, and its start boundary is set (R160). -/
def engStart (s : State) : State :=
  let s := (List.range 4).foldl (fun s p => clearPressState s p) s
  let d := { s.dsp with exPress := [], dly := [], delay := if isF s F.ENG_CFG_CLEAR_DELAY then [] else s.dsp.delay }
  let by_ := if getF s F.ENG_CFG_START_MODE = 1 then engStartSctr s else s.sctr.toNat + 21
  { s with dsp := d, eng := { s.eng with starting := true, startBank := (bankIn s bkArmed).getD 0, startBy := by_, keep := 0 } }

end Sys2Proof.Machine
end

