-- ==== Sys2Proof/Machine/Role.lean ====
section
/-! DEFINITION. Roles (R346 to R356): a change of role with what it withdraws or grants, the yield, promotion; the end of
Matched (R355, R398); the start of a restrike (R390) and of an intrusive test (R403). -/

namespace Sys2Proof.Machine

/-! ### Leaving Matched (R355, R398) -/

def notPromotable (s : State) : State :=
  setF { s with pair := { s.pair with promoteTo := none } } F.PAIR_STAT_PROMOTABLE 0

/-- Matched ends for a reason of R379, or for one that has no code there (log entry 21); after a mismatch, a late set or the loss of the peer the
node stays promotable for PROMOTE_WIN (R355). -/
def leaveMatched (s : State) (why : Option Nat) : State :=
  if !isF s F.PAIR_STAT_MATCHED then s
  else
    let code := why.getD ((Config.freeWord s.free).toNat % 256)
    let s := pairEv (setF (nextFree s) F.PAIR_STAT_MATCHED 0) 0x0863 sevWarning (le 1 code)
    if why = some 1 ∨ why = some 3 ∨ why = some 4 then
      { s with pair := { s.pair with promoteTo := some (s.sctr.toNat + 96 * getF s F.PAIR_LIMITS_PROMOTE_WIN) } }
    else notPromotable s

/-! ### Messages that wait for the CP (R364) -/

def omQueue (s : State) (type : Nat) (pay : List Byte) : State :=
  { s with pair := { s.pair with omQ := s.pair.omQ ++ [(type, pay)] } }

/-- A YIELD_NOTICE: 1 yielded, 2 promoted on a pulse, 3 withdrawn. -/
def notice (s : State) (kind reason : Nat) : State :=
  omQueue s 3 (le 1 kind ++ le 1 reason ++ le 2 0 ++ le 8 s.sctr.toNat)

/-! ### A change of role (R348, R353) -/

def driving (r : Nat) : Bool := r == roleSolo || r == roleWitness || r == roleActive

/-- The grant that releases the output guard (R353); serial ports drive again from their next frame edges (R310); a node that has lost its oscillator keeps it until a reset (R28). -/
def releaseGuard (s : State) : State :=
  if getF s F.NODE_STAT_STATE = 5 then s
  else
    pscGrant (setF s F.PAIR_STAT_GUARD 0)

/-- What the pair logic remembers of the peer is forgotten. -/
def forgetPeer (s : State) : State :=
  let s := { s with pair := { s.pair with peer := none, got := 0, miss := 0, dual := 0, activeAt := none, hbFor := none,
                                          hbJudged := some s.sctr.toNat, tofsBad := false } }
  setF (setF (setF (setF s F.PAIR_STAT_LINK_UP 0) F.PAIR_STAT_PEER_LOST 0) F.PAIR_STAT_PEER_ACTIVE 0) F.PAIR_STAT_PEER_MATCHED 0

/-- A node that becomes STANDBY starts a new agreement run and is not state-proven (R348, R397). -/
def becomeStandby (s : State) : State :=
  let s := { s with rs := { s.rs with provenNext := false } }
  setF (setR s R.PAIR_AGREE 0) F.RS_STAT_PROVEN 0

/-- The role becomes `new` at the boundary in force (R348). -/
def setRole (s : State) (new cause : Nat) : State :=
  let old := roleOf s
  if old = new then (if driving new && guarded s then releaseGuard s else s)
  else
    let s := rsAbort s 2 true
    let s := setF (setF s F.PAIR_STAT_ROLE new) F.PAIR_STAT_MATCHED 0
    let s := notPromotable s
    let s := setR (setR s R.PAIR_CHANGE_SCTR_LO (s.sctr.setWidth 32)) R.PAIR_CHANGE_SCTR_HI ((s.sctr >>> 32).setWidth 32)
    let s := bump s R.ROLE_CHANGES
    let s := if decide (old ≤ 2) != decide (new ≤ 2) then forgetPeer s else s
    let s := if new = roleStandby then becomeStandby s else s
    let s := if new = roleActive then s
      else setF { s with pair := { s.pair with ratifyBy := none } } F.PAIR_STAT_UNRATIFIED 0
    let s := { s with pair := { s.pair with grant := none, dual := 0, omHealth := s.sctr.toNat,
                                            leftActive := if old = roleActive then some s.sctr.toNat else s.pair.leftActive } }
    let s := if driving new then (if driving old && !guarded s then s else releaseGuard s) else guardAct s
    raiseIrq (pairEv s 0x0860 sevNotice (le 1 old ++ le 1 new ++ le 1 cause)) 13

/-- This node pulses `YIELD_N` over the sp that begins (R352). -/
def pulse (s : State) (yielding : Bool) : State :=
  setF { s with pair := { s.pair with yieldOut := some s.sctr.toNat, yielding := yielding } } F.PAIR_STAT_YIELD_IN 1

/-- An ACTIVE pulses `YIELD_N` for a reason of R354. -/
def yieldPulseOut (s : State) (reason : Nat) : State :=
  notice (pairEv (setFault (pulse s true) 8 0) 0x0861 sevError (le 1 reason)) 1 reason

/-- An ACTIVE yields (R354); it is state-proven unless the reason is a press fault (R397). -/
def doYield (s : State) (reason : Nat) : State :=
  let s := setRole (yieldPulseOut s reason) roleStandby (if reason = 4 then 1 else 6)
  if reason = 1 then s else setF s F.RS_STAT_PROVEN 1

/-- An ACTIVE withdraws (R348). -/
def withdraw (s : State) (cause : Nat) : State := notice (setRole s roleStandby cause) 3 0

/-- The node leaves a pair role, or changes between unpaired roles; an ACTIVE that becomes OFF yields first (R348). -/
def leavePair (s : State) (new cause : Nat) : State :=
  setRole (if roleOf s = roleActive ∧ new = roleOff then yieldPulseOut s 4 else s) new cause

/-- A grant accepted at boundary s: the pulse over sp s, and the outputs driven from s + 2 (R365). -/
def grantRole (s : State) (cause : Nat) : State :=
  { pulse s false with pair := { (pulse s false).pair with grant := some (s.sctr.toNat + 2, cause) } }

/-- A refused grant is logged (R352, R365): its source and CMD_RESULT. -/
def promoteRefused (s : State) (source result : Nat) : State :=
  pairEv s 0x086D sevWarning (le 1 source ++ le 1 result)

/-- Whether a PROMOTE condition holds on a STANDBY without own fault (R365). -/
def promoteOk (s : State) (force : Bool) : Bool :=
  isF s F.PAIR_STAT_PROMOTABLE || force ||
  (match s.pair.activeAt with
   | some t => decide (t + 48 < s.sctr.toNat)
   | none => true)

/-- The role is ratified (R366). -/
def ratify (s : State) : State := setF { s with pair := { s.pair with ratifyBy := none } } F.PAIR_STAT_UNRATIFIED 0

/-- The PROMOTE conditions applied to a grant: the state and CMD_RESULT (R365). -/
def grantTo (s : State) (force : Bool) (source cause : Nat) : State × Nat :=
  let s := refreshOwn s
  if roleOf s = roleActive then (ratify s, 1)
  else if roleOf s ≠ roleStandby then (promoteRefused s source 4, 4)
  else if isF s F.PAIR_STAT_OWN_FAULT || !promoteOk s force then (promoteRefused s source 2, 2)
  else (grantRole s cause, 1)

/-- Another party's pulse acts (R352); `ROLE_IN` that is high already ratifies the promotion (R366). -/
def pulseSeen (s : State) : State :=
  let s := refreshOwn s
  if roleOf s = roleActive then withdraw s 2
  else if roleOf s = roleStandby then
    if isF s F.PAIR_STAT_PROMOTABLE then
      let s := notice (setRole s roleActive 2) 2 0
      if isF s F.PAIR_CFG_ROLE_SOURCE && s.pair.roleIn then s
      else { s with pair := { s.pair with ratifyBy := some (s.sctr.toNat + 96 * getF s F.PAIR_CFG_RATIFY_MS) } }
    else promoteRefused s 1 2
  else s

/-! ### Restrike and intrusive tests begin (R390, R403) -/

def testRunning (s : State) : Bool := isF s F.SELFTEST_STAT_TEST_RUN

/-- What refuses a restrike, in the order of R390. -/
def restrikeRefusal (s : State) : Option Nat :=
  let peerOk := match s.pair.peer with
    | some p => p.role == roleActive && p.hash == issuingHash s
    | none => false
  if roleOf s ≠ roleStandby then some 0x082E
  else if !isF s F.PAIR_STAT_LINK_UP || !peerOk then some 0x082F
  else if [0, 1].any (fun b => bankState s b == bkArming || bankState s b == bkArmed) || swapState s != 0 then some 0x0830
  else if rsState s ≠ 0 then some 0x0831
  else if testRunning s then some 0x0833
  else none

/-- The reason with which a restrike ends Matched: 1 where a mismatch went before, else one without a code. -/
def restrikeWhy (s : State) : Option Nat := if isF s F.PAIR_STAT_DIVERGED then some 1 else none

/-- A restrike is accepted: source 1 host, 2 witness, 3 after a test (R389). -/
def startRestrike (s : State) (source : Nat) : State :=
  let s := notPromotable (leaveMatched s (restrikeWhy s))
  let s := rsClear s
  let s := { s with rs := { s.rs with startAt := s.sctr.toNat, chunkAt := s.sctr.toNat, q := 0, unit := 0 } }
  let s := setF (setF s F.RS_STAT_STATE 1) F.RS_CURSOR_NEXT 0
  rsSend (pairEv s 0x0871 sevNotice (le 1 source)) 1 0 1 0 0 0 []

/-- Whether an intrusive test runs: a press self-test, or on a STANDBY a calibration or a load diagnostic (R403). -/
def testNow (s : State) : Bool :=
  s.rs.testing.isSome || (roleOf s == roleStandby && pscIntrusive s)

/-- Bring TEST_RUN up to date, with the effects of a test that begins or ends on a STANDBY (R403). -/
def testWatch (s : State) : State :=
  let now := testNow s
  if now = testRunning s then s
  else if now then
    let s := setF s F.SELFTEST_STAT_TEST_RUN 1
    if roleOf s = roleStandby then rsAbort (notPromotable (leaveMatched s (some 8))) 9 true else s
  else
    let s := setF s F.SELFTEST_STAT_TEST_RUN 0
    if roleOf s = roleStandby ∧ isF s F.RS_CFG_AUTO_AFTER_TEST ∧ (restrikeRefusal s).isNone then startRestrike s 3 else s

end Sys2Proof.Machine
end

