-- ==== Sys2Proof/Machine/PscTest.lean ====
section
/-! DEFINITION. The intrusive operations of the power stage (R329, R334, R338), which count as tests on a STANDBY (R403). -/

namespace Sys2Proof.Machine

/-- How long a test takes in sp: 40 ms, or the 24 ms of a passive one (R334, R338). -/
def testSpan (passive : Bool) : Nat := if passive then 2304 else 3840

/-- Deassert the group enable of channel `n` unless a channel of the group needs it. -/
def restGroup (s : State) (n : Nat) : State :=
  if (groupChans (n / 4)).any (pscUses s) then s else setAmpEn s (n / 4) false

def execDiagTestEnd (obs : List DiagObs) (s : State) : Host.Outcome State Fault Refusal :=
  match s.psc.test with
  | none => .next s
  | some (unit, passive) =>
    if s.sctr.toNat < s.psc.testAt + testSpan passive then .next s
    else
      let s := { s with psc := { s.psc with test := none } }
      let s := unit.foldl (fun s n => diagPost s n (obs.getD n ⟨0, 0⟩) passive) s
      .next (testWatch (if passive then s else unit.foldl restGroup s))

def execPscDiag (c : Fin 8) (s : State) : Host.Outcome State Fault Refusal :=
  .next (serve s c.val 0x0701 (· == 2) false (fun s q =>
    let m := leAt q.payload 0 2
    match intrusiveRefusal s m false with
    | some r => (s, r)
    | none => (testWatch ((pscMask m).foldl diagQueue s), .ok [])))

def execPscCal (c : Fin 8) (s : State) : Host.Outcome State Fault Refusal :=
  .next (serve s c.val 0x0702 (· == 3) false (fun s q =>
    let m := leAt q.payload 0 2
    let mode := leAt q.payload 2 1
    match intrusiveRefusal s m (mode == 0 || decide (2 < mode)) with
    | some r => (s, r)
    | none => (testWatch ((pscMask m).foldl (fun s n =>
        setPsc (pscSetState s n psCal) n { pscCh s n with calBack := pscState s n, calMode := mode, calAt := s.sctr.toNat }) s), .ok [])))

/-- How long a calibration takes in sp: 10 ms, and 10 ms more for the loop trim (R329). -/
def calSpan (mode : Nat) : Nat := if mode = 2 then 1920 else 960

def execPscCalDone (n : Fin 16) (r : CalResult) (s : State) : Host.Outcome State Fault Refusal :=
  let i := n.val
  let x := pscCh s i
  if pscState s i = psCal ∧ x.calAt + calSpan x.calMode ≤ s.sctr.toNat then
    let s := calApply (pscSetState s i x.calBack) i x.calMode r
    .next (testWatch (restGroup (if x.calBack = psQueued then pscQueue s i else s) i))
  else .next s

end Sys2Proof.Machine
end

