-- ==== Sys2Proof/Machine/Ptp.lean ====
section
/-! DEFINITION. The PTP instances (R49, R50, R248): the leader an instance follows, the servo's updates, and the messages it sends.
What IEEE 1588 alone lays down in a message is a free value (notes/assumptions/23.md). -/

namespace Sys2Proof.Machine

/-- The function of instance `i`, and its port (R49, R232). -/
def ptpFn (i : Nat) : Nat := 0x21 + i
def ptpPort (s : State) (i : Nat) : Option Nat := portOfRole s i

/-- The instance's messages are served: it is enabled, the CP runs, and its port exists (R22, R49). -/
def ptpServed (s : State) (i : Nat) : Bool := fnOn s (ptpFn i) && cpIsRunning s && (ptpPort s i).isSome

/-- The clockClass an instance announces (R50). -/
def ptpClass (s : State) (i : Nat) : Nat :=
  if getF s (F.PTP_CFG0_MODE (ptpFn i)) = 0 then 255
  else
    let st := getF s F.DPLL_STAT_STAGE
    if selValid s && refType s (selSlot s) == 5 && st == stTrack then 6
    else if st = stHoldover ∧ s.clock.heldType5 then 7
    else 255

/-! ### Messages sent -/

/-- The 34 bytes of a message header: type, length, domain and interval, the rest free; `valid` is currentUtcOffsetValid. -/
def ptpHeader (s : State) (i type len : Nat) (valid : Bool) (log : Nat) : List Byte :=
  let free := freeList s 28
  let flag := (free.getD 2 0 &&& 0xFB) ||| (if valid then 4 else 0)
  [BitVec.ofNat 8 type] ++ free.take 1 ++ be 2 len ++ be 1 (getF s (F.PTP_CFG0_DOMAIN (ptpFn i))) ++ (free.drop 1).take 1 ++
  (free.drop 3).take 1 ++ [flag] ++ (free.drop 4).take 24 ++ (free.drop 1).take 1 ++ be 1 log

/-- A logarithmic interval as a signed byte. -/
def logByte (v : Nat) : Nat := if 8 ≤ v then v + 0xF0 else v

/-- Send a message of `body` after its header to the multicast address, or to the leader (R49). -/
def ptpSend (s : State) (i type : Nat) (event unicast valid : Bool) (log : Nat) (body : List Byte) : State :=
  match ptpPort s i with
  | none => s
  | some p =>
    let msg := ptpHeader s i type (34 + body.length) valid (logByte log) ++ body
    let s := nextFrees s 28
    let ttl := (Config.freeWord s.free).toNat % 256
    let dest := if unicast then (Config.freeWord (s.free + 1)).toNat else 0xE0000181
    let mac := if unicast then (Config.freeWord (s.free + 2)).toNat else groupMac 0xE0000181
    let s := nextFrees s 3
    let port := if event then 319 else 320
    ethSendCtl s p 2 mac 0x0800 (ctlIp (ethIp s p) dest (getF s (F.PTP_CFG1_DSCP (ptpFn i))) ttl 17 (ctlUdp port port msg))
      (if event then some (i, type == 0) else none)

/-- Free bytes as a message body. -/
def ptpFree (s : State) (n : Nat) : State × List Byte := (nextFrees s n, freeList s n)

/-- Announce: currentUtcOffset, priorities and clockClass (R50, R62). -/
def sendAnnounce (s : State) (i : Nat) : State :=
  let f := ptpFn i
  let cls := ptpClass s i
  let (s, x) := ptpFree s 24
  let body := x.take 10 ++ be 2 (getF s (F.PTP_CFG2_UTC_OFFSET f)) ++ (x.drop 10).take 1 ++ be 1 (getF s (F.PTP_CFG0_PRIORITY1 f)) ++
    be 1 cls ++ (x.drop 11).take 3 ++ be 1 (getF s (F.PTP_CFG0_PRIORITY2 f)) ++ (x.drop 14).take 10 ++ (x.drop 13).take 1
  ptpSend s i 0xB false false (isF s (F.PTP_CFG2_UTC_VALID f)) (getF s (F.PTP_CFG1_LOG_ANNOUNCE f)) body

/-- Sync: the port writes the egress time in flight and counts it (R248). -/
def sendSync (s : State) (i : Nat) : State :=
  let (s, x) := ptpFree s 10
  ptpSend s i 0x0 true false false (getF s (F.PTP_CFG1_LOG_SYNC (ptpFn i))) x

def sendDelayReq (s : State) (i : Nat) : State :=
  let f := ptpFn i
  let (s, x) := ptpFree s 10
  ptpSend s i 0x1 true (isF s (F.PTP_CFG0_HYBRID f)) false (getF s (F.PTP_CFG1_LOG_DELAYREQ f)) x

/-- The message of an interval, from an instance in its state (R49, R50). -/
def ptpInterval (s : State) (i : Nat) (what : PtpSend) : State :=
  match what with
  | .announce => if ptpLeads s i then sendAnnounce s i else s
  | .sync => if ptpLeads s i then sendSync s i else s
  | .delayReq => if (ptpInst s i).leader.isSome then sendDelayReq s i else s

/-- The instance takes the egress time-stamps returned to it: before each message it sends or takes (R248, log entry 55). -/
def ptpDrain (s : State) (i : Nat) : State := setPtpInst s i { ptpInst s i with egress := [] }

def execPtpMessageSend (inst : Fin 2) (what : PtpSend) (s : State) : Host.Outcome State Fault Refusal :=
  if ptpServed s inst.val then .next (ptpInterval (ptpDrain s inst.val) inst.val what) else .next s

/-! ### Messages received -/

/-- The instance follows a grandmaster; a change of leader is logged, with what of the identity a record's eight argument bytes
hold (R49, R66, log entry 36). A changed clockClass counts at the selector's next step (R37, log entry 37). -/
def ptpFollow (s : State) (i : Nat) (gm : BitVec 64) (cls : Nat) : State :=
  let old := (ptpInst s i).leader
  let s := setPtpInst s i { ptpInst s i with leader := some gm, cls := cls }
  if old = some gm then s else logEv s 0x056C (ptpFn i) sevNotice (le 1 i ++ be 8 gm.toNat)

/-- The instance leads: it has no external leader, and its slot is ABSENT (R50). -/
def ptpLead (s : State) (i : Nat) : State :=
  let s := setPtpInst s i { ptpInst s i with leader := none, cls := 255 }
  match ptpSlot s i with
  | some k => if fnOn s 0x20 && refPresent s k then reselect (setF s (refField k) refAbsent) else s
  | none => s

/-- Announce (R37, R49, R50). -/
def ptpAnnounce (s : State) (i : Nat) (gm : BitVec 64) (cls : Nat) (best : Bool) : State :=
  if best then ptpFollow s i gm cls
  else if getF s (F.PTP_CFG0_MODE (ptpFn i)) = 1 ∧ (ptpInst s i).leader.isSome then ptpLead s i
  else s

/-- A Sync or Follow_Up of the leader: the servo updates the steering where the instance's slot is selected (R46, R48). -/
def ptpServo (s : State) (i : Nat) (perr steer : Word) : State :=
  match ptpSlot s i with
  | some k => if selIs s k && (ptpInst s i).leader.isSome then setLoop s steer perr else s
  | none => s

/-- Delay_Req is answered by an instance that leads (R49). -/
def ptpDelayReq (s : State) (i : Nat) : State :=
  if ptpLeads s i then
    let (s, x) := ptpFree s 20
    ptpSend s i 0x9 false false false (getF s (F.PTP_CFG1_LOG_DELAYREQ (ptpFn i))) x
  else s

/-- The management ID of the default, current, parent and time-properties datasets, and the bytes of each (log entry 38). -/
def dataset (d : Fin 4) : Nat × Nat := [(0x2000, 20), (0x2001, 18), (0x2002, 32), (0x2003, 4)].getD d.val (0x2000, 20)

/-- A management message is answered: a GET of dataset `d` with that dataset, a SET with an error status (R49). The TLV's form is
that of IEEE 1588 (log entry 38), the datasets' content and the error's code are free. -/
def ptpManage (s : State) (i : Nat) (get : Option (Fin 4)) : State :=
  let (s, head) := ptpFree s 14
  match get with
  | some d =>
    let (s, x) := ptpFree s (dataset d).2
    ptpSend s i 0xD false false false 0x7 (head ++ be 2 1 ++ be 2 (2 + (dataset d).2) ++ be 2 (dataset d).1 ++ x)
  | none =>
    let (s, x) := ptpFree s 8
    ptpSend s i 0xD false false false 0x7 (head ++ be 2 2 ++ be 2 8 ++ x)

/-- Whether a message is an event message, on UDP port 319 (R49, R237). -/
def PtpMsg.event : PtpMsg → Bool
  | .sync _ _ | .delayReq => true
  | _ => false

/-- What an instance does with a message of its domain. -/
def ptpTake (s : State) (i : Nat) (msg : PtpMsg) : State :=
  match msg with
  | .announce gm cls best => ptpAnnounce s i gm cls.toNat best
  | .sync perr steer => ptpServo s i perr steer
  | .followUp perr steer => ptpServo s i perr steer
  | .delayReq => ptpDelayReq s i
  | .delayResp => s
  | .managementGet d => ptpManage s i (some d)
  | .managementSet => ptpManage s i none

/-- A PTP message in a datagram that has passed the checks of port `p`, classified: the state, and whether instance `i` gets it (R237). -/
def ptpArrives (s : State) (p i : Nat) (event : Bool) (c : Nat) : State × Bool :=
  if carriesPtp s p && ethRole s p == i then ((if event then stampIn s p i c else s), true)
  else if ethRole s p ≤ 1 then (ethCount s p 16, false)
  else ((controlFrame s p).1, false)

/-- The instance takes a message, where it is served and the domain is its own. -/
def ptpDeliver (s : State) (i domain : Nat) (msg : PtpMsg) : State :=
  if ptpServed s i && domain == getF s (F.PTP_CFG0_DOMAIN (ptpFn i)) then ptpTake (ptpDrain s i) i msg else s

def execPtpMessageReceive (inst : Fin 2) (h : RxHead) (cycle : Fin 10240) (domain : Byte) (msg : PtpMsg) (s : State) :
    Host.Outcome State Fault Refusal :=
  let r := rxHead s h 0x0800 0
  if r.2 then
    let t := ptpArrives r.1 h.port.val inst.val (PtpMsg.event msg) cycle.val
    .next (if t.2 then ptpDeliver t.1 inst.val domain.toNat msg else t.1)
  else .next r.1

end Sys2Proof.Machine
end

