-- ==== Sys2Proof/Machine/Pair.lean ====
section
/-! DEFINITION. The pair (chapter 12): roles on command and on the pins, heartbeats (R356 to R359), paired quantities (R360), proof
digests (R361, R362) and Matched (R398). -/

namespace Sys2Proof.Machine

/-! ### Roles on command and on the pins (R348, R352, R365, R377) -/

/-- Whether a bank that is armed or issues holds a solo plate (R349). -/
def soloPlate (s : State) : Bool := [0, 1].any (fun b => decide (bkArmed ≤ bankState s b) && !(bankRec s b).pair)

/-- What refuses `PAIR_ROLE_SET` 3 (R349). -/
def memberRefusal (s : State) : Option Nat :=
  if !fnOn s 0x48 then some 0x082D
  else if (portOfRole s 2).isNone then some 0x0823
  else if getF s F.TIME_STAT_SCTR_STATE ≠ timeTimed then some 0x0821
  else if soloPlate s then some 0x0822
  else none

/-- A role change that the next boundary makes. -/
def roleLater (s : State) (ch : Option Nat) (role cause : Nat) : State :=
  { s with pair := { s.pair with setTo := s.pair.setTo ++ [(ch, role, cause)] } }

def execPairRoleSet (c : Fin 8) (s : State) : Host.Outcome State Fault Refusal :=
  .next (serve s c.val 0x0801 (· == 1) false (fun s q =>
    let r := leAt q.payload 0 1
    if 3 < r then (s, .refused 0x0820 0)
    else if r < 3 then (roleLater (commit s q.ch) (some q.ch) r 1, .later)
    else
      match memberRefusal s with
      | some code => (s, .refused code 0)
      | none => if unpaired s then (roleLater (commit s q.ch) (some q.ch) roleStandby 1, .later) else (s, .ok [])))

def execPairYield (c : Fin 8) (s : State) : Host.Outcome State Fault Refusal :=
  .next (serve s c.val 0x0802 (· == 1) false (fun s q =>
    let peer := match s.pair.peer with
      | some p => p.flags / 2 % 2 == 1 && !isF s F.PAIR_STAT_PEER_LOST
      | none => false
    if roleOf s ≠ roleActive then (s, .refused 0x0826 0)
    else if leAt q.payload 0 1 % 2 = 0 ∧ !peer then (s, .refused 0x0827 0)
    else (refreshOwn { roleLater (commit s q.ch) (some q.ch) 5 1 with
      pair := { (roleLater (commit s q.ch) (some q.ch) 5 1).pair with yieldAsked := true } }, .later)))

/-- The ACTIVE yields on the first self-detected fault present (R354). -/
def selfYield (s : State) : State :=
  match faultReason s with
  | some r => if roleOf s = roleActive then doYield (rsAbort (refreshOwn s) 3 true) r else s
  | none => s

def execSelfFaultYield (s : State) : Host.Outcome State Fault Refusal := .next (atNext s selfYield)

def execYieldPulse (s : State) : Host.Outcome State Fault Refusal :=
  .next (atNext s (fun s => pulseSeen (setF s F.PAIR_STAT_YIELD_IN 1)))

/-- `ROLE_IN` low withdraws an ACTIVE outside the ratify window, at every boundary (R347, R348, R366). A node that stays ACTIVE unratified
under RATIFY_ACTION 0 keeps the role (log entry 63). -/
def roleLow (s : State) : State :=
  if isF s F.PAIR_CFG_ROLE_SOURCE && fnOn s 0x48 && !s.pair.roleIn && roleOf s == roleActive && s.pair.ratifyBy.isNone &&
      !isF s F.PAIR_STAT_UNRATIFIED then withdraw s 5
  else s

/-- `ROLE_IN` changes with ROLE_SOURCE 1: a rise grants or ratifies, a fall withdraws (R365, R366). -/
def roleIn (s : State) (high : Bool) : State :=
  if !isF s F.PAIR_CFG_ROLE_SOURCE || !fnOn s 0x48 then s
  else if high then (if inPairRole s then (grantTo s false 3 5).1 else s)
  else roleLow s

def execRoleInChange (high : Bool) (s : State) : Host.Outcome State Fault Refusal :=
  if s.pair.roleIn = high then .next s
  else .next (atNext { s with pair := { s.pair with roleIn := high } } (fun s => roleIn s high))

def execPromoteWindowEnd (s : State) : Host.Outcome State Fault Refusal :=
  match s.pair.promoteTo with
  | some t => if t ≤ s.sctr.toNat then .next (notPromotable s) else .next s
  | none => .next s

/-- RATIFY_MS ends without ratification (R366); `ROLE_IN` high is one with ROLE_SOURCE 1. -/
def unratified (s : State) : State :=
  if isF s F.PAIR_CFG_ROLE_SOURCE && s.pair.roleIn then ratify s
  else
    let s := { s with pair := { s.pair with ratifyBy := none } }
    let a := getF s F.PAIR_CFG_RATIFY_ACTION
    let s := pairEv (setFault (setF s F.PAIR_STAT_UNRATIFIED 1) 8 7) 0x0869 sevWarning (le 1 a)
    if a = 1 then roleLater s none roleStandby 9 else s

def execPairUnratified (s : State) : Host.Outcome State Fault Refusal :=
  match s.pair.ratifyBy with
  | some t => if t ≤ s.sctr.toNat ∧ roleOf s = roleActive then .next (unratified s) else .next s
  | none => .next s

/-- `PAIR_YIELD` at its boundary: reason 4 ends there (R354). -/
def doPairYield (s : State) : State :=
  let s := { s with pair := { s.pair with yieldAsked := false } }
  refreshOwn (if roleOf s = roleActive then doYield s 4 else s)

/-- A change to STANDBY at its boundary: a pair member's request of a node that is still unpaired, or the withdrawal of an ACTIVE. -/
def doStandby (s : State) (asked : Bool) (cause : Nat) : State :=
  if roleOf s = roleActive then (if asked then s else withdraw s cause)
  else if asked && unpaired s then setRole s roleStandby cause
  else s

/-- One role change at its boundary (R348): its channel is answered. -/
def doRoleChange (s : State) (x : Option Nat × Nat × Nat) : State :=
  let s := if x.2.1 = 5 then doPairYield s
    else if x.2.1 = roleStandby then doStandby s x.1.isSome x.2.2
    else leavePair s x.2.1 x.2.2
  answer s x.1 (.ok [])

/-- A grant whose sp s + 2 has come (R365). -/
def grantStep (s : State) : State :=
  match s.pair.grant with
  | some (t, cause) =>
    if t ≤ s.sctr.toNat then
      (if roleOf s = roleStandby then setRole s roleActive cause else { s with pair := { s.pair with grant := none } })
    else s
  | none => s

/-! ### Heartbeats (R350, R356 to R359) -/

/-- FLAGS of a heartbeat and of HEALTH (R358). -/
def pairFlags (s : State) : Nat :=
  let y := s.pair.yielding && s.pair.yieldOut == some s.sctr.toNat
  getF s F.PAIR_STAT_MATCHED + 2 * getF s F.PAIR_STAT_PROMOTABLE + 4 * getF s F.PAIR_STAT_OWN_FAULT + (if y then 8 else 0) +
  16 * getF s F.PAIR_STAT_DIVERGED + 32 * getF s F.PAIR_STAT_PEER_LOST + 64 * getF s F.PAIR_STAT_UNRATIFIED

/-- The heartbeat of this boundary is due: a pair node with a key, and it has not been sent (R357, R358). -/
def heartbeatDue (s : State) : Bool :=
  fnOn s 0x48 && inPairRole s && (keyAt s.pair.ses s.sctr.toNat).isSome && s.sctr.toNat % 12 == 0 &&
  !s.pair.sent.any (fun x => x.2.1 == s.sctr.toNat)

/-- Send a heartbeat, and remember its time for R350. -/
def sendHeartbeat (s : State) (frac : BitVec 16) : State :=
  let p := s.pair
  let pay := le 1 (roleOf s) ++ le 1 (pairFlags s) ++ le 2 frac.toNat ++ le 4 (issuingHash s).toNat ++ le 4 p.hbSeq ++
    le 4 p.hbSctr.toNat ++ le 2 p.hbFrac.toNat ++ le 6 0
  let s := pairSend s 1 pay
  { s with pair := { s.pair with sent := ((seqOf s.pair.ses.txSeq 1, s.sctr.toNat, frac) :: s.pair.sent).take 16 } }

def execPairHeartbeatSend (cycle : Fin 10240) (s : State) : Host.Outcome State Fault Refusal :=
  if heartbeatDue s then .next (sendHeartbeat s (fracOf cycle.val)) else .next s

/-- The SCTR that `lo` names, nearest to this node's, in 65,536ths of an sp with its fraction. -/
def instantOf (s : State) (lo frac : Nat) : Int := (extendSctr s lo * 65536 + frac : Nat)

/-- The pair time offset in ns, truncated (R350): `d` is (t2 - t1) - (t4 - t3) in 65,536ths of an sp. -/
def tofsNs (d : Int) : Int := (d * 1000000000).tdiv (2 * 65536 * 96000)

/-- The offset from a received heartbeat, where this node remembers sending the one it echoes (R350). -/
def measureTofs (s : State) (n : Nat) (p : List Byte) (now : Int) : State :=
  match s.pair.sent.find? (fun x => x.1 == leAt p 8 4) with
  | none => s
  | some x =>
    let t1 : Int := (n * 65536 + leAt p 2 2 : Nat)
    let t3 : Int := (x.2.1 * 65536 + x.2.2.toNat : Nat)
    let t4 := instantOf s (leAt p 12 4) (leAt p 16 2)
    let o := tofsNs ((now - t1) - (t4 - t3))
    let bad := decide (100 * getF s F.PAIR_LIMITS_TIME_LIMIT < o.natAbs)
    let was := s.pair.tofsBad
    let s := setR { s with pair := { s.pair with tofsBad := bad } } R.PAIR_TOFS (ofInt o)
    if bad && !was then pairEv s 0x086C sevWarning (le 4 (ofInt o).toNat) else s

/-- Two consecutive heartbeats report ACTIVE to an ACTIVE (R356). -/
def dualActive (s : State) : State :=
  let s := pairEv (setFault s 8 6) 0x0868 sevCritical []
  if getF s F.PAIR_CFG_NODE_IDX = 1 then roleLater s none roleStandby 7 else s

/-- The peer is back after four consecutive heartbeats (R359). -/
def peerBack (s : State) : State :=
  if isF s F.PAIR_STAT_PEER_LOST ∧ 4 ≤ s.pair.got then pairEv (setF s F.PAIR_STAT_PEER_LOST 0) 0x0866 sevNotice [] else s

/-- A restrike whose peer no longer reports ACTIVE, or whose plate differs, aborts (R394). -/
def restrikePeer (s : State) (role : Nat) (hash : Word) : State :=
  if rsState s = 0 then s
  else if role ≠ roleActive then rsAbort s 1 true
  else if hash ≠ issuingHash s then rsAbort s 6 true
  else s

/-- A heartbeat of boundary `n` is taken (R356, R358, R359): one that has not arrived by boundary n + 1 is missed, whatever it reports. -/
def takeHeartbeat (s : State) (f : PairFrame) (n : Nat) (frac : BitVec 16) : State :=
  let p := f.payload
  let role := leAt p 0 1
  let hash := BitVec.ofNat 32 (leAt p 4 4)
  let x := s.pair
  let dual := if roleOf s = roleActive ∧ role = roleActive then x.dual + 1 else 0
  let late := decide (n < s.sctr.toNat)
  let s := { s with pair := { x with peer := some ⟨role, leAt p 1 1, hash⟩, got := if late then x.got else x.got + 1,
                                     miss := if late then x.miss else 0, dual := dual,
                                     activeAt := if role = roleActive then some s.sctr.toNat else x.activeAt,
                                     hbSeq := f.seq.toNat, hbSctr := s.sctr.setWidth 32, hbFrac := frac,
                                     hbFor := if late then x.hbFor else some n } }
  let s := setF (putF (putF s F.PAIR_STAT_PEER_ACTIVE (role == roleActive)) F.PAIR_STAT_PEER_MATCHED (leAt p 1 1 % 2 == 1))
    F.PAIR_STAT_LINK_UP 1
  let s := peerBack (measureTofs s n p (s.sctr.toNat * 65536 + frac.toNat : Nat))
  let s := restrikePeer s role hash
  if dual = 2 then dualActive s else s

def execPairHeartbeatReceive (f : PairFrame) (cycle : Fin 10240) (s : State) : Host.Outcome State Fault Refusal :=
  .next (pairTake s f 1 (fun s n => takeHeartbeat s f n (fracOf cycle.val)))

/-- The bytes of an Omzor message before its TAG (R363). -/
def omBytes (type session seq sctr pairId node : Nat) (pay : List Byte) : List Byte :=
  le 1 type ++ le 1 1 ++ le 2 pay.length ++ le 4 session ++ le 8 seq ++ le 8 sctr ++ le 4 pairId ++ le 1 node ++ le 3 0 ++ pay

/-- Send an Omzor message under session `x`: the session after it, and the message; nothing without a key. -/
def omForm (s : State) (x : Session) (type pairId node : Nat) (pay : List Byte) : Option (Session × List Byte) :=
  match keyAt x s.sctr.toNat, omzorPort s with
  | some k, some _ =>
    let seq := seqOf x.txSeq 0 + 1
    let m := omBytes type x.id.toNat seq s.sctr.toNat pairId node pay
    some ({ x with txSeq := setSeq x.txSeq 0 seq }, m ++ tagOf k m)
  | _, _ => none

/-- A datagram to an IPv4 address leaves on the Omzor port, to and from UDP port `port` (R363). -/
def omDatagram (s : State) (dst port : Nat) (m : List Byte) : State :=
  match omzorPort s with
  | some p => sendUdp s p dst port port m
  | none => s

/-- A node sends a message's bytes to its witness. -/
def omOut (s : State) (m : List Byte) : State := omDatagram s (ipOfWord (getR s R.WIT_IP)) (getF s F.WIT_PORT_PORT) m

/-- A node sends to its witness. -/
def omSend (s : State) (type : Nat) (pay : List Byte) : State :=
  match omForm s s.pair.om type (getR s R.PAIR_ID).toNat (getF s F.PAIR_CFG_NODE_IDX) pay with
  | some (x, m) => omOut { s with pair := { s.pair with om := x } } m
  | none => s

/-- The peer is lost (R359): PEER_LOSS of kind 1 leaves at once. -/
def peerLost (s : State) : State :=
  let s := setF (setF s F.PAIR_STAT_PEER_LOST 1) F.PAIR_STAT_LINK_UP 0
  let s := pairEv (setFault s 8 2) 0x0865 sevError []
  let s := omSend s 6 (le 1 1 ++ le 1 0 ++ le 2 0 ++ le 4 0 ++ le 8 s.sctr.toNat)
  rsAbort (agreeReset s 4) 1 true

/-- The peer's heartbeat of the boundary before this one is judged at most once, and has not come (R359). -/
def heartbeatGone (s : State) : Bool :=
  let n := s.sctr.toNat
  fnOn s 0x48 && inPairRole s && (keyAt s.pair.ses n).isSome && n % 12 == 1 && s.pair.hbFor != some (n - 1) &&
  decide (s.pair.hbJudged.getD 0 + 1 < n)

/-- A heartbeat is missed; the fourth in a row loses the peer (R359). -/
def missHeartbeat (s : State) : State :=
  let p := s.pair
  let s := bump { s with pair := { p with got := 0, miss := p.miss + 1, dual := 0, hbJudged := some (s.sctr.toNat - 1) } } R.HB_MISSED
  if 4 ≤ p.miss + 1 ∧ !isF s F.PAIR_STAT_PEER_LOST then peerLost s else s

def execHeartbeatMissed (s : State) : Host.Outcome State Fault Refusal :=
  if heartbeatGone s then .next (missHeartbeat s) else .next s

/-! ### Paired quantities (R360) -/

/-- The bytes of a record. -/
def pqBytes (r : PqRec) : List Byte :=
  match r with
  | .direct e o w k => le 1 1 ++ le 1 10 ++ le 2 (if e then 1 else 0) ++ le 4 o.toNat ++ le 4 w.toNat ++ le 2 k.toNat
  | .ratio p w a =>
    let (f, t, x) := match a with
      | some (t, x) => (1, t.toNat, x.toNat)
      | none => (0, 0, 0)
    le 1 2 ++ le 1 15 ++ le 2 p.val ++ le 4 w.toNat ++ le 1 f ++ le 8 t ++ le 2 x
  | .sync p k t x => le 1 3 ++ le 1 11 ++ le 2 p.val ++ le 1 k.val ++ le 8 t.toNat ++ le 2 x.toNat
  | .sense c a b d e => le 1 4 ++ le 1 16 ++ le 2 c.val ++ le 4 a.toNat ++ le 4 b.toNat ++ le 4 d.toNat ++ le 4 e.toNat

/-- A record from its TYPE, INDEX and data. -/
def pqOf (type index : Nat) (d : List Byte) : Option PqRec :=
  let w := fun o => BitVec.ofNat 32 (leAt d o 4)
  if type = 1 ∧ index ≤ 1 then some (.direct (index == 1) (BitVec.ofNat 24 (leAt d 0 4)) (w 4) (BitVec.ofNat 16 (leAt d 8 2)))
  else if 15 < index then none
  else if type = 2 then
    some (.ratio (Fin.ofNat 16 index) (w 0) (if leAt d 4 1 % 2 = 1 then some (BitVec.ofNat 64 (leAt d 5 8), BitVec.ofNat 16 (leAt d 13 2))
      else none))
  else if type = 3 ∧ leAt d 0 1 ≤ 3 then
    some (.sync (Fin.ofNat 16 index) (Fin.ofNat 4 (leAt d 0 1)) (BitVec.ofNat 64 (leAt d 1 8)) (BitVec.ofNat 16 (leAt d 9 2)))
  else if type = 4 then some (.sense (Fin.ofNat 16 index) (w 0) (w 4) (w 8) (w 12))
  else none

/-- The records of a part from offset `o`. -/
def pqParse (p : List Byte) : Nat → Nat → List PqRec
  | 0, _ => []
  | n + 1, o =>
    let len := leAt p (o + 1) 1
    let rest := pqParse p n (o + 4 + len)
    match pqOf (leAt p o 1) (leAt p (o + 2) 2) ((p.drop (o + 4)).take len) with
    | some r => r :: rest
    | none => rest

/-- Split byte strings into parts of at most 1,024 bytes (log entry 22). -/
def partsOf (rs : List (List Byte)) : List (List (List Byte)) :=
  rs.foldl (fun ps r =>
    match ps.getLast? with
    | some p => if (p.map List.length).sum + r.length ≤ 1024 then ps.dropLast ++ [p ++ [r]] else ps ++ [[r]]
    | none => [[r]]) []

/-- The boundary of the last role change (`PAIR_CHANGE_SCTR`). -/
def changedAt (s : State) : Nat := (getR s R.PAIR_CHANGE_SCTR_LO).toNat + 2 ^ 32 * (getR s R.PAIR_CHANGE_SCTR_HI).toNat

/-- Whether the set of the boundary in force is this node's to send: it is ACTIVE since that boundary or before, or ceased to
be ACTIVE at it, or ceases at the next (R360, R369). -/
def setMine (s : State) : Bool :=
  if roleOf s = roleActive then decide (changedAt s ≤ s.sctr.toNat)
  else s.pair.leftActive == some s.sctr.toNat || s.pair.leftActive == some (s.sctr.toNat + 1)

/-- The ACTIVE sends the set of this boundary, its decisions complete (R360). -/
def sendSet (s : State) : State :=
  if !setMine s || !fnOn s 0x48 then s
  else
    let mine := (s.paired.own.filter (fun x => x.1 == s.sctr.toNat)).map (fun x => pqBytes x.2)
    let parts := if mine.isEmpty then [[]] else partsOf mine
    (List.range parts.length).foldl (fun s i =>
      let l := parts.getD i []
      pairSend s 2 (le 2 l.length ++ le 1 i ++ le 1 (if i + 1 = parts.length then 1 else 0) ++ l.flatten)) s

/-- A part of the set of boundary `n` is kept. -/
def takeSet (s : State) (p : List Byte) (n : Nat) : State :=
  if n + 8 < s.sctr.toNat then s
  else
    let part := leAt p 2 1
    let recs := pqParse p (leAt p 0 2) 4
    let old := (s.paired.got.find? (fun g => g.n == n)).getD ⟨n, [], none⟩
    let g : PqSet := { old with parts := (part, recs) :: old.parts.filter (fun x => x.1 != part),
                                last := if leAt p 3 1 = 1 then some part else old.last }
    let s := { s with paired := { s.paired with got := g :: s.paired.got.filter (fun g => g.n != n) } }
    (List.range 16).foldl refreshSlip s

/-- Whether a set of boundary `n` is this node's to keep: it is STANDBY, or became ACTIVE after that boundary (R360). -/
def keepsSet (s : State) (n : Nat) : Bool :=
  roleOf s == roleStandby || (roleOf s == roleActive && decide (n < changedAt s))

/-- A part of a set that has been taken. -/
def takeSetFrame (f : PairFrame) (s : State) (n : Nat) : State := if keepsSet s n then takeSet s f.payload n else s

def execPairedQuantitySetReceive (f : PairFrame) (s : State) : Host.Outcome State Fault Refusal :=
  .next (pairTake s f 2 (takeSetFrame f))

/-- The records of a set whose every part has come, in their order. -/
def setRecs (g : PqSet) : Option (List PqRec) :=
  match g.last with
  | none => none
  | some l =>
    let ps := (List.range (l + 1)).map (fun i => g.parts.find? (fun x => x.1 == i))
    if ps.all Option.isSome then some (ps.flatMap (fun p => (p.map (·.2)).getD [])) else none

/-- The place of a direct write in the order of acceptance. -/
def pqOrder (r : PqRec) : Nat :=
  match r with
  | .direct _ _ _ k => k.toNat
  | _ => 0

def pqIns (r : PqRec) : List PqRec → List PqRec
  | [] => [r]
  | x :: t => if pqOrder r < pqOrder x then r :: x :: t else x :: pqIns r t

/-- One record is applied (R23); a direct write takes its place among those of this boundary. -/
def applyRec (s : State) (r : PqRec) : State :=
  match r with
  | .direct e o w _ =>
    let id := if e then (o.toNat - 0x400000) / 4 else o.toNat / 4
    { s with eng := { s.eng with dws := s.eng.dws ++ [⟨e, id, w, s.sctr.toNat⟩] } }
  | .ratio p w a => applyRatio s p.val w (a.map (fun x => (x.1.toNat, x.2)))
  | .sync p k t x => applySync s p.val k.val t.toNat x
  | .sense c a b d e => applySense s c.val [a, b, d, e]

/-- The running sense cross-check compares one sp: own and received records (R402). -/
def senseCompare (s : State) (n : Nat) (own got : List PqRec) : State :=
  match s.rs.sense with
  | none => s
  | some k =>
    let pick := fun (l : List PqRec) => l.findSome? (fun r => match r with
      | .sense c v i _ _ => if c.val = k.ch then some (v, i) else none
      | _ => none)
    match pick own, pick got with
    | some a, some b =>
      if n < k.start ∨ k.start + 96 ≤ n then s
      else
        let fin := finite a.1 && finite a.2 && finite b.1 && finite b.2
        { s with rs := { s.rs with sense := some { k with v := k.v + (fixed149 a.1 - fixed149 b.1).natAbs,
                                                          i := k.i + (fixed149 a.2 - fixed149 b.2).natAbs, n := k.n + 1,
                                                          bad := k.bad || !fin } } }
    | _, _ => s

/-- A STANDBY without the set of its boundary (R360). -/
def pqLate (s : State) : State :=
  agreeReset (setFault (bump s R.PQ_LATE) 8 3) 3

/-- The boundary whose set is applied at this one. -/
def setAt (s : State) : Nat := s.sctr.toNat - 8

/-- Whether the set due at this boundary has not been applied yet. -/
def pqDue (s : State) : Bool :=
  decide (8 ≤ s.sctr.toNat) && (s.paired.own.any (fun x => decide (x.1 ≤ setAt s)) || s.paired.got.any (fun g => decide (g.n ≤ setAt s)) ||
    (roleOf s == roleStandby && decide (s.paired.doneTo < s.sctr.toNat)))

/-- The set of boundary n is applied at n + 8: what was received, else this node's own decisions (R360). -/
def applyPq (s : State) : State :=
  if !pqDue s then s
  else
    let n := setAt s
    let got := (s.paired.got.find? (fun g => g.n == n)).bind setRecs
    let own := (s.paired.own.filter (fun x => x.1 == n)).map (·.2)
    let standby := roleOf s == roleStandby
    let s := match got with
      | some l => if standby then senseCompare s n own l else s
      | none => if standby then pqLate s else s
    let use := if unpaired s then own else got.getD own
    let s := (use.foldl (fun l r => pqIns r l) []).foldl applyRec s
    let s := { s with paired := { own := s.paired.own.filter (fun x => decide (n < x.1)),
                                  got := s.paired.got.filter (fun g => decide (n < g.n)), doneTo := s.sctr.toNat } }
    (List.range 16).foldl refreshSlip s

/-! ### Proof digests (R361, R362) -/

/-- Whether a digest group exists: its sinks do. -/
def digExists (s : State) (g : Nat) : Bool :=
  if g < 512 then fnOn s 0x09 && (txFlow s g).isSome
  else if g < 528 then fnOn s (0x10 + (g - 512)) && decide (0 < sapTxCh s (g - 512))
  else if g = 528 then (List.range 16).any (fun n => fnState s (pscFn n) != fnDisabled)
  else if g = 529 then fnOn s 0x2A && decide (0 < getF s F.TAP_CFG_CAP_COUNT)
  else fnOn s 0x28 && (List.range 512).any (fun c => isF s (F.CONV_MAP_USED c) && isF s (F.CONV_MAP_DIR c))

/-- Whether a group's period ends at this boundary. -/
def digEnds (s : State) (g : Nat) : Bool :=
  let t := s.sctr.toNat
  if g < 512 then
    match txFlow s g with
    | some f => t % f.p == f.ofs
    | none => false
  else if g = 529 then t % 16 == 0
  else t % 12 == 0

/-- The values a group's sinks have just read, in ascending channel order. -/
def digValues (s : State) (g : Nat) : List Word :=
  let v := fun kind i => memGet s.dsp.sinkVals (4096 * kind + i)
  if g < 512 then
    match txFlow s g with
    | some f => (List.range f.ch).map (fun c => v 1 (f.base + c))
    | none => []
  else if g < 528 then
    let n := g - 512
    (List.range (sapTxCh s n)).map (fun c => v 2 (getF s (F.SAP_CHAN_TX_BASE (sapFn n)) + c))
  else if g = 528 then (List.range 16).map (v 3)
  else if g = 529 then (List.range (getF s F.TAP_CFG_CAP_COUNT)).map (v 4)
  else ((List.range 512).filter (fun c => isF s (F.CONV_MAP_USED c) && isF s (F.CONV_MAP_DIR c))).map (v 5)

/-- One group folds its values of this boundary; a group that has just come to exist starts with its next period. -/
def digFold (s : State) (g : Nat) : State :=
  let run := s.pair.digRun.find? (fun x => x.1 == g)
  let rest := s.pair.digRun.filter (fun x => x.1 != g)
  if !digExists s g then { s with pair := { s.pair with digRun := rest } }
  else
    let done := digEnds s g
    match run with
    | none => if done then { s with pair := { s.pair with digRun := (g, 0xFFFFFFFF) :: rest } } else s
    | some x =>
      let c := crc32cFrom x.2 ((digValues s g).flatMap (fun w => le 4 w.toNat))
      if done then
        { s with pair := { s.pair with digRun := (g, 0xFFFFFFFF) :: rest, digDue := s.pair.digDue ++ [⟨g, s.sctr.toNat, ~~~c⟩] } }
      else { s with pair := { s.pair with digRun := (g, c) :: rest } }

/-- The groups that the sinks of this boundary feed. -/
def digStep (s : State) : State :=
  if !inPairRole s || !fnOn s 0x48 then { s with pair := { s.pair with digRun := [], digDue := [], digOwn := [] } }
  else (List.range 531).foldl digFold s

/-- A digest frame's payload. -/
def digBytes (l : List Digest) : List Byte :=
  le 2 l.length ++ le 2 0 ++ l.flatMap (fun d => le 2 d.group ++ le 2 0 ++ le 4 d.end_ ++ le 4 d.crc.toNat)

/-- Digests that have been formed are sent by the ACTIVE and held by the STANDBY. -/
def putDigests (s : State) (l : List Digest) : State :=
  let s := { s with pair := { s.pair with digDue := s.pair.digDue.filter (fun d => !l.contains d) } }
  if l.isEmpty then s
  else if roleOf s = roleActive then pairSend s 3 (digBytes l)
  else { s with pair := { s.pair with digOwn := s.pair.digOwn ++ l } }

def execDigestPeriodEnd (g : Fin 531) (s : State) : Host.Outcome State Fault Refusal :=
  .next (putDigests s (s.pair.digDue.filter (fun d => d.group == g.val)))

/-- The node becomes DIVERGED, and no longer state-proven (R362, R397, R399). -/
def diverge (s : State) : State :=
  setF (setF s F.PAIR_STAT_DIVERGED 1) F.RS_STAT_PROVEN 0

/-- A DIGEST_REPORT: kind, group or press, period end, and the two CRCs (R364). -/
def reportDigest (s : State) (kind g end_ : Nat) (a b : Word) : State :=
  omQueue s 4 (le 1 kind ++ le 1 0 ++ le 2 g ++ le 8 end_ ++ le 4 a.toNat ++ le 4 b.toNat)

/-- A digest differs (R362); while a restrike runs only the agreement run ends (R395). -/
def digMismatch (s : State) (d : Digest) (active : Word) : State :=
  let s := agreeReset s 1
  if rsState s ≠ 0 then s
  else
    let s := { s with rs := { s.rs with mismTotal := s.rs.mismTotal + 1 } }
    let s := bump (diverge s) R.DIGEST_MISMATCH
    let s := if isF s F.DIGEST_MISM_INFO_VALID then s
      else setR (setR s R.DIGEST_MISM_INFO (BitVec.ofNat 32 (d.group + 2 ^ 31))) R.DIGEST_MISM_SCTR (BitVec.ofNat 32 d.end_)
    let s := pairEv (setFault s 8 1) 0x0864 sevError (le 2 d.group ++ le 4 d.end_)
    reportDigest s 1 d.group d.end_ active d.crc

/-- One received entry is compared with this node's own digest (R362). -/
def compareDigest (s : State) (g lo : Nat) (crc : Word) : State :=
  match (s.pair.digOwn ++ s.pair.digDue).find? (fun d => d.group == g && d.end_ % 2 ^ 32 == lo) with
  | none => s
  | some d =>
    let s := { s with pair := { s.pair with digOwn := s.pair.digOwn.filter (· != d), digDue := s.pair.digDue.filter (· != d) } }
    if d.crc = crc then s else digMismatch s d crc

/-- The entries of a digest frame, on a STANDBY. -/
def takeDigests (f : PairFrame) (s : State) (_ : Nat) : State :=
  if roleOf s = roleStandby then
    (List.range (leAt f.payload 0 2)).foldl (fun s i =>
      let o := 4 + 12 * i
      compareDigest s (leAt f.payload o 2) (leAt f.payload (o + 4) 4) (BitVec.ofNat 32 (leAt f.payload (o + 8) 4))) s
  else s

def execDigestReceive (f : PairFrame) (s : State) : Host.Outcome State Fault Refusal := .next (pairTake s f 3 (takeDigests f))

/-- The digests of a STANDBY that have waited 24 sp (R362). -/
def digOverdue (s : State) (g : Option Nat) : List Digest :=
  s.pair.digOwn.filter (fun d => decide (d.end_ + 24 ≤ s.sctr.toNat) && (g.isNone || g == some d.group))

def missDigests (s : State) (l : List Digest) : State :=
  if l.isEmpty then s
  else agreeReset (bump { s with pair := { s.pair with digOwn := s.pair.digOwn.filter (fun d => !l.contains d) } } R.DIGEST_MISSING l.length) 2

def execDigestMissing (g : Fin 531) (s : State) : Host.Outcome State Fault Refusal :=
  .next (missDigests s (digOverdue s (some g.val)))

/-! ### Matched (R362, R398) -/

/-- The first failing condition of R398, as R379 codes reasons; `some none` where it has no code. -/
def unmatchedWhy (s : State) : Option (Option Nat) :=
  let peerOk := match s.pair.peer with
    | some p => p.role == roleActive && p.hash == issuingHash s
    | none => false
  if isF s F.PAIR_STAT_PEER_LOST || !isF s F.PAIR_STAT_LINK_UP then some (some 4)
  else if !peerOk then some none
  else if isF s F.PAIR_STAT_DIVERGED then some (some (if isF s F.DIGEST_MISM_INFO_VALID then 1 else 7))
  else if !isF s F.RS_STAT_PROVEN || decide ((getR s R.RS_FILL).toNat < fillTime s) then some none
  else if (getR s R.PAIR_AGREE).toNat < 1024 then some (some s.pair.agreeWhy)
  else if decide (100 * getF s F.PAIR_LIMITS_TIME_LIMIT < (sgn (getR s R.PAIR_TOFS)).natAbs) then some (some 6)
  else if isF s F.PAIR_STAT_OWN_FAULT then some (some 5)
  else if rsState s ≠ 0 then some none
  else if testRunning s then some (some 8)
  else none

/-- A STANDBY enters or leaves Matched (R355, R398). -/
def matchedStep (s : State) : State :=
  if roleOf s ≠ roleStandby then s
  else
    match unmatchedWhy s with
    | none =>
      if isF s F.PAIR_STAT_MATCHED then s
      else
        let s := setF (setF s F.PAIR_STAT_MATCHED 1) F.PAIR_STAT_PROMOTABLE 1
        pairEv { s with pair := { s.pair with promoteTo := none } } 0x0862 sevNotice []
    | some why =>
      let s := leaveMatched s why
      if isF s F.PAIR_STAT_OWN_FAULT || testRunning s then notPromotable s else s

/-- The fill clock of this boundary (R398). -/
def fillStep (s : State) : State :=
  match s.rs.fillFrom with
  | some t => setR s R.RS_FILL (BitVec.ofNat 32 (min (s.sctr.toNat - t) 0xFFFFFFFF))
  | none => s

/-- The agreement run of this boundary (R362): after what ended it since the last boundary, the late set of this one included, it stays 0. -/
def agreeStep (s : State) : State :=
  if roleOf s ≠ roleStandby then s
  else if isF s F.PAIR_STAT_OWN_FAULT then agreeReset s 5
  else if isF s F.PAIR_STAT_PEER_LOST then agreeReset s 4
  else if s.pair.agreeHit then { s with pair := { s.pair with agreeHit := false } }
  else if s.pair.digOwn.any (fun d => decide (d.end_ < s.sctr.toNat)) then s
  else bump s R.PAIR_AGREE

/-- The role changes of this boundary, in their order: a self-detected fault, `ROLE_IN`, a grant, commands (R348). -/
def roleStep (s : State) : State :=
  let s := grantStep (roleLow (selfYield s))
  let l := s.pair.setTo
  let s := l.foldl doRoleChange { s with pair := { s.pair with setTo := [] } }
  let out := s.pair.yieldOut == some s.sctr.toNat
  putF { s with pair := { s.pair with yieldOut := if out then s.pair.yieldOut else none, yielding := s.pair.yielding && out } }
    F.PAIR_STAT_YIELD_IN out

end Sys2Proof.Machine
end

