-- ==== Sys2Proof/Machine/Restrike.lean ====
section
/-! DEFINITION. The restrike (R380 to R399): the STANDBY's states and chunks, the ACTIVE's cursor, the input ring, replays, and the
rolling state digest. -/

namespace Sys2Proof.Machine

/-! ### Units (R382) -/

/-- The groups of the unit that begins a list: a chain up to its last group. -/
def chainOf : List Group → List Group
  | [] => []
  | g :: t => if g.loop then g :: chainOf t else [g]

/-- The groups of the unit whose first group is `i`. -/
def unitOf (s : State) (i : Nat) : List Group := chainOf ((issuingGroups s).drop i)

/-- The bits of a mask, ascending. -/
def onesOf (n m : Nat) : List Nat := (List.range n).filter (fun i => m / 2 ^ i % 2 == 1)

/-- The run words of a group in the order of R396, as addresses lane * 32,768 + word. -/
def runAddrs (g : Group) : List Nat :=
  g.runs.flatMap (fun r => (onesOf 32 r.lanes.toNat).flatMap (fun l => (List.range r.count).map (fun w => l * 32768 + r.base + w)))

/-- The accumulator cells of a group in the order of R396: LA, segment and lane. -/
def accCellsOf (g : Group) : List (Nat × Nat × Nat) :=
  (onesOf 4 g.accLa).flatMap (fun a => (List.range 4).flatMap (fun k => (onesOf 32 g.accLanes.toNat).map (fun l => (a, k, l))))

/-- The place of a cell in the accumulator areas. -/
def cellAt (p : Nat) (c : Nat × Nat × Nat) : Nat := 512 * p + 128 * c.1 + 32 * c.2.1 + c.2.2

/-- The presses of the issuing plate, ascending. -/
def issuingPresses (s : State) : List Nat :=
  match issuingBank s with
  | some b => onesOf 4 (bankRec s b).pressMask
  | none => []

/-- C, the number of coefficient chunks (R391). -/
def chunkCount (s : State) : Nat := 256 * (issuingPresses s).length

/-- The press and first word of coefficient chunk `q`. -/
def chunkPlace (s : State) (q : Nat) : Nat × Nat := ((issuingPresses s).getD (q / 256) 0, 256 * (q % 256))

/-! ### Commands (R390, R394, R407) -/

def execRestrikeStart (c : Fin 8) (s : State) : Host.Outcome State Fault Refusal :=
  .next (serve s c.val 0x0806 (· == 0) false (fun s _ =>
    match restrikeRefusal s with
    | some code => (s, .refused code 0)
    | none => (startRestrike s 1, .ok [])))

def execRestrikeAbort (c : Fin 8) (s : State) : Host.Outcome State Fault Refusal :=
  .next (serve s c.val 0x0807 (· == 0) false (fun s _ =>
    if rsState s = 0 ∧ s.rs.serve.isNone then (s, .refused 0x0832 0) else (rsAbort s 8 true, .ok [])))

/-! ### START and its answers (R389, R390) -/

/-- A restrike chunk of a KIND is taken: `f` gets the state and its copy point (R393, R396). -/
def takeChunk (s : State) (x : PairFrame) (kind : Nat) (f : State → Nat → State) : State :=
  if leAt x.payload 0 1 = kind then pairTake s x 5 f else s

/-- Whether the ACTIVE serves a restrike. -/
def canServeRs (s : State) : Bool :=
  roleOf s == roleActive && s.eng.running && [0, 1].all (fun b => bankState s b != bkArming && bankState s b != bkArmed) &&
  swapState s == 0

/-- The ACTIVE answers START. -/
def answerStart (s : State) (d : Nat) : State :=
  if canServeRs s then
    let c0 := s.sctr.toNat + 4
    let s := { s with rs := { s.rs with serve := some ⟨c0, 0, false, 0, 0, false, false, 0, d⟩, copying := none } }
    rsSend s 2 0 1 0 0 c0 []
  else rsSend s 3 0 1 11 0 0 []

/-- START (R390). -/
def takeStart (f : PairFrame) (s : State) (_ : Nat) : State := answerStart s (leAt f.payload 3 1)

def execRestrikeStartReceive (f : PairFrame) (s : State) : Host.Outcome State Fault Refusal := .next (takeChunk s f 1 (takeStart f))

/-- ACCEPT (R389). -/
def takeAccept (f : PairFrame) (s : State) (_ : Nat) : State :=
  if rsState s ≠ 1 then s
  else
    let r := { s.rs with c0 := leAt f.payload 8 8, q := 0, chunkAt := s.sctr.toNat }
    setF { s with rs := r } F.RS_STAT_STATE 2

def execRestrikeAccept (f : PairFrame) (s : State) : Host.Outcome State Fault Refusal := .next (takeChunk s f 2 (takeAccept f))

/-- REFUSE (R389). -/
def takeRefuse (_ : PairFrame) (s : State) (_ : Nat) : State := if rsState s = 1 then rsAbort s 11 false else s

def execRestrikeRefuse (f : PairFrame) (s : State) : Host.Outcome State Fault Refusal := .next (takeChunk s f 3 (takeRefuse f))

/-- ABORT (R394). -/
def takeAbort (f : PairFrame) (s : State) (_ : Nat) : State := rsAbort s (leAt f.payload 4 2) false

def execRestrikeAbortReceive (f : PairFrame) (s : State) : Host.Outcome State Fault Refusal := .next (takeChunk s f 4 (takeAbort f))

def execRestrikeRequestTimeout (s : State) : Host.Outcome State Fault Refusal :=
  if rsState s = 1 ∧ s.rs.startAt + 96 ≤ s.sctr.toNat then .next (rsAbort s 1 true) else .next s

/-- No chunk for 1 s after ACCEPT, outside FILL (R394). -/
def chunksGone (s : State) : Bool :=
  decide (2 ≤ rsState s) && decide (rsState s ≤ 4) && decide (s.rs.chunkAt + 96000 ≤ s.sctr.toNat)

def execRestrikeChunkTimeout (s : State) : Host.Outcome State Fault Refusal :=
  if chunksGone s then .next (rsAbort s 10 true) else .next s

/-! ### Chunks as they come (R393, R396) -/

/-- A part that comes in sp `now` joins its chunk. -/
def addPart (old : Option Chunk) (p : List Byte) (n now : Nat) : Chunk :=
  let c := match old with
    | some c => if c.at_ = n then c else ⟨leAt p 4 2, n, now, [], none⟩
    | none => ⟨leAt p 4 2, n, now, [], none⟩
  let part := leAt p 1 1
  { c with cameAt := now, parts := (part, p.drop 16) :: c.parts.filter (fun x => x.1 != part), last := if leAt p 2 1 = 1 then some part else c.last }

/-- The data of a chunk whose every part has come. -/
def chunkData (c : Chunk) : Option (List Byte) :=
  match c.last with
  | none => none
  | some l =>
    let ps := (List.range (l + 1)).map (fun i => c.parts.find? (fun x => x.1 == i))
    if ps.all Option.isSome then some (ps.flatMap (fun p => (p.map (·.2)).getD [])) else none

/-- Keep a part in a list of chunks by INDEX. -/
def keepPart (l : List Chunk) (p : List Byte) (n now : Nat) : List Chunk :=
  let i := leAt p 4 2
  addPart (l.find? (fun c => c.index == i)) p n now :: l.filter (fun c => c.index != i)

/-- A part of a coefficient chunk (R391, R393). -/
def takeCoefPart (f : PairFrame) (s : State) (n : Nat) : State :=
  if rsState s = 2 then { s with rs := { s.rs with coef := keepPart s.rs.coef f.payload n s.sctr.toNat, chunkAt := s.sctr.toNat } } else s

def execCoefficientChunkReceive (f : PairFrame) (s : State) : Host.Outcome State Fault Refusal := .next (takeChunk s f 5 (takeCoefPart f))

/-- A part of the ramp set (R392, R393). -/
def takeRampPart (f : PairFrame) (s : State) (n : Nat) : State :=
  if rsState s = 2 ∨ rsState s = 3 then
    { s with rs := { s.rs with ramps := some (addPart s.rs.ramps f.payload n s.sctr.toNat), chunkAt := s.sctr.toNat } } else s

def execRampPartReceive (f : PairFrame) (s : State) : Host.Outcome State Fault Refusal := .next (takeChunk s f 6 (takeRampPart f))

/-- A part of a unit chunk (R386, R393). -/
def takeUnitPart (f : PairFrame) (s : State) (n : Nat) : State :=
  if rsState s = 4 then { s with rs := { s.rs with units := keepPart s.rs.units f.payload n s.sctr.toNat, chunkAt := s.sctr.toNat } } else s

def execUnitPartReceive (f : PairFrame) (s : State) : Host.Outcome State Fault Refusal := .next (takeChunk s f 7 (takeUnitPart f))

/-! ### The coefficient pass (R391) -/

/-- The ACTIVE copies the chunk of this boundary. -/
def copyDue (s : State) : Option RsServe :=
  match s.rs.serve with
  | some x => if !x.ramps ∧ x.q < chunkCount s ∧ x.c0 + x.q = s.sctr.toNat then some x else none
  | none => none

def copyChunk (s : State) : State :=
  match copyDue s, issuingBank s with
  | some x, some b =>
    let (p, a) := chunkPlace s x.q
    let data := (List.range 256).flatMap (fun i => le 4 (memGet (press s p).coef (b * 65536 + a + i)).toNat)
    rsSend { s with rs := { s.rs with serve := some { x with q := x.q + 1 } } } 5 0 1 x.q 256 s.sctr.toNat data
  | _, _ => s

def execCoefficientChunkCopy (s : State) : Host.Outcome State Fault Refusal := .next (copyChunk s)

/-- Whether this node has itself written a word between a chunk's copy and this boundary. -/
def wroteSince (s : State) (place n : Nat) : Bool :=
  s.rs.wrote.any (fun x => x.2.1 == place && decide (n < x.1) && decide (x.1 < s.sctr.toNat))

/-- The next chunk, complete and due at the boundary in force. -/
def chunkDue (s : State) : Option (List Byte) :=
  if rsState s ≠ 2 ∨ s.sctr.toNat < s.rs.c0 + s.rs.q + getF s F.RS_CFG_D then none
  else (s.rs.coef.find? (fun c => c.index == s.rs.q)).bind chunkData

/-- A chunk is written but for the words that this node wrote itself; the last one ends the pass (R389, R391). -/
def applyChunk (s : State) : State :=
  match chunkDue s, issuingBank s with
  | some d, some b =>
    let (p, a) := chunkPlace s s.rs.q
    let n := s.rs.c0 + s.rs.q
    let s := (List.range 256).foldl (fun s i =>
      if wroteSince s (b * 262144 + p * 65536 + a + i) n then s
      else setCoef s b p (a + i) (BitVec.ofNat 32 (leAt d (4 * i) 4))) s
    let s := { s with rs := { s.rs with q := s.rs.q + 1, coef := s.rs.coef.filter (fun c => c.index != s.rs.q) } }
    if chunkCount s ≤ s.rs.q then setF s F.RS_STAT_STATE 3 else s
  | _, _ => s

/-! ### The ramp pass (R392) -/

/-- The bytes of a ramp entry (R396). -/
def rampBytes (r : Ramp) : List Byte :=
  le 8 r.s0 ++ le 4 (r.start.getD 0).toNat ++ le 4 r.target.toNat ++ le 2 r.n ++ le 2 r.id ++
  le 1 (r.press + (if r.edge then 0 else 4) + (if r.db then 8 else 0) + (if r.notify then 16 else 0)) ++ le 1 0 ++ le 2 r.tag

/-- The snapshot of boundary r = c0 + C. -/
def snapshotDue (s : State) : Option RsServe :=
  match s.rs.serve with
  | some x => if !x.ramps ∧ chunkCount s ≤ x.q ∧ x.c0 + x.q = s.sctr.toNat then some x else none
  | none => none

def snapshotRamps (s : State) : State :=
  match snapshotDue s with
  | none => s
  | some x =>
    let parts := if s.eng.ramps.isEmpty then [[]] else partsOf (s.eng.ramps.map rampBytes)
    let s := { s with rs := { s.rs with serve := some { x with ramps := true, unit := 0, copyAt := s.sctr.toNat + 5 } } }
    (List.range parts.length).foldl (fun s i =>
      let l := parts.getD i []
      rsSend s 6 i (if i + 1 = parts.length then 1 else 0) 0 l.length s.sctr.toNat l.flatten) s

def execRampSnapshot (s : State) : Host.Outcome State Fault Refusal := .next (snapshotRamps s)

/-- A ramp of the snapshot as it stands before step 5 of boundary `b` (R183, R392). -/
def rampOf (e : List Byte) (b : Nat) : Ramp :=
  let m := leAt e 20 1
  let s0 := leAt e 0 8
  { edge := m / 4 % 2 == 0, id := leAt e 18 2, press := m % 4, db := m / 8 % 2 == 1, notify := m / 16 % 2 == 1, tag := leAt e 22 2,
    target := BitVec.ofNat 32 (leAt e 12 4), n := leAt e 16 2, s0 := s0,
    start := if s0 < b then some (BitVec.ofNat 32 (leAt e 8 4)) else none, k := b - s0, cancelAt := none }

/-- The ramp set, complete and due at the boundary in force: its copy point r and its data. -/
def rampSetDue (s : State) : Option (List Byte) :=
  match s.rs.ramps with
  | some c => if rsState s = 3 ∧ c.at_ + 4 ≤ s.sctr.toNat then chunkData c else none
  | none => none

/-- Every unit is exact from the boundary in force: the fill clock starts (R389, R398). -/
def groupsDone (s : State) : State :=
  let s := setF { s with rs := { s.rs with fillFrom := some s.sctr.toNat } } F.RS_STAT_STATE 5
  pairEv (setR s R.RS_FILL 0) 0x0872 sevInfo (le 2 (issuingGroups s).length)

/-- The unit that waits becomes `i`, or the pass ends. -/
def setUnit (s : State) (i : Nat) : State :=
  let s := setF { s with rs := { s.rs with unit := i } } F.RS_CURSOR_NEXT i
  if (issuingGroups s).length ≤ i then groupsDone s else s

/-- The STANDBY's ramps become the snapshot's (R392). -/
def applyRampSet (s : State) : State :=
  match rampSetDue s with
  | none => s
  | some d =>
    let rs := (List.range (d.length / 24)).map (fun i => rampOf ((d.drop (24 * i)).take 24) s.sctr.toNat)
    let live := rs.filter (fun r => r.start.isNone || decide (r.k < r.n))
    let s := setRamps { s with rs := { s.rs with ramps := none, ring := [], units := [] } } live
    setUnit (setF (setF s F.RS_STAT_STATE 4) F.RS_CURSOR_GROUPS (issuingGroups s).length) 0

/-! ### The ACTIVE's cursor (R385, R388) -/

/-- A unit has failed once more: it is counted and logged (R388). -/
def countRetry (s : State) (unit : Nat) : State := pairEv (bump s R.RS_RETRY_CNT) 0x0875 sevNotice (le 2 unit)

/-- The cursor at the copy point of this boundary: the next unit after an ACK, the same after a failure (R388); during a CP
restart it waits (R394). -/
def cursorStep (s : State) : State :=
  let s := { s with rs := { s.rs with copying := none } }
  match s.rs.serve with
  | none => s
  | some x =>
    if !x.ramps ∨ s.sctr.toNat < x.copyAt then s
    else if cpRestarting s then
      { s with rs := { s.rs with serve := some { x with copyAt := s.sctr.toNat + getF s F.RS_CFG_CURSOR_STEP } } }
    else
      let (s, x) := if !x.out then (s, x)
        else if x.acked then (s, { x with unit := x.unit + (unitOf s x.unit).length, fails := 0 })
        else (countRetry s x.unit, { x with fails := x.fails + 1 })
      if getF s F.RS_CFG_RETRIES ≤ x.fails ∧ 0 < x.fails then rsAbort s 7 true
      else
        match unitOf s x.unit with
        | [] => { s with rs := { s.rs with serve := none } }
        | g :: _ =>
          let s := setR (setF s F.RS_CURSOR_NEXT x.unit) R.RS_COPY_SCTR (s.sctr.setWidth 32)
          { s with rs := { s.rs with copying := some (g.press, (unitOf s x.unit).map (fun g => (g.copyAt, g.copySlots))),
                                     serve := some { x with copyAt := s.sctr.toNat + getF s F.RS_CFG_CURSOR_STEP, out := false,
                                                            acked := false } } }

/-- The words of a group: its runs and its accumulator cells (R396). -/
def groupData (s : State) (g : Group) : List Word :=
  let x := press s g.press
  (runAddrs g).map (memGet x.mem) ++ (accCellsOf g).map (fun c => memGet s.rs.acc (cellAt g.press c))

/-- The copy routines of this sp have issued, and the image has not begun (R385). -/
def copyReady (s : State) (p unit : Nat) : Bool :=
  decide (128 + ((unitOf s unit).map (·.copySlots)).sum ≤ (press s p).slot) && decide ((press s p).slot ≤ 464)

/-- The unit of this copy point is sent. -/
def sendUnit (s : State) : State :=
  match s.rs.serve, s.rs.copying with
  | some x, some (p, _) =>
    if x.out ∨ !copyReady s p x.unit then s
    else
      let words := (unitOf s x.unit).flatMap (groupData s)
      let n := max 1 ((words.length + 255) / 256)
      let s := { s with rs := { s.rs with serve := some { x with out := true } } }
      (List.range n).foldl (fun s i =>
        let w := (words.drop (256 * i)).take 256
        rsSend s 7 i (if i + 1 = n then 1 else 0) x.unit w.length s.sctr.toNat (w.flatMap (fun v => le 4 v.toNat))) s
  | _, _ => s

def execCopyPoint (s : State) : Host.Outcome State Fault Refusal := .next (sendUnit s)

/-- The unit at the cursor is acknowledged (R388). -/
def takeAck (f : PairFrame) (s : State) (_ : Nat) : State :=
  let unit := leAt f.payload 4 2
  match s.rs.serve with
  | some x => if x.unit = unit ∧ x.out then { s with rs := { s.rs with serve := some { x with acked := true } } } else s
  | none => s

def execUnitAck (f : PairFrame) (s : State) : Host.Outcome State Fault Refusal :=
  .next (takeChunk s f 8 (takeAck f))

/-- NACK leaves the unit unacknowledged: it is copied again at the next copy point (R388). -/
def takeNack (_ : PairFrame) (s : State) (_ : Nat) : State := s

def execUnitNack (f : PairFrame) (s : State) : Host.Outcome State Fault Refusal :=
  .next (takeChunk s f 9 (takeNack f))

/-! ### Replay (R384, R386 to R388) -/

/-- The words that a unit's inputs name. -/
def unitInputs (l : List Group) : List Nat := (l.flatMap (·.inputs)).map (· % 2 ^ 14)

/-- At boundary m + 1 the ring takes the pending unit's inputs as they stand for sp m; the exchange's press region has drained. It
restarts after the sp in which the pending unit changed (R384). -/
def ringStep (s : State) (m : Nat) : State :=
  if rsState s ≠ 4 then s
  else
    let v := fun a => if a < 0x0C40 then memGet s.dsp.exIn a else readPressWord s 20480 a
    let row : Cells 32 := (unitInputs (unitOf s s.rs.unit)).foldl (fun c a => memSet c a (v a)) []
    { s with rs := { s.rs with ring := ((m, row) :: (if s.rs.replay.isSome then [] else s.rs.ring)).take 8 } }

/-- The ring holds what the passes of a replay from sp `n` read. -/
def ringHolds (s : State) (l : List Group) (n d : Nat) : Bool :=
  let lag := l.any (fun g => g.inputs.any (fun e => e / 2 ^ 15 == 1))
  let from_ := if lag then n - 1 else n
  (unitInputs l).isEmpty || (List.range (n + d - from_)).all (fun i => s.rs.ring.any (fun x => x.1 == from_ + i))

/-- A unit could not be replayed (R388). -/
def nack (s : State) (unit : Nat) : State :=
  let fails := getF s F.RS_STAT_FAILS + 1
  let s := { s with rs := { s.rs with units := s.rs.units.filter (fun c => c.index != unit) } }
  let s := rsSend (setF (countRetry s unit) F.RS_STAT_FAILS fails) 9 0 1 unit 0 s.sctr.toNat []
  if getF s F.RS_CFG_RETRIES ≤ fails then rsAbort s 7 true else s

/-- A unit is written and its replay begins: the passes issue in this sp; it is exact from its start (R386, R388). -/
def replayUnit (s : State) (l : List Group) (unit n : Nat) (d : List Byte) : State :=
  let p := (l.map (·.press)).headD 0
  let w := leWords d
  let places := l.flatMap (fun g => (runAddrs g).map (fun a => (true, a)) ++ (accCellsOf g).map (fun c => (false, cellAt p c)))
  let pairs := places.zip w
  let mem := pairs.foldl (fun m x => if x.1.1 then memSet m x.1.2 x.2 else m) (press s p).mem
  let acc := pairs.foldl (fun m x => if x.1.1 then m else memSet m x.1.2 x.2)
    (s.rs.acc.filter (fun c => decide (c.1 < 512 * p) || decide (512 * (p + 1) ≤ c.1)))
  let x := pairs.foldl (fun x e => if e.1.1 then unmark x 0 e.1.2 else x) { press s p with mem := mem }
  let s := setPress s p x
  let r : Replay := ⟨p, n, getF s F.RS_CFG_D, l.map (fun g => ⟨g.replayAt, g.loadSlots, g.passSlots, g.inputs⟩)⟩
  let s := { s with rs := { s.rs with acc := acc, replay := some r, units := s.rs.units.filter (fun c => c.index != unit) } }
  let s := rsSend (setF s F.RS_STAT_FAILS 0) 8 0 1 unit 0 s.sctr.toNat []
  setUnit s (unit + l.length)

/-- The unit chunk that is due in this sp, n + D. -/
def unitDue (s : State) : Option Chunk :=
  if rsState s ≠ 4 then none
  else s.rs.units.find? (fun c => c.index == s.rs.unit && decide (c.at_ + getF s F.RS_CFG_D ≤ s.sctr.toNat))

def replayStep (s : State) : State :=
  match unitDue s with
  | none => s
  | some c =>
    let l := unitOf s c.index
    match chunkData c with
    | some d =>
      if c.at_ + getF s F.RS_CFG_D = s.sctr.toNat ∧ c.cameAt < s.sctr.toNat ∧ ringHolds s l c.at_ (getF s F.RS_CFG_D) then
        (if (press s ((l.map (·.press)).headD 0)).slot ≤ 144 then replayUnit s l c.index c.at_ d else s)
      else nack s c.index
    | none => nack s c.index

def execUnitReplay (s : State) : Host.Outcome State Fault Refusal := .next (replayStep s)

/-! ### The end (R389, R397) -/

/-- The fill clock has reached FILL_TIME. -/
def fillOver (s : State) : Bool := rsState s == 5 && decide (fillTime s ≤ (getR s R.RS_FILL).toNat)

def endRestrike (s : State) : State :=
  let s := { rsClear s with rs := { (rsClear s).rs with doneTotal := s.rs.doneTotal + 1 } }
  let s := setF (setF (setF s F.PAIR_STAT_DIVERGED 0) F.DIGEST_MISM_INFO_VALID 0) F.SD_MISM_VALID 0
  pairEv (bump (setF s F.RS_STAT_PROVEN 1) R.RS_DONE_CNT) 0x0873 sevNotice []

def execRestrikeDone (s : State) : Host.Outcome State Fault Refusal :=
  if fillOver s then .next (endRestrike s) else .next s

/-! ### The rolling state digest (R399) -/

/-- The state of a group as the digest takes it: its run words, and each accumulator as `NORM` gives it. -/
def sdData (s : State) (g : Group) : List Word :=
  let x := press s g.press
  let acc := fun (c : Nat × Nat × Nat) => accNorm ((x.lanes.getD c.2.2 Lane.reset).laVis.getD c.1 Acc.reset) c.2.1
  (runAddrs g).map (memGet x.mem) ++ (accCellsOf g).map acc

/-- The digest's work at a boundary, when every result of the sp before is visible. -/
def sdStep (s : State) : State :=
  if !fnOn s 0x48 || !inPairRole s then s
  else
    let t := s.sctr.toNat
    let ones := List.replicate 4 (0xFFFFFFFF : Word)
    let s := if t % 96000 ≠ 0 then s
      else
        let gs := issuingGroups s
        let crcs := (List.range 4).map (fun p => if gs.any (fun g => g.press == p) then ~~~(s.rs.sdCrc.getD p 0) else 0)
        let due := if s.rs.sdBad then none else some (t, crcs)
        { s with rs := { s.rs with sdDue := due, sdOwn := none, sdCrc := ones, sdBad := false } }
    let bad := rsState s != 0 || swapState s == 2 || !s.eng.running
    let s := if bad then { s with rs := { s.rs with sdBad := true } } else s
    let o := t % 96000
    match if o % 16 = 0 then (issuingGroups s)[o / 16]? else none with
    | none => s
    | some g =>
      let c := crc32cFrom (s.rs.sdCrc.getD g.press 0) ((sdData s g).flatMap (fun w => le 4 w.toNat))
      { s with rs := { s.rs with sdCrc := s.rs.sdCrc.set g.press c } }

/-- The window that ended: the ACTIVE sends its CRCs, the STANDBY keeps its own. -/
def sdEnd (s : State) : State :=
  match s.rs.sdDue with
  | none => s
  | some (t, l) =>
    let s := { s with rs := { s.rs with sdDue := none } }
    if roleOf s = roleActive then
      pairSend s 4 (le 8 t ++ le 2 (issuingGroups s).length ++ le 2 0 ++ l.flatMap (fun w => le 4 w.toNat))
    else if roleOf s = roleStandby ∧ fillTime s ≤ (getR s R.RS_FILL).toNat then { s with rs := { s.rs with sdOwn := some (t, l) } }
    else s

def execStateDigestWindowEnd (s : State) : Host.Outcome State Fault Refusal := .next (sdEnd s)

/-- The CRCs are compared (R397, R399). -/
def sdCompare (s : State) (p : List Byte) : State :=
  let s := sdEnd s
  match s.rs.sdOwn with
  | none => s
  | some (t, l) =>
    if leAt p 0 8 ≠ t then s
    else
      let got := fun i => BitVec.ofNat 32 (leAt p (12 + 4 * i) 4)
      let diff := (List.range 4).filter (fun i => got i != l.getD i 0)
      let s := setR { s with rs := { s.rs with sdOwn := none } } R.SD_LAST (BitVec.ofNat 32 t)
      match diff with
      | [] =>
        if s.rs.provenNext then setF { s with rs := { s.rs with provenNext := false } } F.RS_STAT_PROVEN 1 else s
      | d :: _ =>
        let m := (diff.map (2 ^ ·)).sum
        let s := setR (diverge s) R.SD_MISM (BitVec.ofNat 32 (m + 2 ^ 31))
        reportDigest (pairEv s 0x0876 sevError (le 1 m)) 2 d t (got d) (l.getD d 0)

/-- A state digest, on a STANDBY. -/
def takeStateDigest (f : PairFrame) (s : State) (_ : Nat) : State := if roleOf s = roleStandby then sdCompare s f.payload else s

def execStateDigestReceive (f : PairFrame) (s : State) : Host.Outcome State Fault Refusal :=
  .next (pairTake s f 4 (takeStateDigest f))

/-- A restrike chunk that has been taken, by its KIND (R396). -/
def takeRsChunk (f : PairFrame) (s : State) (n : Nat) : State :=
  match leAt f.payload 0 1 with
  | 1 => takeStart f s n
  | 2 => takeAccept f s n
  | 3 => takeRefuse f s n
  | 4 => takeAbort f s n
  | 5 => takeCoefPart f s n
  | 6 => takeRampPart f s n
  | 7 => takeUnitPart f s n
  | 8 => takeAck f s n
  | 9 => takeNack f s n
  | _ => s

end Sys2Proof.Machine
end

