-- ==== Sys2Proof/Machine/Security.lean ====
section
/-! DEFINITION. Identity, secure boot and firmware update (chapter 19): the checks of an image, staging and activation, the
rollback count, attestation, debug unlock and the changes of OTP. The cryptographic functions are constants without a body
(notes/assumptions/6.md). -/

namespace Sys2Proof.Machine

/-! ### Images (R550, R551) -/

/-- Whether `n` bytes from `o` are zero. -/
def zeroAt (b : List Byte) (o n : Nat) : Bool := ((b.drop o).take n).all (· == 0)

/-- Check 1 of R551. -/
def imageFormatOk (b : List Byte) : Bool :=
  let n := leAt b 0x14 4
  leAt b 0 4 == 0x31574655 && leAt b 4 2 == 256 && n % 4 == 0 && decide (4 ≤ n) && decide (n ≤ 1572608) &&
  decide (256 + n ≤ b.length) && leAt b 0x18 2 == 0x2048 && leAt b 0x1A 1 == 0xB1 &&
  zeroAt b 7 1 && zeroAt b 0x11 3 && zeroAt b 0x1B 5 && zeroAt b 0x80 64

/-- Whether customer slot 1 (A) or 2 (B) is programmed and not revoked; its hash. -/
def slotKey (s : State) (k : Nat) : Option (List Byte) :=
  if k = 1 ∧ !s.sec.otp.revokedA then s.sec.otp.keyA
  else if k = 2 ∧ !s.sec.otp.revokedB then s.sec.otp.keyB
  else none

/-- Checks 2 to 4 of R551 for key slot `k`, public key `pub`, message digest and signature: the refusal code. -/
def keyChecks (s : State) (k : Nat) (pub digest sig : List Byte) : Option Nat :=
  if k = 0 then
    (if isF s F.SEC_STAT_VENDOR_OFF then some 0x0C21
     else if Config.ecdsaVerify Config.vendorKey digest sig then none else some 0x0C22)
  else
    match slotKey s k with
    | none => some 0x0C21
    | some h =>
      if Config.sha256 pub ≠ h then some 0x0C21
      else if Config.ecdsaVerify pub digest sig then none else some 0x0C22

/-- The verification of an image (R551): refusal code and detail. -/
def verifyImage (s : State) (b : List Byte) : Option (Nat × Nat) :=
  if !imageFormatOk b then some (0x0C20, 0)
  else
    match keyChecks s (leAt b 6 1) ((b.drop 0x40).take 64) (Config.sha256 (b.take 0xC0)) ((b.drop 0xC0).take 64) with
    | some c => some (c, 0)
    | none =>
      if Config.sha256 ((b.drop 256).take (leAt b 0x14 4)) ≠ (b.drop 0x20).take 32 then some (0x0C23, 0)
      else if leAt b 0x10 1 < getF s F.SEC_STAT_ROLLBACK then some (0x0C24, getF s F.SEC_STAT_ROLLBACK)
      else none

/-- What the node holds of an image that runs (R549). Its ROLLBACK counts fuses, of which there are 32 (R550, R553; log entry 62). -/
def runImage (b : List Byte) : RunImage :=
  { version := leAt b 8 4, build := leAt b 0x0C 4, slot := leAt b 6 1, rollback := min 32 (leAt b 0x10 1),
    measure := Config.sha256 (b.take (256 + leAt b 0x14 4)) }

/-- An image becomes the running firmware (R549, R562). -/
def adoptImage (s : State) (i : RunImage) : State :=
  let s := setR (setR s R.FW_RUN_VERSION (BitVec.ofNat 32 i.version)) R.FW_RUN_BUILD (BitVec.ofNat 32 i.build)
  let s := setF s F.SEC_STAT_RUN_SLOT i.slot
  let s := (List.range 8).foldl (fun s k => setR s (R.FW_MEASURE k) (BitVec.ofNat 32 (leAt i.measure (4 * k) 4))) s
  { s with sec := { s.sec with runRollback := i.rollback }, pm := { s.pm with retained := some i } }

/-- The bytes of an image that runs stand at address 0 of system SRAM (R410, R465). -/
def holdImage (s : State) (b : List Byte) : State :=
  { s with host := { s.host with sram := memSetList s.host.sram 0 b } }

/-- The staged image, at offset 0 of the staging area (R555). -/
def stagedImage (s : State) : List Byte := memGetList s.host.staging 0 s.sec.staged

def fwState (s : State) : Nat := getF s F.FW_STAT_STATE

/-- Log an event of function 0x68 (R566). -/
def secEv (s : State) (code sev : Nat) (args : List Byte) : State := logEv s code 0x68 sev args

/-- The staged image is discarded and the hold released (R554). -/
def emptyStage (s : State) : State :=
  let s := { s with sec := { s.sec with stage := none, staged := 0 } }
  setR (putF (setF s F.FW_STAT_STATE 0) F.FW_STAT_HOLD false) R.FW_STAGED_VERSION 0

/-- Whether a plate load reads the bytes that an image holds (R555): bytes 0 to 1,572,863 of the staging area. -/
def loadOverlaps (s : State) : Bool :=
  match s.eng.load with
  | some j => j.source == 2 && decide (j.addr < 0x200000 + 1572864) && decide (0 < j.len)
  | none => false

def execFwStage (c : Fin 8) (s : State) : Host.Outcome State Fault Refusal :=
  .next (serve s c.val 0x0C01 (· == 16) false (fun s q =>
    let src := leAt q.payload 0 1
    let len := leAt q.payload 4 4
    if fwState s = 1 ∨ fwState s = 3 then (s, .refused 0x0C25 0)
    else if 2 < src ∨ len < 260 ∨ 1572864 < len then (s, .refused 0x0C27 0)
    else if loadOverlaps s then (s, .refused 0x0C28 0)
    else
      let s := putF (setF (emptyStage s) F.FW_STAT_STATE 1) F.FW_STAT_HOLD true
      ({ s with sec := { s.sec with stage := some ⟨src, leAt q.payload 8 8, len, c.val⟩ } }, .later)))

/-- The end of an image's read (R554). -/
def endStage (s : State) (j : StageJob) (data : List Byte) (readErr : Bool) : State :=
  let img := if j.source = 2 then memGetList s.host.staging 0 j.len else data
  if readErr ∨ img.length ≠ j.len then answer (emptyStage s) (some j.ch) (.refused 0x0C27 0)
  else
    let s := { s with host := { s.host with staging := memSetList s.host.staging 0 img } }
    if !imageFormatOk img then answer (emptyStage s) (some j.ch) (.refused 0x0C20 0)
    else
      let s := setF { s with sec := { s.sec with stage := none, staged := j.len } } F.FW_STAT_STATE 2
      let s := setR s R.FW_STAGED_VERSION (BitVec.ofNat 32 (leAt img 8 4))
      answer (secEv s 0x0C60 sevInfo (le 4 (leAt img 8 4))) (some j.ch) (.ok [])

def execFwStaged (data : List Byte) (readErr : Bool) (s : State) : Host.Outcome State Fault Refusal :=
  match s.sec.stage with
  | some j => if fwState s = 1 ∧ cpIsRunning s then .next (endStage s j data readErr) else .next s
  | none => .next s

def execFwVerify (c : Fin 8) (s : State) : Host.Outcome State Fault Refusal :=
  .next (serve s c.val 0x0C02 (· == 0) false (fun s _ =>
    if fwState s ≠ 2 then (s, .refused 0x0C25 0)
    else (setF { s with sec := { s.sec with verifyCh := some c.val } } F.FW_STAT_STATE 3, .later)))

/-- A verification or an activation failed (R563). -/
def fwFail (s : State) (code refusal : Nat) : State := setFault (secEv s code sevError (le 2 refusal)) 12 0

/-- The end of the staged image's verification (R551, R554). -/
def endVerify (s : State) : State :=
  let ch := s.sec.verifyCh
  let s := { s with sec := { s.sec with verifyCh := none } }
  match verifyImage s (stagedImage s) with
  | some (code, detail) => answer (fwFail (setF s F.FW_STAT_STATE 2) 0x0C62 code) ch (.refused code detail)
  | none =>
    let s := setF s F.FW_STAT_STATE 4
    answer (secEv s 0x0C61 sevInfo (le 4 (getR s R.FW_STAGED_VERSION).toNat)) ch (.ok [])

def execFwVerified (s : State) : Host.Outcome State Fault Refusal :=
  if fwState s = 3 ∧ cpIsRunning s then .next (endVerify s) else .next s

/-- Whether long engine work runs on the node: a plate load, an arm or a restrike (R436, R556). -/
def engineWork (s : State) : Bool := s.eng.load.isSome || s.eng.arm.isSome || getF s F.RS_STAT_STATE != 0

def execFwActivate (c : Fin 8) (s : State) : Host.Outcome State Fault Refusal :=
  let after := serve s c.val 0x0C03 (· == 0) false (fun s _ =>
    if fwState s ≠ 4 then (s, .refused 0x0C25 0)
    else if engineWork s then (s, .refused 0x0C26 0)
    else
      let s := putF (setR (setF s F.FW_STAT_STATE 0) R.FW_STAGED_VERSION 0) F.FW_STAT_HOLD false
      ({ s with sec := { s.sec with activating := true } }, .ok []))
  .next (if after.sec.activating && !s.sec.activating then cpRestart after 2 else after)

/-- What the restarted CP does about an activation (R556): the image is verified again and becomes the running firmware. -/
def endActivate (s : State) : State :=
  if !s.sec.activating then s
  else
    let img := stagedImage s
    let old := (getR s R.FW_RUN_VERSION).toNat
    let s := { s with sec := { s.sec with activating := false, staged := 0 } }
    match verifyImage s img with
    | some (code, _) => fwFail s 0x0C64 code
    | none =>
      let s := adoptImage (holdImage s img) (runImage img)
      secEv { s with sec := { s.sec with autoPending := true, autoAt := s.sctr.toNat } } 0x0C63 sevNotice (le 4 old ++ le 4 (leAt img 8 4))

def execFwDiscard (c : Fin 8) (s : State) : Host.Outcome State Fault Refusal :=
  .next (serve s c.val 0x0C04 (· == 0) false (fun s _ =>
    if fwState s = 1 ∨ fwState s = 3 then (s, .refused 0x0C25 0) else (emptyStage s, .ok [])))

/-- The fuses up to the running image's ROLLBACK begin to be blown, for channel `c` if one waits (R553). -/
def startFuses (s : State) (c : Option Nat) : State :=
  let chs := match s.sec.fuses with
    | some j => j.chs
    | none => []
  let next := match s.sec.fuses with
    | some j => j.next
    | none => s.sctr.toNat + 96
  { s with sec := { s.sec with fuses := some ⟨s.sec.runRollback, next, chs ++ c.toList⟩ } }

/-- The last fuse is blown: the new count is logged and answered (R553, R564). -/
def endFuses (s : State) (j : FuseJob) : State :=
  let s := secEv { s with sec := { s.sec with fuses := none } } 0x0C65 sevNotice (le 1 j.target)
  j.chs.foldl (fun s c => answer s (some c) (.ok (le 1 j.target))) s

/-- Blow the next fuse when its 1 ms is over: the count rises by one, in ascending order (R553). -/
def fuseStep (s : State) : State :=
  match s.sec.fuses with
  | none => s
  | some j =>
    if s.sctr.toNat < j.next then s
    else
      let s := setF s F.SEC_STAT_ROLLBACK (getF s F.SEC_STAT_ROLLBACK + 1)
      if j.target ≤ getF s F.SEC_STAT_ROLLBACK then endFuses s j
      else { s with sec := { s.sec with fuses := some { j with next := j.next + 96 } } }

def execFwCommit (c : Fin 8) (s : State) : Host.Outcome State Fault Refusal :=
  .next (serve s c.val 0x0C05 (· == 0) false (fun s _ =>
    if s.sec.runRollback ≤ getF s F.SEC_STAT_ROLLBACK then (s, .refused 0x0C2E 0)
    else (startFuses (commit s c.val) (some c.val), .later)))

/-- Whether the new firmware has run for 60 s (5,760,000 sp) with no watchdog restart, and COMMIT_AUTO asks for the commit (R556). -/
def autoDue (s : State) : Bool :=
  s.sec.autoPending && isF s F.SEC_CFG_COMMIT_AUTO && cpIsRunning s && decide (s.sec.autoAt + 5760000 ≤ s.sctr.toNat)

def execCommitAutoExpiry (s : State) : Host.Outcome State Fault Refusal :=
  if !autoDue s then .next s
  else
    let s := { s with sec := { s.sec with autoPending := false } }
    .next (if getF s F.SEC_STAT_ROLLBACK < s.sec.runRollback ∧ s.sec.fuses.isNone then startFuses s none else s)

/-! ### Attestation and certificates (R548, R549) -/

/-- The first 76 bytes of an attestation (R549). -/
def attestBody (s : State) (nonce : List Byte) : List Byte :=
  le 4 (getR s R.FW_RUN_VERSION).toNat ++ le 1 (getF s F.SEC_STAT_ROLLBACK) ++ le 1 (getF s F.SEC_STAT_RUN_SLOT) ++
  le 1 (getF s F.SEC_STAT_DEBUG) ++ le 1 0 ++ (List.range 8).flatMap (fun k => le 4 (getR s (R.FW_MEASURE k)).toNat) ++
  nonce ++ le 4 s.sctr.toNat

def execAttest (c : Fin 8) (s : State) : Host.Outcome State Fault Refusal :=
  .next (serve s c.val 0x0C06 (· == 32) false (fun s q =>
    let b := attestBody s q.payload
    (s, .ok (b ++ Config.deviceSign (Config.sha256 b)))))

/-- The leaf certificate (0), of at most 1,024 bytes, or the CA's (1) (R548). -/
def certOf (k : Nat) : List Byte := if k = 0 then (Config.certificate 0).take 1024 else Config.certificate k

def execCertRead (c : Fin 8) (s : State) : Host.Outcome State Fault Refusal :=
  .next (serve s c.val 0x0C07 (· == 4) false (fun s q =>
    let k := leAt q.payload 0 1
    let o := leAt q.payload 2 2
    let cert := certOf k
    if 1 < k ∨ cert.length ≤ o then (s, .refused 0x0C29 0)
    else
      let part := (cert.drop o).take 480
      (s, .ok (le 2 cert.length ++ le 2 part.length ++ part))))

/-! ### Debug (R559) -/

def execDebugChallenge (c : Fin 8) (s : State) : Host.Outcome State Fault Refusal :=
  .next (serve s c.val 0x0C08 (· == 0) false (fun s _ =>
    let n := freeList s 32
    let s := nextFrees s 32
    ({ s with sec := { s.sec with nonce := some n, nonceFails := 0 } }, .ok n)))

/-- The device serial number (R548). -/
def serial (s : State) : Nat := (getR s R.ID_SERIAL_LO).toNat + 2 ^ 32 * (getR s R.ID_SERIAL_HI).toNat

/-- Whether a token unlocks: its serial, its nonce and its signature under its slot (R559). -/
def tokenOk (s : State) (p : List Byte) : Bool :=
  let k := leAt p 1 1
  leAt p 4 8 == serial s && s.sec.nonce == some ((p.drop 12).take 32) && p.length == (if k = 0 then 108 else 172) &&
  (keyChecks s k (p.drop 108) (Config.sha256 (p.take 44)) ((p.drop 44).take 64)).isNone

/-- A token is refused: three failures invalidate the nonce (R559, R563). -/
def tokenFails (s : State) : State :=
  let n := min 16 (getF s F.SEC_STAT_DBG_FAILS + 1)
  let f := s.sec.nonceFails + 1
  let s := { s with sec := { s.sec with nonceFails := f, nonce := if 3 ≤ f then none else s.sec.nonce } }
  setFault (secEv (setF s F.SEC_STAT_DBG_FAILS n) 0x0C67 sevWarning (le 1 n)) 12 2

def execDebugUnlock (c : Fin 8) (s : State) : Host.Outcome State Fault Refusal :=
  .next (serve s c.val 0x0C09 (fun n => n == 108 || n == 172) false (fun s q =>
    let lv := leAt q.payload 0 1
    let k := leAt q.payload 1 1
    if 16 ≤ getF s F.SEC_STAT_DBG_FAILS then (s, .refused 0x0C2B 0)
    else if lv = 0 ∨ 2 < lv ∨ 2 < k ∨ leAt q.payload 2 2 ≠ 0 then (s, .refused 0x0C29 0)
    else if tokenOk s q.payload then
      let s := setFault (setF s F.SEC_STAT_DEBUG lv) 12 1
      (secEv s 0x0C66 sevWarning (le 1 lv ++ le 1 k), .ok [])
    else (tokenFails s, .refused 0x0C2A 0)))

def execDebugLock (c : Fin 8) (s : State) : Host.Outcome State Fault Refusal :=
  .next (serve s c.val 0x0C0A (· == 0) false (fun s _ => (setF s F.SEC_STAT_DEBUG 0, .ok [])))

/-! ### OTP (R560) -/

/-- Bring the slot fields of `SEC_STAT` up to date (R562). -/
def refreshSlots (s : State) : State :=
  let code := fun (r : Bool) (k : Option (List Byte)) => if r then 2 else if k.isSome then 1 else 0
  setF (setF s F.SEC_STAT_SLOT_A (code s.sec.otp.revokedA s.sec.otp.keyA)) F.SEC_STAT_SLOT_B
    (code s.sec.otp.revokedB s.sec.otp.keyB)

/-- Whether an OTP change is allowed at the debug level (R560). -/
def debugTwo (s : State) : Bool := getF s F.SEC_STAT_DEBUG == 2

/-- An OTP change is done and logged (R566). -/
def otpDone (s : State) (o : Otp) (kind slot : Nat) : State × Reply :=
  let s := refreshSlots { s with sec := { s.sec with otp := o } }
  (secEv s 0x0C6A sevNotice (le 1 kind ++ le 1 slot), .ok [])

def execOtpKeyProgram (c : Fin 8) (s : State) : Host.Outcome State Fault Refusal :=
  .next (serve s c.val 0x0C0B (· == 36) false (fun s q =>
    let k := leAt q.payload 0 1
    let h := (q.payload.drop 4).take 32
    let o := s.sec.otp
    if k = 0 ∨ 2 < k then (s, .refused 0x0C29 0)
    else if !debugTwo s then (s, .refused 0x0C2C 0)
    else if (k = 1 ∧ o.keyA.isSome) ∨ (k = 2 ∧ o.keyB.isSome) then (s, .refused 0x0C2D 0)
    else otpDone s (if k = 1 then { o with keyA := some h } else { o with keyB := some h }) 1 k))

def execOtpKeyRevoke (c : Fin 8) (s : State) : Host.Outcome State Fault Refusal :=
  .next (serve s c.val 0x0C0C (· == 1) false (fun s q =>
    let k := leAt q.payload 0 1
    let o := s.sec.otp
    if k = 0 ∨ 2 < k then (s, .refused 0x0C29 0)
    else if !debugTwo s then (s, .refused 0x0C2C 0)
    else if getF s F.SEC_STAT_RUN_SLOT = k then (s, .refused 0x0C2D 0)
    else otpDone s (if k = 1 then { o with revokedA := true } else { o with revokedB := true }) 2 k))

def execOtpVendorOff (c : Fin 8) (s : State) : Host.Outcome State Fault Refusal :=
  .next (serve s c.val 0x0C0D (· == 0) false (fun s _ =>
    if !debugTwo s then (s, .refused 0x0C2C 0)
    else if getF s F.SEC_STAT_RUN_SLOT = 0 ∨ ((slotKey s 1).isNone ∧ (slotKey s 2).isNone) then (s, .refused 0x0C2D 0)
    else otpDone (putF s F.SEC_STAT_VENDOR_OFF true) s.sec.otp 3 0))

end Sys2Proof.Machine
end

