-- ==== Sys2Proof/Machine/SelfTest.lean ====
section
/-! DEFINITION. Continuous self-tests (R400 to R402) and the press self-test (R403). -/

namespace Sys2Proof.Machine

/-! ### Idle-press BIST (R400, R401) -/

/-- Whether press `p` runs BIST: the role asks for it, and no armed or issuing plate and no self-test uses the press. -/
def bistWanted (s : State) (p : Nat) : Bool :=
  (roleOf s == roleStandby || (isF s F.RS_CFG_BIST_ALL && fnOn s 0x48)) && nodeAlive s &&
  !([0, 1].any (fun b => decide (bkArmed ≤ bankState s b) && (bankRec s b).pressMask / 2 ^ p % 2 == 1)) &&
  !s.rs.tests.contains p && s.rs.testing.map (·.1) != some p

def bistRuns (s : State) (p : Nat) : Bool := getF s F.SELFTEST_STAT_BIST_RUN / 2 ^ p % 2 == 1

/-- Presses enter and leave BIST at a boundary. -/
def bistStep (s : State) : State :=
  (List.range 4).foldl (fun s p =>
    let run := getF s F.SELFTEST_STAT_BIST_RUN
    if bistWanted s p && !bistRuns s p then
      let s := setF { s with rs := { s.rs with bist := (p, s.sctr.toNat) :: s.rs.bist } } F.SELFTEST_STAT_BIST_RUN (run + 2 ^ p)
      if isF s (F.PRESS_STAT_GATED p) then powerPress s p else s
    else if !bistWanted s p && bistRuns s p then
      clearPressState (setF { s with rs := { s.rs with bist := s.rs.bist.filter (fun x => x.1 != p) } } F.SELFTEST_STAT_BIST_RUN
        (run - 2 ^ p)) p
    else s) s

/-- A BIST pass of press `p` has run its 960 sp. -/
def bistOver (s : State) (p : Nat) : Bool :=
  bistRuns s p && s.rs.bist.any (fun x => x.1 == p && decide (x.2 + 960 ≤ s.sctr.toNat))

/-- A BIST pass ends; a wrong signature is no own fault. -/
def bistEnd (s : State) (p : Nat) (wrong : Bool) : State :=
  let s := { s with rs := { s.rs with bist := (p, s.sctr.toNat) :: s.rs.bist.filter (fun x => x.1 != p) } }
  if wrong then
    logEv (setF s F.SELFTEST_STAT_BIST_FAIL (getF s F.SELFTEST_STAT_BIST_FAIL ||| 2 ^ p)) 0x06E9 0x40 sevError (le 1 p)
  else s

def execBistPassEnd (p : Fin 4) (wrong : Bool) (s : State) : Host.Outcome State Fault Refusal :=
  if bistOver s p.val then .next (bistEnd s p.val wrong) else .next s

/-! ### Sense cross-check (R400, R402) -/

/-- The next enabled channel after the last that was checked. -/
def senseNext (s : State) : Option Nat :=
  ((List.range 16).map (fun i => (s.rs.senseLast + 1 + i) % 16)).find? (fun n => fnState s (pscFn n) != fnDisabled)

/-- A cross-check is due on a STANDBY. -/
def senseDue (s : State) : Option Nat :=
  if roleOf s = roleStandby ∧ s.rs.sense.isNone ∧ s.rs.senseAt + 96000 * getF s F.RS_CFG_SENSE_CHK ≤ s.sctr.toNat then senseNext s
  else none

def execSenseCheckStart (s : State) : Host.Outcome State Fault Refusal :=
  match senseDue s with
  | some n =>
    .next { s with rs := { s.rs with sense := some ⟨n, s.sctr.toNat, 0, 0, 0, false⟩, senseAt := s.sctr.toNat, senseLast := n } }
  | none => .next s

/-- Whether a mean difference exceeds its limit: 0 the voltage's, 1 the current's. -/
def senseFault (s : State) (k : SenseChk) : Option Nat :=
  let f := pscFn k.ch
  if k.bad ∨ (k.n : Int) * fixed149 (getR s (R.PSC_VSCALE f)) < 100 * k.v then some 0
  else if (k.n : Int) * fixed149 (getR s (R.PSC_ISCALE f)) < 1000 * k.i then some 1
  else none

/-- A cross-check is judged; one whose node is no longer STANDBY is dropped. -/
def senseJudge (s : State) (k : SenseChk) : State :=
  let s := { s with rs := { s.rs with sense := none } }
  let was := getF s F.SELFTEST_STAT_SENSE_FAIL
  if k.n = 0 ∨ roleOf s ≠ roleStandby then s
  else
    match senseFault s k with
    | some w => refreshOwn (pairEv (setF s F.SELFTEST_STAT_SENSE_FAIL (was ||| 2 ^ k.ch)) 0x0877 sevError (le 1 k.ch ++ le 1 w))
    | none =>
      if was / 2 ^ k.ch % 2 = 1 then
        refreshOwn (pairEv (setF s F.SELFTEST_STAT_SENSE_FAIL (was - 2 ^ k.ch)) 0x0878 sevNotice (le 1 k.ch))
      else s

/-- The last of the 96 sp has been compared: its set applies 8 sp later. -/
def senseOver (s : State) : Option SenseChk :=
  match s.rs.sense with
  | some k => if k.start + 104 ≤ s.sctr.toNat then some k else none
  | none => none

def execSenseCheckEnd (s : State) : Host.Outcome State Fault Refusal :=
  match senseOver s with
  | some k => .next (senseJudge s k)
  | none => .next s

/-! ### Press self-test (R403) -/

/-- What refuses a `PRESS_SELFTEST` (R403, R408). -/
def selftestRefusal (s : State) (m : Nat) : Option Nat :=
  let live := match issuingBank s with
    | some b => (bankRec s b).pressMask
    | none => 0
  if m = 0 ∨ 15 < m then some 0x06F8
  else if s.rs.testing.isSome then some 0x06FA
  else if roleOf s ≠ roleStandby ∧ !engineOff s ∧ (m &&& live) ≠ 0 then some 0x06F9
  else none

/-- The test of one press begins; its BIST ends. -/
def testPress (s : State) (p : Nat) : State :=
  let run := getF s F.SELFTEST_STAT_BIST_RUN
  let s := setF { s with rs := { s.rs with bist := s.rs.bist.filter (fun x => x.1 != p) } } F.SELFTEST_STAT_BIST_RUN (run &&& (15 - 2 ^ p))
  let s := { s with rs := { s.rs with testing := some (p, s.sctr.toNat) } }
  if isF s (F.PRESS_STAT_GATED p) then powerPress s p else s

def execPressSelftest (c : Fin 8) (s : State) : Host.Outcome State Fault Refusal :=
  .next (serve s c.val 0x06F1 (· == 1) false (fun s q =>
    let m := leAt q.payload 0 1
    match selftestRefusal s m with
    | some code => (s, .refused code 0)
    | none =>
      let l := (List.range 4).filter (fun p => m / 2 ^ p % 2 == 1)
      let s := { s with rs := { s.rs with tests := l.drop 1, testMask := m, testFail := 0 } }
      (testWatch (testPress s (l.headD 0)), .ok [])))

/-- The test of a press ends: its lane state memory is cleared, a failure faults it; the next press follows, or the result is
logged. -/
def testDone (s : State) (p : Nat) (fails : Bool) : State :=
  let s := clearPressState { s with rs := { s.rs with testing := none } } p
  let s := if fails then pressFault { s with rs := { s.rs with testFail := s.rs.testFail ||| 2 ^ p } } p else s
  match s.rs.tests with
  | q :: t => testPress { s with rs := { s.rs with tests := t } } q
  | [] => testWatch (refreshOwn (logEv s 0x06E8 0x40 sevNotice (le 1 s.rs.testMask ++ le 1 s.rs.testFail)))

def execPressSelftestDone (fails : Bool) (s : State) : Host.Outcome State Fault Refusal :=
  match s.rs.testing with
  | some (p, t) => if t + 960 ≤ s.sctr.toNat then .next (testDone s p fails) else .next s
  | none => .next s

end Sys2Proof.Machine
end

