-- ==== Sys2Proof/Machine/Omzor.lean ====
section
/-! DEFINITION. Omzor on a pair node (R363 to R366, R371, R404): messages taken, HEARTBEAT, HEALTH, reports, and ROLE_COMMAND. -/

namespace Sys2Proof.Machine

/-! ### Taking a message (R363) -/

/-- What is wrong with a message of a session: its TAG, or its SEQ or SCTR; `none` where nothing is. -/
def omFault (s : State) (x : Session) (type : Nat) (m : OmMsg) : Option Bool :=
  let n := s.sctr.toNat
  let body := omBytes type m.session.toNat m.seq.toNat m.sctr.toNat m.pairId.toNat m.node.toNat m.payload
  if m.version ≠ 1 ∨ !tagOk x m.sctr.toNat n body m.tag then some true
  else if m.seq.toNat ≤ seqOf x.rxSeq 0 ∨ m.session ≠ x.id ∨ 96000 < ((m.sctr.toNat : Int) - n).natAbs then some false
  else none

/-- A message is dropped and counted; a failing TAG is a sticky fault and logged (R357, R363). -/
def omDrop (s : State) (tag : Bool) : State :=
  let s := bump s R.OMZOR_DROP
  if tag then setFault (pairEv s 0x0867 sevWarning (le 1 1)) 8 4 else s

/-- The session after a message. -/
def omTaken (x : Session) (m : OmMsg) : Session := { x with rxSeq := setSeq x.rxSeq 0 m.seq.toNat }

/-- A node takes a message of its witness that has been delivered. -/
def omDeliver (s : State) (type : Nat) (m : OmMsg) (f : State → State) : State :=
  if !fnOn s 0x48 then s
  else
    match omFault s s.pair.om type m with
    | some tag => omDrop s tag
    | none => f { s with pair := { s.pair with om := omTaken s.pair.om m, omAt := s.sctr.toNat, omLost := false } }

/-- A message of the witness arrives (R363); ROLE_COMMAND goes to the pair logic itself (R364). -/
def omTake (s : State) (type : Nat) (m : OmMsg) (f : State → State) : State :=
  let r := omzorArrives s m.head (type == 5)
  if r.2 then omDeliver r.1 type m f else r.1

/-! ### The witness's tables (R367, R374) -/

def witNode (s : State) (j : Nat) : WitNode := s.wit.nodes.getD j WitNode.reset
def setWitNode (s : State) (j : Nat) (x : WitNode) : State := { s with wit := { s.wit with nodes := s.wit.nodes.setIfInBounds j x } }
def witPair (s : State) (k : Nat) : WitPair := s.wit.pairs.getD k WitPair.reset
def setWitPair (s : State) (k : Nat) (x : WitPair) : State := { s with wit := { s.wit with pairs := s.wit.pairs.setIfInBounds k x } }

/-- Word `o` of `WIT_PAIR[k]` (R374). -/
def witWord (s : State) (k o : Nat) : Word := getR s (cfgKey 0x49 (0x20 + 32 * k + o))

/-- The witness service runs (R370). -/
def witOn (s : State) : Bool := fnOn s 0x49 && roleOf s == roleWitness && cpIsRunning s

/-- The service supervises node `j`. -/
def witHas (s : State) (j : Nat) : Bool := witOn s && decide (j / 2 < getF s F.WIT_SVC_CFG_PAIRS)

/-- The witness sends a message's bytes to node `j` (R363, R374). -/
def witOut (s : State) (j : Nat) (m : List Byte) : State :=
  omDatagram s (ipOfWord (witWord s (j / 2) (4 + 4 * (j % 2)))) (getF s F.WIT_SVC_CFG_PORT) m

/-- The witness sends to node `j`. -/
def witSend (s : State) (j type : Nat) (pay : List Byte) : State :=
  let w := witNode s j
  match omForm s w.ses type (witWord s (j / 2) 0).toNat 0xFF pay with
  | some (x, m) => witOut (setWitNode s j { w with ses := x }) j m
  | none => s

/-- The witness takes a message of node `j` that has been delivered. -/
def witDeliver (s : State) (j type : Nat) (m : OmMsg) (f : State → State) : State :=
  if !witHas s j then s
  else
    let w := witNode s j
    match omFault s w.ses type m with
    | some tag => omDrop s tag
    | none => f (setWitNode s j { w with ses := omTaken w.ses m })

/-- A message of node `j` arrives at the witness. -/
def witTake (s : State) (j type : Nat) (m : OmMsg) (f : State → State) : State :=
  let r := omzorArrives s m.head false
  if r.2 then witDeliver r.1 j type m f else r.1

/-! ### HEARTBEAT (R364) -/

/-- Whether a HEARTBEAT to the witness, or to a node, is due. -/
def beatDue (s : State) (node : Option (Fin 64)) : Bool :=
  match node with
  | none => fnOn s 0x48 && cpIsRunning s && (keyAt s.pair.om s.sctr.toNat).isSome && decide (s.pair.omBeat ≤ s.sctr.toNat)
  | some j => witHas s j.val && (keyAt (witNode s j.val).ses s.sctr.toNat).isSome && decide ((witNode s j.val).beat ≤ s.sctr.toNat)

/-- Send HEARTBEAT; the next is due in 100 ms. -/
def sendBeat (s : State) (node : Option (Fin 64)) : State :=
  let pay := le 1 (roleOf s) ++ le 3 0
  let next := s.sctr.toNat + 9600
  match node with
  | none => { omSend s 1 pay with pair := { (omSend s 1 pay).pair with omBeat := next } }
  | some j =>
    let s := witSend s j.val 1 pay
    setWitNode s j.val { witNode s j.val with beat := next }

def execOmzorHeartbeatSend (node : Option (Fin 64)) (s : State) : Host.Outcome State Fault Refusal :=
  if beatDue s node then .next (sendBeat s node) else .next s

def execOmzorHeartbeatReceive (from_ : Option (Fin 64)) (m : OmMsg) (s : State) : Host.Outcome State Fault Refusal :=
  match from_ with
  | none => .next (omTake s 1 m id)
  | some j => .next (witTake s j.val 1 m id)

/-! ### HEALTH (R364, R404) -/

/-- Junction temperature in whole °C, downwards, from the highest reading in 0.25 °C. -/
def tempByte (s : State) : Nat := (((BitVec.ofNat 12 (getF s F.PM_TEMP_MAX_TJ)).toInt / 4) % 256).toNat

/-- The 64-byte health word (R404). -/
def healthWord (s : State) : List Byte :=
  let t := s.sctr.toNat
  let tests := getF s F.SELFTEST_STAT_BIST_RUN + (if s.rs.sense.isSome then 16 else 0) + (if testRunning s then 32 else 0) +
    (if getF s F.SELFTEST_STAT_BIST_FAIL = 0 then 0 else 64)
  let ecc := (s.rs.eccAt.filter (fun a => decide (t < a + 96000))).length
  let bad := ((List.range 4).map (fun p => if isF s (F.PRESS_STAT_FAULTED p) then 2 ^ p else 0)).sum
  le 1 (roleOf s) ++ le 1 (pairFlags s) ++ le 1 (rsState s) ++ le 1 tests ++ le 4 (getR s R.PAIR_AGREE).toNat ++
  le 2 (getF s F.RS_CURSOR_NEXT) ++ le 2 (issuingGroups s).length ++ le 4 (getR s R.RS_FILL).toNat ++
  le 4 (getR s R.SFAULT_SUM).toNat ++ le 1 (tempByte s) ++ le 1 (getF s F.DPLL_STAT_STAGE) ++ le 1 (getF s F.TIME_STAT_SCTR_STATE) ++
  le 1 bad ++ le 4 (getR s R.PAIR_TOFS).toNat ++ le 4 (getR s R.SD_LAST).toNat ++ le 2 (min ecc 65535) ++
  le 2 (getF s F.SELFTEST_STAT_SENSE_FAIL) ++ le 4 s.rs.mismTotal ++ le 4 s.rs.doneTotal ++ le 4 s.rs.abortTotal ++
  le 4 (getR s R.FW_RUN_VERSION).toNat ++ le 4 ((getR s R.LOG_SEQ_NEXT).toNat - 1) ++ le 8 t

/-- HEALTH is due: every 10 ms, and at once after a role change or a ROLE_COMMAND. -/
def healthDue (s : State) : Bool :=
  fnOn s 0x48 && cpIsRunning s && (keyAt s.pair.om s.sctr.toNat).isSome && decide (s.pair.omHealth ≤ s.sctr.toNat)

def sendHealth (s : State) : State :=
  let p := s.pair
  let s := omSend s 2 (le 1 (roleOf s) ++ le 1 (pairFlags s) ++ le 1 p.omResult ++ le 1 0 ++ le 4 p.omCmd.toNat ++
    le 4 (issuingHash s).toNat ++ le 4 0 ++ healthWord s)
  { s with pair := { s.pair with omHealth := s.sctr.toNat + 960 } }

def execHealthSend (s : State) : Host.Outcome State Fault Refusal :=
  if healthDue s then .next (sendHealth s) else .next s

/-! ### Reports (R364, R371, R372) -/

/-- The CP sends the messages that wait: YIELD_NOTICE and DIGEST_REPORT. -/
def flushOm (s : State) : State :=
  if cpIsRunning s && (keyAt s.pair.om s.sctr.toNat).isSome then
    s.pair.omQ.foldl (fun s x => omSend s x.1 x.2) { s with pair := { s.pair with omQ := [] } }
  else s

/-- A report whose delay is over leaves, unless one of its source left within 100 ms (R371). -/
def sendLost (s : State) (x : Nat × Nat × Nat) : State :=
  let t := s.sctr.toNat
  let s := { s with net := { s.net with lostQ := s.net.lostQ.erase x } }
  if s.net.lostAt.any (fun a => a.1 == x.1 && decide (t < a.2 + 9600)) then s
  else
    omSend { s with net := { s.net with lostAt := (x.1, t) :: s.net.lostAt.filter (fun a => a.1 != x.1) } } 6
      (le 1 2 ++ le 1 0 ++ le 2 x.2.1 ++ le 4 x.1 ++ le 8 t)

def execPeerLossSourceSend (s : State) : Host.Outcome State Fault Refusal :=
  match s.net.lostQ.find? (fun x => decide (x.2.2 ≤ s.sctr.toNat)) with
  | some x => if cpIsRunning s then .next (sendLost s x) else .next s
  | none => .next s

/-- No valid message of the witness for 1 s (R364). -/
def witnessGone (s : State) : Bool :=
  fnOn s 0x48 && getR s R.WIT_IP != 0 && !s.pair.omLost && decide (s.pair.omAt + 96000 ≤ s.sctr.toNat)

def execPairWitnessLost (s : State) : Host.Outcome State Fault Refusal :=
  if witnessGone s then
    let s := { s with pair := { s.pair with omLost := true, om := Session.reset } }
    .next (setFault (pairEv (setF s F.PAIR_STAT_WITNESS_UP 0) 0x086A sevWarning []) 8 5)
  else .next s

/-! ### ROLE_COMMAND (R347, R365) -/

/-- A verified ROLE_COMMAND is scheduled; with ROLE_SOURCE 1 it is ignored and counted. -/
def takeCommand (s : State) (p : List Byte) : State :=
  if isF s F.PAIR_CFG_ROLE_SOURCE then bump s R.OMZOR_DROP
  else
    let at_ := max (leAt p 8 8) (s.sctr.toNat + 1)
    { s with pair := { s.pair with cmds := s.pair.cmds ++ [⟨at_, leAt p 0 1, leAt p 1 1 % 2 == 1, BitVec.ofNat 32 (leAt p 4 4)⟩] } }

def execRoleCommand (m : OmMsg) (s : State) : Host.Outcome State Fault Refusal :=
  .next (omTake s 5 m (fun s => takeCommand s m.payload))

/-- RESTRIKE on command: CMD_RESULT (R365, R390). -/
def commandRestrike (s : State) : State × Nat :=
  match restrikeRefusal s with
  | some code => (pairEv s 0x0874 sevWarning (le 1 0 ++ le 2 code), 4)
  | none => (startRestrike s 2, 1)

/-- What a command does at its boundary, and its CMD_RESULT (R365). -/
def doCommand (s : State) (x : RoleCmd) : State × Nat :=
  if x.cmd = 1 then grantTo s x.force 2 3
  else if x.cmd = 2 then (if roleOf s = roleActive then withdraw s 4 else s, 1)
  else if x.cmd = 3 then commandRestrike s
  else if x.cmd = 4 then (if inPairRole s then (leavePair s roleOff 8, 1) else (s, 4))
  else (s, 0)

/-- A command executes: its result goes out in a HEALTH at once. -/
def executeCommand (s : State) (x : RoleCmd) : State :=
  let r := doCommand s x
  { r.1 with pair := { r.1.pair with omResult := r.2, omCmd := x.id, omHealth := r.1.sctr.toNat } }

/-- The place of the first command that is due. -/
def nextCommand (s : State) : Option Nat := s.pair.cmds.findIdx? (fun x => decide (x.at_ ≤ s.sctr.toNat))

/-- The first command that is due executes. -/
def commandStep (s : State) : State :=
  match nextCommand s with
  | none => s
  | some i =>
    match s.pair.cmds[i]? with
    | none => s
    | some x => executeCommand { s with pair := { s.pair with cmds := s.pair.cmds.eraseIdx i } } x

def commandSteps (s : State) : Nat → State
  | 0 => s
  | n + 1 => if (nextCommand s).isSome then commandSteps (commandStep s) n else s

def execRoleCommandExecute (s : State) : Host.Outcome State Fault Refusal := .next (atNext s commandStep)

end Sys2Proof.Machine
end

