-- ==== Sys2Proof/Machine/Session.lean ====
section
/-! DEFINITION. The handshake of pair-link and Omzor sessions (R557), and the rekeying of the pair link (R558). -/

namespace Sys2Proof.Machine

def sesOf (s : State) (l : Link) : Session :=
  match l with
  | .pair => s.pair.ses
  | .witness => s.pair.om
  | .node j => (witNode s j.val).ses

def putSes (s : State) (l : Link) (x : Session) : State :=
  match l with
  | .pair => { s with pair := { s.pair with ses := x } }
  | .witness => { s with pair := { s.pair with om := x } }
  | .node j => setWitNode s j.val { witNode s j.val with ses := x }

/-- 0 for the pair link, 1 for Omzor, as the events code it (R560). -/
def linkKind : Link → Nat
  | .pair => 0
  | _ => 1

/-- Whether this node begins the handshake. -/
def begins (s : State) (l : Link) : Bool :=
  match l with
  | .pair => !isF s F.PAIR_CFG_NODE_IDX
  | .witness => true
  | .node _ => false

/-- Whether the CP can run a handshake on this link. -/
def linkOn (s : State) (l : Link) : Bool :=
  cpIsRunning s && (match l with
    | .pair => fnOn s 0x48 && (portOfRole s 2).isSome
    | .witness => fnOn s 0x48 && (omzorPort s).isSome && getR s R.WIT_IP != 0
    | .node j => witHas s j.val && (omzorPort s).isSome)

/-- The info of the key derivation. -/
def keyInfo (l : Link) : List Byte :=
  ((match l with
    | .pair => "UA2048 pair"
    | _ => "UA2048 omzor").toList).map (fun (c : Char) => BitVec.ofNat 8 c.toNat)

/-- Parts of a message longer than 1,024 bytes, in the way of R396 (log entry 22). -/
def hsParts (m : List Byte) : List (List Byte) :=
  if m.length ≤ 1024 then [m]
  else
    let n := (m.length + 1023) / 1024
    (List.range n).map (fun i =>
      let d := (m.drop (1024 * i)).take 1024
      le 1 0 ++ le 1 i ++ le 1 (if i + 1 = n then 1 else 0) ++ le 1 0 ++ le 2 0 ++ le 2 d.length ++ le 8 0 ++ d)

/-- Send a handshake message; in Omzor with SESSION 0. -/
def hsSend (s : State) (l : Link) (code : Nat) (m : List Byte) : State :=
  (hsParts m).foldl (fun s d =>
    match l with
    | .pair => pairSend s code d
    | .witness => omOut s (omBytes code 0 0 s.sctr.toNat (getR s R.PAIR_ID).toNat (getF s F.PAIR_CFG_NODE_IDX) d ++ le 8 0)
    | .node j => witOut s j.val (omBytes code 0 0 s.sctr.toNat (witWord s (j.val / 2) 0).toNat 0xFF d ++ le 8 0)) s

/-! ### Receiving a handshake message (R357, R363, R557) -/

/-- A frame of a handshake message on the pair link arrives: whether it is taken. -/
def hsPairFrame (s : State) (code : Nat) (x : PairFrame) : State × Bool :=
  let r := rxHead s x.head 0x88B5 code
  if r.2 then
    let t := pairCheckIn r.1 x code
    (t.1, t.2.isSome)
  else r

/-- Whether an Omzor handshake message is dropped (R363): outside a session it carries SESSION 0 and a zero TAG (log entry 56). -/
def hsBad (s : State) (m : OmMsg) : Bool :=
  m.version != 1 || m.session != 0 || m.tag != List.replicate 8 (0 : Byte) ||
  decide (96000 < ((m.sctr.toNat : Int) - s.sctr.toNat).natAbs)

/-- A datagram of an Omzor handshake message arrives: whether it is taken. -/
def hsOmFrame (s : State) (m : OmMsg) : State × Bool :=
  let r := omzorArrives s m.head false
  if !r.2 then r else if hsBad r.1 m then (omDrop r.1 (m.tag != List.replicate 8 (0 : Byte)), false) else r

/-- The frames of a message arrive in order: whether each is taken. -/
def hsArrive {α : Type} (f : State → α → State × Bool) (s : State) (l : List α) : State × Bool :=
  l.foldl (fun r x =>
    let t := f r.1 x
    (t.1, r.2 && t.2)) (s, !l.isEmpty)

/-- The payloads of a message's frames as one message: of several, each gives up its part header, numbered in order (R396, R557). -/
def hsJoin (l : List (List Byte)) : Option (List Byte) :=
  match l with
  | [p] => some p
  | _ =>
    if (l.zipIdx.all (fun x => leAt x.1 1 1 == x.2 && leAt x.1 2 1 == (if x.2 + 1 = l.length then 1 else 0))) then
      some (l.flatMap (fun p => p.drop 16))
    else none

/-- A handshake message of a link arrives: the message, where every frame of it is taken. -/
def hsTake (s : State) (l : Link) (code : Nat) (f : HsFrames) : State × Option (List Byte) :=
  match l, f with
  | .pair, .pair fs =>
    let r := hsArrive (fun s x => hsPairFrame s code x) s fs
    (r.1, if r.2 then hsJoin (fs.map (·.payload)) else none)
  | .witness, .omzor fs | .node _, .omzor fs =>
    let r := hsArrive hsOmFrame s fs
    (r.1, if r.2 then hsJoin (fs.map (·.payload)) else none)
  | _, _ => (s, none)

/-! ### The messages -/

/-- A nonce or key of `n` bytes. -/
def exactly (n : Nat) (b : List Byte) : List Byte := (b ++ List.replicate n 0).take n

/-- A nonce, an ephemeral key and the leaf certificate with its length, as HELLO and REPLY begin; `i` is the free value of the
nonce, the next that of the key. -/
def hsBody (i : Nat) : List Byte :=
  let cert := certOf 0
  exactly 32 (Config.freeBytes i) ++ exactly 64 (Config.ephemeral (i + 1)) ++ le 2 cert.length ++ cert

def hsNonce (m : List Byte) : List Byte := m.take 32
def hsKey (m : List Byte) : List Byte := (m.drop 32).take 64
def hsCert (m : List Byte) : List Byte := (m.drop 98).take (leAt m 96 2)
def hsSig (m : List Byte) : List Byte := (m.drop (98 + leAt m 96 2)).take 64

/-- The serial that the other side's certificate must name, where one is set (R363, R374). -/
def wantSerial (s : State) (l : Link) : Option Nat :=
  match l with
  | .pair => none
  | .witness => some ((getR s R.WIT_SERIAL_LO).toNat + 2 ^ 32 * (getR s R.WIT_SERIAL_HI).toNat)
  | .node j =>
    let o := 0x0C + 8 * (j.val % 2)
    some ((witWord s (j.val / 2) o).toNat + 2 ^ 32 * (witWord s (j.val / 2) (o + 4)).toNat)

/-- What is wrong with a certificate: 1 its chain, 3 its serial. -/
def certFault (s : State) (l : Link) (cert : List Byte) : Option Nat :=
  if !Config.certChains cert then some 1
  else
    match wantSerial s l with
    | some n => if (Config.certSerial cert).toNat = n then none else some 3
    | none => none

/-- The session key of a handshake (R557). -/
def sessionKey (l : Link) (priv : Nat) (other n1 n2 : List Byte) : List Byte :=
  exactly 16 (Config.hkdf (Config.ecdh priv other) (n1 ++ n2) (keyInfo l))

/-- This node begins a handshake. -/
def startHello (s : State) (l : Link) : State :=
  let m := hsBody s.free
  let x := { sesOf s l with hs := 1, priv := s.free + 1, hello := m, reply := [], cand := [], startAt := s.sctr.toNat, why := 4 }
  hsSend (putSes (nextFrees s 2) l x) l 0x10 m

/-- No handshake runs, and a new one may begin. -/
def hsIdle (s : State) (l : Link) : Bool :=
  let x := sesOf s l
  x.hs == 0 && x.hello.isEmpty && decide (x.retryAt ≤ s.sctr.toNat) && x.newKey.isNone

/-- A HELLO is taken. -/
def takeHello (s : State) (l : Link) (p : List Byte) : State :=
  if !linkOn s l || begins s l || (sesOf s l).hs != 0 then s
  else
    let x := { sesOf s l with startAt := s.sctr.toNat, reply := [], cand := [] }
    match certFault s l (hsCert p) with
    | some w => putSes s l { x with hello := [0], why := w }
    | none => putSes s l { x with hello := p, why := 4 }

/-- A received handshake message does `f`, where its frames are taken. -/
def hsReceive (s : State) (l : Link) (code : Nat) (fs : HsFrames) (f : State → Link → List Byte → State) : State :=
  match hsTake s l code fs with
  | (s, some p) => f s l p
  | (s, none) => s

def execSessionHello (l : Link) (m : Hs) (s : State) : Host.Outcome State Fault Refusal :=
  match m with
  | .send => if linkOn s l && begins s l && hsIdle s l && (sesOf s l).key.isNone then .next (startHello s l) else .next s
  | .receive fs => .next (hsReceive s l 0x10 fs takeHello)

/-- What a REPLY's signature covers. -/
def replySigned (hello reply : List Byte) : List Byte := Config.sha256 (hello ++ hsNonce reply ++ hsKey reply)

/-- A HELLO that was taken is answered. -/
def sendReply (s : State) (l : Link) : State :=
  let x := sesOf s l
  let b := hsBody s.free
  let r := b ++ exactly 64 (Config.deviceSign (replySigned x.hello b))
  let key := sessionKey l (s.free + 1) (hsKey x.hello) (hsNonce x.hello) (hsNonce b)
  hsSend (putSes (nextFrees s 2) l { x with hs := 2, priv := s.free + 1, reply := r, cand := key }) l 0x11 r

/-- A REPLY is taken. -/
def takeReply (s : State) (l : Link) (p : List Byte) : State :=
  let x := sesOf s l
  if !linkOn s l ∨ x.hs ≠ 1 ∨ !x.reply.isEmpty then s
  else
    match certFault s l (hsCert p) with
    | some w => putSes s l { x with why := w }
    | none =>
      if Config.ecdsaVerify (Config.certKey (hsCert p)) (replySigned x.hello p) (hsSig p) then
        putSes s l { x with reply := p, cand := sessionKey l x.priv (hsKey p) (hsNonce x.hello) (hsNonce p) }
      else putSes s l { x with why := 2 }

def execSessionReply (l : Link) (m : Hs) (s : State) : Host.Outcome State Fault Refusal :=
  match m with
  | .send =>
    if linkOn s l && !begins s l && (sesOf s l).hs == 0 && decide (98 ≤ (sesOf s l).hello.length) then .next (sendReply s l) else .next s
  | .receive fs => .next (hsReceive s l 0x11 fs takeReply)

/-- What a FINISH's signature covers. -/
def finishSigned (x : Session) : List Byte := Config.sha256 (x.hello ++ x.reply)

/-- FINISH is sent with the SESSION and the switch boundary that this node names. -/
def sendFinish (s : State) (l : Link) (session : Word) (at_ : Nat) : State :=
  let x := sesOf s l
  let p := exactly 64 (Config.deviceSign (finishSigned x)) ++ le 4 session.toNat ++ le 4 (at_ % 2 ^ 32)
  hsSend (putSes s l { x with hs := 3, id := session, switchAt := at_ }) l 0x12 p

/-- A FINISH is taken. -/
def takeFinish (s : State) (l : Link) (p : List Byte) : State :=
  let x := sesOf s l
  if !linkOn s l ∨ x.hs ≠ 2 then s
  else if Config.ecdsaVerify (Config.certKey (hsCert x.hello)) (finishSigned x) (p.take 64) then
    putSes s l { x with hs := 3, id := BitVec.ofNat 32 (leAt p 64 4), switchAt := extendSctr s (leAt p 68 4) }
  else putSes s l { x with why := 2 }

def execSessionFinish (l : Link) (m : HsFinish) (s : State) : Host.Outcome State Fault Refusal :=
  match m with
  | .send session switch =>
    let at_ := extendSctr s switch.toNat
    let x := sesOf s l
    if linkOn s l && x.hs == 1 && !x.reply.isEmpty && decide (s.sctr.toNat + 96 ≤ at_) then .next (sendFinish s l session at_) else .next s
  | .receive fs => .next (hsReceive s l 0x12 fs takeFinish)

/-- A new session key is in use (R558). -/
def sessionUp (s : State) (l : Link) : State :=
  let s := secEv s 0x0C68 sevInfo (le 1 (linkKind l) ++ le 4 (sesOf s l).id.toNat)
  match l with
  | .witness =>
    let s := { s with pair := { s.pair with omAt := s.sctr.toNat, omLost := false, omBeat := s.sctr.toNat, omHealth := s.sctr.toNat } }
    pairEv (setF s F.PAIR_STAT_WITNESS_UP 1) 0x086B sevInfo []
  | _ => s

/-- The handshake is complete: a first key is held at once, a later one from its switch boundary (R558). -/
def hsComplete (s : State) (l : Link) : State :=
  let x := sesOf s l
  let y := { x with hs := 0, hello := [], reply := [], cand := [], why := 4 }
  if x.key.isNone ∨ l ≠ .pair then
    sessionUp (putSes s l { y with key := some x.cand, oldKey := none, newKey := none, txSeq := [], rxSeq := [] }) l
  else putSes s l { y with newKey := some x.cand }

/-- A DONE is taken. -/
def takeDone (s : State) (l : Link) (p : List Byte) : State :=
  if linkOn s l && (sesOf s l).hs == 3 && begins s l && leAt p 0 4 == (sesOf s l).id.toNat then hsComplete s l else s

def execSessionDone (l : Link) (m : Hs) (s : State) : Host.Outcome State Fault Refusal :=
  match m with
  | .send =>
    if linkOn s l && (sesOf s l).hs == 3 && !begins s l then .next (hsComplete (hsSend s l 0x13 (le 4 (sesOf s l).id.toNat)) l)
    else .next s
  | .receive fs => .next (hsReceive s l 0x13 fs takeDone)

/-- Whether a handshake runs for 1 s without DONE. -/
def hsOver (s : State) (l : Link) : Bool :=
  let x := sesOf s l
  cpIsRunning s && (x.hs != 0 || !x.hello.isEmpty) && decide (x.startAt + 96000 ≤ s.sctr.toNat)

def execSessionFail (l : Link) (s : State) : Host.Outcome State Fault Refusal :=
  let x := sesOf s l
  if hsOver s l then
    let y := { x with hs := 0, hello := [], reply := [], cand := [], retryAt := s.sctr.toNat + 96000, why := 4 }
    .next (setFault (secEv (putSes s l y) 0x0C69 sevWarning (le 1 (linkKind l) ++ le 1 x.why)) 12 3)
  else .next s

/-- Whether a SEQ of the pair link has reached 2^31 (R558). -/
def rekeyDue (s : State) : Bool :=
  let x := s.pair.ses
  linkOn s .pair && begins s .pair && hsIdle s .pair && x.key.isSome &&
  (x.txSeq ++ x.rxSeq).any (fun e => decide (2 ^ 31 ≤ e.2))

def execSessionRekey (s : State) : Host.Outcome State Fault Refusal :=
  if rekeyDue s then .next (startHello s .pair) else .next s

/-- At its switch boundary the new key of the pair link comes into use and every SEQ restarts (R558). -/
def sessionSwitch (s : State) : State :=
  let x := s.pair.ses
  match x.newKey with
  | some k =>
    if x.switchAt ≤ s.sctr.toNat then
      sessionUp (putSes s .pair { x with key := some k, oldKey := x.key, newKey := none, txSeq := [], rxSeq := [] }) .pair
    else s
  | none => s

end Sys2Proof.Machine
end

