-- ==== Sys2Proof/Machine/Witness.lean ====
section
/-! DEFINITION. The witness service (R367, R368, R370, R371): its decisions and its commands (R377). Node `j` is node j % 2 of
pair j / 2. -/

namespace Sys2Proof.Machine

def witEv (s : State) (code sev : Nat) (args : List Byte) : State := logEv s code 0x49 sev args

/-- The other node of a pair. -/
def mate (j : Nat) : Nat := if j % 2 = 0 then j + 1 else j - 1

/-- A decision is logged with its row and the command sent. -/
def decideRow (s : State) (k row cmd : Nat) : State := witEv s 0x086E sevNotice (le 1 k ++ le 1 row ++ le 1 cmd)

def witAlarm (s : State) (k reason : Nat) : State :=
  witEv (setWitPair s k { witPair s k with alarm := reason }) 0x086F sevCritical (le 1 k ++ le 1 reason)

/-- The witness sends a ROLE_COMMAND (R364). -/
def witOrder (s : State) (j cmd flags apply : Nat) : State :=
  let id := s.wit.cmdId + 1
  witSend { s with wit := { s.wit with cmdId := id } } j 5 (le 1 cmd ++ le 1 flags ++ le 2 0 ++ le 4 id ++ le 8 apply)

/-- RESTRIKE under a row, unless reason 5 has ended them (R368). -/
def witRestrike (s : State) (j row : Nat) : State :=
  if (witPair s (j / 2)).barred then s else decideRow (witOrder s j 3 0 0) (j / 2) row 3

/-- What the latest HEALTH of a node shows. -/
def WitNode.faulty (w : WitNode) : Bool := w.flags / 4 % 2 == 1
def WitNode.promotable (w : WitNode) : Bool := w.flags / 2 % 2 == 1
def WitNode.matched (w : WitNode) : Bool := w.flags % 2 == 1 && w.role == roleStandby

/-! ### HEALTH (rows 7, 12 and 13) -/

/-- A RESTRIKE that waited for the node's fault to end. -/
def healthWait (s : State) (j : Nat) : State :=
  let x := witPair s (j / 2)
  match x.wait with
  | some (n, row) =>
    if n = j ∧ !(witNode s j).faulty then witRestrike (setWitPair s (j / 2) { x with wait := none }) j row else s
  | none => s

/-- The answer to a forced PROMOTE of row 12: the first node's, then the other's. -/
def healthForce (s : State) (j : Nat) : State :=
  let k := j / 2
  let x := witPair s k
  let w := witNode s j
  if x.force = 0 ∨ w.cmd ≠ x.forceCmd then s
  else if w.result = 2 ∨ w.result = 4 then
    if x.force = 1 then
      let s := witOrder s (mate j) 1 1 0
      decideRow (setWitPair s k { witPair s k with force := 2, forceCmd := BitVec.ofNat 32 s.wit.cmdId }) k 12 1
    else witAlarm (setWitPair s k { x with force := 0, bothAt := none }) k 3
  else if w.result = 1 then setWitPair s k { x with force := 0, bothAt := none }
  else s

/-- Since when both nodes are STANDBY, or the pair is Matched. -/
def healthSince (s : State) (j : Nat) : State :=
  let k := j / 2
  let x := witPair s k
  let a := witNode s j
  let b := witNode s (mate j)
  let since := fun (hold : Bool) (t : Option Nat) => if hold then some (t.getD s.sctr.toNat) else none
  setWitPair s k { x with bothAt := since (a.role == roleStandby && b.role == roleStandby) x.bothAt,
                          matchedAt := since (a.matched || b.matched) x.matchedAt }

/-- HEALTH is recorded (R367). -/
def takeHealth (s : State) (j : Nat) (p : List Byte) : State :=
  let w := witNode s j
  let s := setWitNode s j { w with role := leAt p 0 1, flags := leAt p 1 1, result := leAt p 2 1, cmd := BitVec.ofNat 32 (leAt p 4 4),
                                   at_ := some s.sctr.toNat, lost := false, silent := false, done := leAt p 56 4 }
  let s := { s with wit := { s.wit with asked := s.wit.asked.filter (fun a => !(a.1 == j && a.2 == (witNode s j).cmd)) } }
  healthSince (healthForce (healthWait s j) j) j

def execHealthReceive (j : Fin 64) (m : OmMsg) (s : State) : Host.Outcome State Fault Refusal :=
  .next (witTake s j.val 2 m (fun s => takeHealth s j.val m.payload))

/-! ### YIELD_NOTICE, PEER_LOSS and DIGEST_REPORT (rows 1 to 9 and 13) -/

def takeYield (s : State) (j : Nat) (p : List Byte) : State :=
  let k := j / 2
  let w := witNode s j
  if leAt p 0 1 = 2 then
    if w.promotable then decideRow (witOrder s j 1 0 0) k 1 1
    else witAlarm (decideRow s k 2 0) k 1
  else if leAt p 0 1 = 1 ∧ wbit (witWord s k 0x1C) 1 then
    if w.faulty then setWitPair s k { witPair s k with wait := some (j, 13) } else witRestrike s j 13
  else s

def execYieldNotice (j : Fin 64) (m : OmMsg) (s : State) : Host.Outcome State Fault Refusal :=
  .next (witTake s j.val 3 m (fun s => takeYield s j.val m.payload))

/-- A source-loss report of this window (R371). -/
def takeSource (s : State) (j src : Nat) : State :=
  let old := ((s.wit.src.find? (fun x => x.1 == src)).map (·.2)).getD []
  let now := if old.contains j then old else j :: old
  { s with wit := { s.wit with src := s.wit.src.filter (fun x => x.1 != src) ++ [(src, now)] } }

def takePeerLoss (s : State) (j : Nat) (p : List Byte) : State :=
  let k := j / 2
  let w := witNode s j
  if leAt p 0 1 = 2 then takeSource s j (leAt p 4 4)
  else if leAt p 0 1 ≠ 1 then s
  else if w.role = roleStandby then
    if w.promotable then decideRow (witOrder s j 1 0 0) k 3 1
    else witAlarm (decideRow s k 4 0) k 2
  else if w.role = roleActive then
    decideRow (setWitNode s (mate j) { witNode s (mate j) with lost := true }) k 5 0
  else s

def execPeerLoss (j : Fin 64) (m : OmMsg) (s : State) : Host.Outcome State Fault Refusal :=
  .next (witTake s j.val 6 m (fun s => takePeerLoss s j.val m.payload))

/-- A digest mismatch of a STANDBY (rows 6 to 9). One that follows the completion of the second restrike of row 8, which the health word
counts, ends the restrikes of the pair (R368, R404). -/
def takeDigest (s : State) (j : Nat) : State :=
  let k := j / 2
  let x := witPair s k
  let standby := (witNode s j).faulty
  let active := (witNode s (mate j)).faulty
  if active && standby then witAlarm (decideRow s k 9 0) k 3
  else if active then decideRow s k 6 0
  else if standby then decideRow (setWitPair s k { x with wait := some (j, 7) }) k 7 0
  else if 2 ≤ x.count ∧ (witNode s j).done ≠ x.base then witAlarm (decideRow (setWitPair s k { x with barred := true }) k 8 0) k 5
  else witRestrike (setWitPair s k { x with count := x.count + 1, base := (witNode s j).done }) j 8

def execDigestReport (j : Fin 64) (m : OmMsg) (s : State) : Host.Outcome State Fault Refusal :=
  .next (witTake s j.val 4 m (fun s => takeDigest s j.val))

/-- A message that has been taken, by its TYPE (R364, R367). -/
def witAct (s : State) (j type : Nat) (p : List Byte) : State :=
  match type with
  | 2 => takeHealth s j p
  | 3 => takeYield s j p
  | 4 => takeDigest s j
  | 6 => takePeerLoss s j p
  | _ => s

/-! ### Timeouts (rows 10 to 12, R368, R371) -/

/-- No HEALTH of node `j` for 250 ms. -/
def healthGone (s : State) (j : Nat) : Bool :=
  let w := witNode s j
  witHas s j && !w.silent && (match w.at_ with
    | some t => decide (t + 24000 ≤ s.sctr.toNat)
    | none => false)

def takeSilence (s : State) (j : Nat) : State :=
  let k := j / 2
  let w := witNode s j
  let s := setWitNode s j { w with silent := true }
  let other := witNode s (mate j)
  if w.role = roleActive then
    if other.role = roleStandby ∧ other.promotable ∧ !other.silent then decideRow (witOrder s (mate j) 1 0 0) k 10 1 else s
  else if w.role = roleStandby then
    witAlarm (decideRow (setWitNode s j { w with silent := true, flags := w.flags - w.flags / 2 % 2 * 2 }) k 11 0) k 4
  else s

def execWitHealthTimeout (j : Fin 64) (s : State) : Host.Outcome State Fault Refusal :=
  if healthGone s j.val then .next (takeSilence s j.val) else .next s

/-- Both nodes STANDBY for 1 s, no alarm open (row 12). -/
def bothStandby (s : State) (k : Nat) : Bool :=
  let x := witPair s k
  witHas s (2 * k) && x.alarm == 0 && x.force == 0 && (match x.bothAt with
    | some t => decide (t + 96000 ≤ s.sctr.toNat)
    | none => false)

def forcePromote (s : State) (k : Nat) : State :=
  let j := 2 * k + (if wbit (witWord s k 0x1C) 0 then 1 else 0)
  let s := witOrder s j 1 1 0
  decideRow (setWitPair s k { witPair s k with force := 1, forceCmd := BitVec.ofNat 32 s.wit.cmdId }) k 12 1

def execWitBothStandby (k : Fin 32) (s : State) : Host.Outcome State Fault Refusal :=
  if bothStandby s k.val then .next (forcePromote s k.val) else .next s

/-- Matched for 10 min: 57,600,000 sp (R368). -/
def longMatched (s : State) (k : Nat) : Bool :=
  witHas s (2 * k) && (match (witPair s k).matchedAt with
    | some t => decide (t + 57600000 ≤ s.sctr.toNat)
    | none => false)

def execWitRestrikeCountClear (k : Fin 32) (s : State) : Host.Outcome State Fault Refusal :=
  if longMatched s k.val then .next (setWitPair s k.val { witPair s k.val with count := 0 }) else .next s

/-- The end of a 10 ms window: one event per source ID. -/
def sourceWindow (s : State) : State :=
  let l := s.wit.src
  let s := { s with wit := { s.wit with src := [], srcFrom := s.sctr.toNat } }
  l.foldl (fun s x => witEv s 0x0870 sevError (le 4 x.1 ++ le 2 x.2.length)) s

def execWitSourceWindowEnd (s : State) : Host.Outcome State Fault Refusal :=
  if witOn s && decide (s.wit.srcFrom + 960 ≤ s.sctr.toNat) then .next (sourceWindow s) else .next s

/-! ### Commands (R377) -/

/-- What refuses a command that names pair `k`: the service does not run, or there is no such entry. -/
def witRefusal (s : State) (k : Nat) : Option Nat :=
  if !(fnOn s 0x49 && roleOf s == roleWitness) then some 0x0829
  else if getF s F.WIT_SVC_CFG_PAIRS ≤ k then some 0x082A
  else none

def execWitCommand (c : Fin 8) (s : State) : Host.Outcome State Fault Refusal :=
  .next (serve s c.val 0x0803 (· == 12) false (fun s q =>
    let p := q.payload
    let k := leAt p 0 1
    let j := 2 * k + leAt p 1 1
    match witRefusal s k with
    | some code => (s, .refused code k)
    | none =>
      if 1 < leAt p 1 1 then (s, .refused 0x082A k)
      else if (keyAt (witNode s j).ses s.sctr.toNat).isNone then (s, .refused 0x082C j)
      else
        let s := witOrder s j (leAt p 2 1) (leAt p 3 1 % 2) (leAt p 4 8)
        ({ s with wit := { s.wit with asked := (j, BitVec.ofNat 32 s.wit.cmdId) :: s.wit.asked.filter (fun a => a.1 != j) } }, .ok [])))

/-- The age of a node's HEALTH in ms; open where there has been none (log entry 21). -/
def healthAge (s : State) (w : WitNode) : Nat :=
  match w.at_ with
  | some t => min ((s.sctr.toNat - t) / 96) 0xFFFFFFFF
  | none => (Config.freeWord s.free).toNat

/-- A node's part of the answer to `WIT_PAIR_STATUS`. -/
def witStatus (s : State) (j : Nat) : List Byte :=
  let w := witNode s j
  le 1 w.role ++ le 1 w.flags ++ le 1 w.result ++ le 1 0 ++ le 4 (healthAge s w)

def execWitPairStatus (c : Fin 8) (s : State) : Host.Outcome State Fault Refusal :=
  .next (serve s c.val 0x0804 (· == 1) false (fun s q =>
    let k := leAt q.payload 0 1
    match witRefusal s k with
    | some code => (s, .refused code k)
    | none =>
      let x := witPair s k
      let t := nextFree s
      (nextFree t, .ok (witStatus s (2 * k) ++ witStatus t (2 * k + 1) ++ le 1 x.count ++ le 1 x.alarm ++ le 2 0))))

def execWitAlarmClear (c : Fin 8) (s : State) : Host.Outcome State Fault Refusal :=
  .next (serve s c.val 0x0805 (· == 1) false (fun s q =>
    let k := leAt q.payload 0 1
    match witRefusal s k with
    | some code => (s, .refused code k)
    | none => (setWitPair s k { witPair s k with count := 0, alarm := 0, barred := false }, .ok [])))

end Sys2Proof.Machine
end

