-- ==== Sys2Proof/Machine/Fn.lean ====
section
/-! DEFINITION. Mailbox channels, functions and CP restarts (chapter 14): doorbells and request writes, the enable checks, start and
stop of every function, configuration blocks, and the restarted CP. -/

namespace Sys2Proof.Machine

/-! ### Doorbells and request areas (R411, R412, R417) -/

/-- A request becomes PENDING: its area is locked, the response area reads zero (R412). -/
def mbSubmit (s : State) (c : Nat) : State :=
  let a := mbRspArea c
  let s := { s with cp := { s.cp with mbx := s.cp.mbx.filter (fun x => !(decide (a ≤ x.1) && decide (x.1 < a + 512))) } }
  setF (putF (setF s (F.MB_STAT_STATE c) mbPending) (F.MB_STAT_HW_ANSWER c) false) (F.MB_STAT_TAG c) (reqOf s c).tag

/-- Steps 1 and 2 of R417: a restarting or halted CP is BUSY, an undefined opcode is UNSUPPORTED; any other request waits for the
CP. -/
def mbServeNow (s : State) (c : Nat) : State :=
  if cpRestarting s then finish s c (.busy 0) true
  else if cpIsHalted s then finish s c (.busy 2) true
  else if opcodes.contains (reqOf s c).opcode then s
  else finish (accept s c) c (.unsupported 0x0122) false

/-- A doorbell write with bit [0] set (R412). -/
def mbRing (s : State) (c : Nat) : State :=
  if mbUnlocked s c then mbServeNow (mbSubmit s c) c
  else mbProtocol (putF s (F.MB_STAT_RING_DROP c) true) c 1

/-- A write of bytes into a request area, or its discard while locked (R412). -/
def mbWrite (s : State) (c off : Nat) (data : List Byte) : State :=
  if mbUnlocked s c then { s with cp := { s.cp with mbx := memSetList s.cp.mbx (mbReqArea c + off) (data.take (512 - off)) } }
  else mbProtocol (putF s (F.MB_STAT_WR_DROP c) true) c 2

/-- Whether the host reaches the registers: the node is READY, RUNNING, or FAULTED with its rails up (R524, R534, R537). -/
def hostReaches (s : State) : Bool :=
  nodeState s == nsReady || nodeState s == nsRunning || (nodeState s == nsFaulted && getF s F.PM_RAIL_STAT_EN != 0)

def execMbDoorbell (c : Fin 8) (ring : Bool) (s : State) : Host.Outcome State Fault Refusal :=
  if hostReaches s && ring then .next (mbRing s c.val) else .next s

def execMbRequestWrite (c : Fin 8) (off : Fin 512) (data : List Byte) (s : State) : Host.Outcome State Fault Refusal :=
  if hostReaches s then .next (mbWrite s c.val off.val data) else .next s

/-! ### Enable checks (R373, R374, R405, R495, R531, R541) -/

/-- The enable check of function 0x48: code and field. -/
def pairCheck (s : State) : Option (Nat × Nat) :=
  let out (f : Fld) (lo hi : Nat) := decide (getF s f < lo) || decide (hi < getF s f)
  let d := getF s F.RS_CFG_D
  if getR s R.PAIR_ID = 0 then some (0x0824, 4)
  else if out F.PAIR_CFG_RATIFY_MS 100 5000 then some (0x0825, 0)
  else if getF s F.PAIR_PEER_HI_PEER_HI / 256 % 2 = 1 then some (0x0825, 0xC)
  else if out F.PAIR_LIMITS_PROMOTE_WIN 10 1000 || out F.PAIR_LIMITS_TIME_LIMIT 5 100 then some (0x0825, 0x10)
  else if out F.RS_CFG_D 1 4 || out F.RS_CFG_RETRIES 1 15 || out F.RS_CFG_CURSOR_STEP (d + 2) 96 || out F.RS_CFG_SENSE_CHK 1 255 then
    some (0x0825, 0x24)
  else if getF s F.PAIR_CFG_ROLE_SOURCE = 0 ∧ (portOfRole s 3).isNone ∧ (portOfRole s 0).isNone then some (0x0828, 0)
  else none

/-- The enable check of function 0x49: code and field. -/
def witCheck (s : State) : Option (Nat × Nat) :=
  let n := getF s F.WIT_SVC_CFG_PAIRS
  let id := fun k => witWord s k 0
  if roleOf s ≠ roleWitness then some (0x0829, 0xFFFF)
  else if n = 0 ∨ 32 < n then some (0x082A, 0)
  else
    match (List.range n).find? (fun k => id k == 0) with
    | some k => some (0x082A, 0x20 + 32 * k)
    | none => ((List.range n).find? (fun k => (List.range k).any (fun j => id j == id k))).map (fun k => (0x082B, 0x20 + 32 * k))

/-- The enable check of function 0x60, with the VOUT_MODE byte it reads: code and field. -/
def pmCheck (s : State) (vout : Option Byte) : Option (Nat × Nat) :=
  let a := getF s F.PM_CFG_AVS_ADDR
  let mode := match vout with
    | some b => b.toNat / 32 == 0
    | none => false
  if isF s F.PM_CFG_AVS_EN && !fnOn s 0x59 then some (0x0B23, 0)
  else if isF s F.PM_CFG_AVS_EN && !mode then some (0x0B24, 0)
  else if a < 0x08 ∨ 0x77 < a then some (0x0B25, 0)
  else none

/-- The enable check of function `f` (R422): code and field. -/
def fnCheck (s : State) (f : Nat) (ext : Option Byte) : Option (Nat × Nat) :=
  if 0x01 ≤ f ∧ f ≤ 0x04 then ethCheck s f
  else if f = 0x08 then flowCheck s false
  else if f = 0x09 then flowCheck s true
  else if 0x10 ≤ f ∧ f ≤ 0x1F then sapCheck s (f - 0x10)
  else if f = 0x20 then clockCheck s
  else if f = 0x21 ∨ f = 0x22 then ptpCheck s f
  else if f = 0x28 then convCheck s
  else if f = 0x29 then dpCheck s
  else if f = 0x2A then tapCheck s
  else if f = 0x2B then meterCheck s
  else if 0x30 ≤ f ∧ f ≤ 0x3F then pscCheck s (f - 0x30)
  else if f = 0x40 then engCheck s
  else if f = 0x48 then pairCheck s
  else if f = 0x49 then witCheck s
  else if f = 0x50 then (if getF s F.LOG_CFG_GASP_SEV < 3 then some (0x0922, 0) else none)
  else if f = 0x58 ∨ f = 0x59 then twCheck s f
  else if f = 0x60 then pmCheck s ext
  else none

/-! ### Start of a function -/

/-- The meter service starts: a first window, its records numbered from 1 (R214). -/
def meterStart (s : State) : State :=
  meterOpen { s with conv := { s.conv with mSeq := 0, mGap := false, snap := none } } s.dsp.issueBank

/-- Function 0x48 starts: no session is open, and what the health word counts starts from 0 (R357, R404). -/
def pairStart (s : State) : State :=
  setF { s with pair := { s.pair with ses := Session.reset, om := Session.reset, omAt := s.sctr.toNat, omLost := false },
                rs := { s.rs with mismTotal := 0, doneTotal := 0, abortTotal := 0 } } F.PAIR_STAT_WITNESS_UP 0

/-- Function 0x49 starts: nothing is known of any node (R370). -/
def witStart (s : State) : State := { s with wit := { Wit.reset with cmdId := s.wit.cmdId, srcFrom := s.sctr.toNat } }

/-- The exponent of LINEAR16: bits [4:0] of VOUT_MODE, signed (R531). -/
def voutExp (ext : Option Byte) : Int :=
  match ext with
  | some b => ((b &&& 0x1F).setWidth 5).toInt
  | none => 0

/-- Function 0x60 starts: AVS runs where it is enabled; the read of VOUT_MODE was a transfer on `TWC1` (R531, R532). -/
def pmStart (s : State) (ext : Option Byte) : State :=
  let on := isF s F.PM_CFG_AVS_EN
  let s := { s with pm := { s.pm with avsFailed := false, vexp := voutExp ext, riseAt := none, fallAt := none, avsRetry := none } }
  putF (if on then bump s (R.TWC_XFER_CNT 1) else s) F.PM_VCORE_AVS_ON on

/-- The function starts as its chapter states. -/
def fnStart (s : State) (f : Nat) (ext : Option Byte) : State :=
  if 0x01 ≤ f ∧ f ≤ 0x04 then ethStart s (f - 1)
  else if 0x10 ≤ f ∧ f ≤ 0x1F then sapEnable s (f - 0x10)
  else if f = 0x20 then clockStart s
  else if f = 0x21 ∨ f = 0x22 then setPtpInst s (f - 0x21) PtpInst.reset
  else if f = 0x28 then convStart s
  else if f = 0x29 then dpStart s
  else if f = 0x2A then tapClear s
  else if f = 0x2B then meterStart s
  else if 0x30 ≤ f ∧ f ≤ 0x3F then pscEnable s (f - 0x30)
  else if f = 0x40 then setF (engStart s) F.NODE_STAT_STATE nsRunning
  else if f = 0x48 then pairStart s
  else if f = 0x49 then witStart s
  else if f = 0x58 ∨ f = 0x59 then twStart s (f - 0x58) ext
  else if f = 0x60 then pmStart s ext
  else s

/-- Power the units of R533 that this function needs: `PM_GATE_STAT` bits of Ethernet ports and serial ports, and of the power
stage control block with the analog die. -/
def gateBits (f : Nat) : Word :=
  if 0x01 ≤ f ∧ f ≤ 0x04 then 1 <<< (f + 3)
  else if 0x10 ≤ f ∧ f ≤ 0x1F then 1 <<< (f - 0x10 + 8)
  else if 0x30 ≤ f ∧ f ≤ 0x3F then 0x03000000
  else 0

/-- The check passes: the function is enabled and starts (R423). -/
def fnPass (s : State) (f : Nat) (ext : Option Byte) : State :=
  let s := putF (setFn s f fnEnabled) (F.FN_CTL_BUSY f) false
  let s := setF (setF s (F.FN_CTL_REFUSAL f) 0) (F.FN_STAT_FIELD f) 0xFFFF
  let s := setR s R.PM_GATE_STAT (getR s R.PM_GATE_STAT ||| gateBits f)
  fnStart (logEv s 0x0163 f sevInfo []) f ext

/-- The check refuses (R423). -/
def fnRefuse (s : State) (f code field : Nat) : State :=
  let s := setF (setF (putF s (F.FN_CTL_BUSY f) false) (F.FN_CTL_REFUSAL f) code) (F.FN_STAT_FIELD f) field
  logEv s 0x0164 f sevNotice (le 2 code ++ le 2 field)

/-- The end of an enable check (R422, R423). -/
def fnCheckEnd (s : State) (f : Nat) (ext : Option Byte) : State :=
  match fnCheck s f ext with
  | some (code, field) => fnRefuse s f code field
  | none => fnPass s f ext

/-- Whether a check is pending that the CP may end now. -/
def fnChecking (s : State) (f : Nat) : Bool :=
  fnPresent s f && fnState s f == fnDisabled && fnBusy s f && cpIsRunning s

def execFnEnabled (f : Fin 256) (ext : Option Byte) (s : State) : Host.Outcome State Fault Refusal :=
  if fnChecking s f.val then .next (fnCheckEnd s f.val ext) else .next s

/-! ### Stop of a function -/

/-- A function begins to stop as its chapter states. -/
def fnStop (s : State) (f : Nat) : State :=
  let s := setFn s f fnStopping
  if 0x01 ≤ f ∧ f ≤ 0x04 then ethStop s (f - 1)
  else if f = 0x08 then removeAll s false
  else if f = 0x09 then removeAll s true
  else if 0x10 ≤ f ∧ f ≤ 0x1F then sapStop s (f - 0x10)
  else if f = 0x20 then clockStop s
  else if f = 0x21 ∨ f = 0x22 then ptpStop s (f - 0x21)
  else if f = 0x28 then convStop s
  else if f = 0x2A then tapClear s
  else if f = 0x2B then { s with conv := { s.conv with snap := none } }
  else if 0x30 ≤ f ∧ f ≤ 0x3F then pscStop s (f - 0x30)
  else if f = 0x40 then refreshOwn { s with pair := { s.pair with stopFault := true } }
  else if f = 0x48 then
    setF (setF { s with pair := { s.pair with ses := Session.reset, om := Session.reset } } F.PAIR_STAT_LINK_UP 0) F.PAIR_STAT_WITNESS_UP 0
  else if f = 0x58 ∨ f = 0x59 then twStop s (f - 0x58)
  else if f = 0x5A then putF s F.TWT_STAT_ALERT false
  else if f = 0x60 then putF { s with pm := { s.pm with avsRetry := none } } F.PM_VCORE_AVS_ON false
  else s

/-- Whether a function's stop is over: flows have left their table, a running two-wire transfer has ended. Serial ports, power
stages and the engine complete theirs by steps of their own (R162, R302, R335). -/
def fnStopOver (s : State) (f : Nat) : Bool :=
  fnState s f == fnStopping &&
  (if f = 0x08 then s.net.rx.isEmpty
   else if f = 0x09 then s.net.tx.isEmpty
   else if f = 0x58 ∨ f = 0x59 then (twc s (f - 0x58)).cur.isNone
   else !((decide (0x10 ≤ f) && decide (f ≤ 0x1F)) || (decide (0x30 ≤ f) && decide (f ≤ 0x3F)) || f == 0x40))

/-- The stop is over: the function is disabled (R423). -/
def fnStopEnd (s : State) (f : Nat) : State := logEv (setFn s f fnDisabled) 0x0165 f sevInfo []

def execFnStopped (f : Fin 256) (s : State) : Host.Outcome State Fault Refusal :=
  if fnStopOver s f.val then .next (fnStopEnd s f.val) else .next s

/-! ### Writes to ENABLE (R423, R428, R431, R434) -/

/-- A write of ENABLE during a CP restart is held; the last one counts (R434). -/
def fnHold (s : State) (f : Nat) (on : Bool) : State :=
  let before := match s.cp.held.find? (fun h => h.1 == f) with
    | some h => h.2.2
    | none => fnBusy s f
  let s := { s with cp := { s.cp with held := (f, on, before) :: s.cp.held.filter (fun h => h.1 != f) } }
  putF s (F.FN_CTL_BUSY f) true

/-- A write of ENABLE that the running CP serves (R423). -/
def fnServe (s : State) (f : Nat) (on : Bool) : State :=
  if fnBusy s f then s
  else if on then (if fnState s f = fnDisabled then putF s (F.FN_CTL_BUSY f) true else s)
  else if f = 0x00 ∨ f = 0x68 then s
  else if fnState s f = fnEnabled ∨ fnState s f = fnFaulted then fnStop s f
  else s

/-- A host's write of ENABLE (R423, R428, R434). -/
def fnWrite (s : State) (f : Nat) (on : Bool) : State :=
  if !fnPresent s f then s
  else if cpIsRunning s then fnServe s f on
  else fnHold s f on

def execFnEnable (f : Fin 256) (s : State) : Host.Outcome State Fault Refusal :=
  if hostReaches s then .next (fnWrite s f.val true) else .next s

def execFnDisable (f : Fin 256) (s : State) : Host.Outcome State Fault Refusal :=
  if hostReaches s then .next (fnWrite s f.val false) else .next s

/-! ### Configuration blocks (R424, R426, R427, R432, R561) -/

/-- Why a block may not be changed (R424). -/
def cfgLocked (s : State) (f : Nat) : Option Nat :=
  if f = 0x00 ∨ f = 0x68 then none
  else if fnBusy s f then some 0x0127
  else if fnState s f ≠ fnDisabled then some 0x0125
  else none

/-- Whether `n` words from byte offset `o` lie within the block of `f` (R427). -/
def cfgInRange (f o n : Nat) : Bool := o % 4 == 0 && decide (1 ≤ n) && decide (n ≤ 123) && decide (o + 4 * n ≤ cfgLen f)

/-- Store words into a block, reserved bits as zero (R10, R426). -/
def cfgStore (s : State) (f o : Nat) : List Word → State
  | [] => s
  | w :: t => cfgStore (setR s (cfgKey f o) (w &&& cfgMask f o)) f (o + 4) t

/-- The payload lengths of a request with `n` words after its 4-byte head. -/
def cfgLenOk (p : List Byte) (n : Nat) : Bool :=
  let c := leAt p 2 2
  if 1 ≤ c ∧ c ≤ 123 then n == 4 + 4 * c else decide (4 ≤ n) && n % 4 == 0

def execFnCfgWrite (c : Fin 8) (s : State) : Host.Outcome State Fault Refusal :=
  .next (serve s c.val 0x0102 (cfgLenOk (reqOf s c.val).payload) true (fun s q =>
    let o := leAt q.payload 0 2
    let n := leAt q.payload 2 2
    let ws := leWords ((q.payload.drop 4).take (4 * n))
    match cfgLocked s q.fn with
    | some code => (s, .refused code 0)
    | none =>
      if !cfgInRange q.fn o n then (s, .refused 0x0126 0)
      else
        let wdt := (ws.getD 0 0).toNat % 32
        if q.fn = 0x00 ∧ (wdt < 10 ∨ 30 < wdt) then (s, .refused 0x0128 0)
        else (cfgStore s q.fn o ws, .ok [])))

def execFnCfgRead (c : Fin 8) (s : State) : Host.Outcome State Fault Refusal :=
  .next (serve s c.val 0x0103 (· == 4) true (fun s q =>
    let o := leAt q.payload 0 2
    let n := leAt q.payload 2 2
    if cfgInRange q.fn o n then
      (s, .ok ((List.range n).flatMap (fun i => le 4 (getR s (cfgKey q.fn (o + 4 * i))).toNat)))
    else (s, .refused 0x0126 0)))

/-- A block returns to its reset values (R424, R426). -/
def cfgDefault (s : State) (f : Nat) : State :=
  cfgStore s f 0 ((List.range (cfgLen f / 4)).map (fun i =>
    match (cfgReset f).find? (fun c => c.1 == 4 * i) with
    | some c => c.2
    | none => 0))

def execFnCfgDefault (c : Fin 8) (s : State) : Host.Outcome State Fault Refusal :=
  .next (serve s c.val 0x0104 (· == 0) true (fun s q =>
    match cfgLocked s q.fn with
    | some code => (s, .refused code 0)
    | none => (cfgDefault s q.fn, .ok [])))

/-! ### Information (R441, R594) -/

/-- Whether a function holds live objects (R594). -/
def fnLive (s : State) (f : Nat) : Bool :=
  if 0x01 ≤ f ∧ f ≤ 0x04 then s.net.wake.toList.any (·.on)
  else if f = 0x08 then !s.net.rx.isEmpty
  else if f = 0x09 then !s.net.tx.isEmpty
  else if 0x10 ≤ f ∧ f ≤ 0x1F then
    getR s (R.SAP_MASK_RX (f - 0x10)) != 0 || getR s (R.SAP_MASK_TX (f - 0x10)) != 0 || (sapPort s (f - 0x10)).timed.isSome
  else if f = 0x20 then (List.range 3).any (fun k => newestOfs s k != 0) || getR s R.SLEW_REMAIN != 0 || s.clock.timeSet.isSome
  else if f = 0x29 then !s.conv.gains.isEmpty || !s.conv.dpRamps.isEmpty
  else if f = 0x40 then
    bankState s 0 != bkEmpty || bankState s 1 != bkEmpty || !s.eng.ramps.isEmpty || !s.eng.atomics.isEmpty
  else if f = 0x49 then !s.wit.asked.isEmpty
  else false

/-- The answer to `FN_QUERY` (R441). -/
def queryBytes (s : State) (f : Nat) : List Byte :=
  let flags := (if fnBusy s f then 1 else 0) + (if fnPresent s f then 2 else 0) + (if fnLive s f then 4 else 0)
  le 1 (fnState s f) ++ le 1 flags ++ le 2 (cfgLen f) ++ le 2 (getF s (F.FN_CTL_REFUSAL f)) ++ le 2 (getF s (F.FN_STAT_FIELD f))

def execFnQuery (c : Fin 8) (s : State) : Host.Outcome State Fault Refusal :=
  .next (serve s c.val 0x0105 (· == 0) true (fun s q => (s, .ok (queryBytes s q.fn))))

/-- The answer to `SYS_INFO` (R441). -/
def sysInfoBytes (s : State) : List Byte :=
  le 4 (getR s R.FW_RUN_VERSION).toNat ++ le 4 (getR s R.FW_RUN_BUILD).toNat ++ le 2 496 ++ le 1 8 ++ le 1 (getF s F.ID_DEVICE_ORDER) ++
  le 4 (getR s R.CP_RESTARTS).toNat ++ le 4 0 ++ le 8 s.sctr.toNat

def execSysInfo (c : Fin 8) (s : State) : Host.Outcome State Fault Refusal :=
  .next (serve s c.val 0x0101 (· == 0) false (fun s _ => (s, .ok (sysInfoBytes s))))

def execMbEcho (c : Fin 8) (s : State) : Host.Outcome State Fault Refusal :=
  .next (serve s c.val 0x0107 (fun _ => true) false (fun s q => (s, .ok q.payload)))

/-! ### CP restarts (R433 to R436) -/

/-- Long work that a commanded restart would cut short (R436). -/
def longWork (s : State) : Bool := engineWork s || fwState s == 1 || fwState s == 3

/-- Whether channel `c` holds a `CP_RESTART` that passes every check. -/
def restartAsked (s : State) (c : Nat) : Bool :=
  canServe s c 0x0106 && (headerCheck s (reqOf s c) (· == 0) false).isNone && !longWork s

def execCpRestart (c : Fin 8) (s : State) : Host.Outcome State Fault Refusal :=
  let t := serve s c.val 0x0106 (· == 0) false (fun s _ => if longWork s then (s, .refused 0x0129 0) else (s, .ok []))
  .next (if restartAsked s c.val then cpRestart t 3 else t)

/-- The watchdog expires (R433 to R435); the 60 s of an automatic commit begin again (R556). -/
def watchdog (s : State) : State :=
  let times := recentExpiries s
  let s := { s with sec := { s.sec with autoAt := s.sctr.toNat } }
  let s := setF { s with cp := { s.cp with wdtTimes := times } } F.CP_STAT_WDT_RECENT (min 15 times.length)
  let s := logEv (setFault s 1 0) 0x0161 0x00 sevError (le 1 (getF s F.SYS_CFG_WDT_MS))
  if 4 ≤ times.length then cpHalt s else cpRestart s 1

def execCpWatchdog (s : State) : Host.Outcome State Fault Refusal :=
  if cpIsRunning s then .next (watchdog s) else .next s

/-- Expiries older than 60 s no longer count (R435, R438). -/
def watchdogAge (s : State) : State :=
  let l := s.cp.wdtTimes.filter (fun t => decide (s.sctr.toNat < t + 5760000))
  if l.length = s.cp.wdtTimes.length then s
  else setF { s with cp := { s.cp with wdtTimes := l } } F.CP_STAT_WDT_RECENT (min 15 l.length)

/-- What a cut command left is logged (R413). -/
def logCut (s : State) (x : Bool × Nat) : State :=
  if x.1 then setFault (engEv s 0x06C1 sevError (le 1 x.2 ++ le 2 0 ++ le 4 0xFFFFFFFF)) 6 9
  else engEv s 0x06C3 sevInfo (le 1 x.2)

/-- Held writes are served in ascending function ID (R434). -/
def serveHeld (s : State) : State :=
  let h := s.cp.held
  (List.range 256).foldl (fun s f =>
    match h.find? (fun x => x.1 == f) with
    | some x => fnServe (putF s (F.FN_CTL_BUSY f) x.2.2) f x.2.1
    | none => s) { s with cp := { s.cp with held := [] } }

/-- The CP runs again (R434, R556). -/
def cpRuns (s : State) : State :=
  let s := setF s F.CP_STAT_CP_STATE 0
  let s := endActivate s
  let ms := min 65535 ((s.sctr.toNat - s.cp.restartAt) / 96)
  let s := logEv s 0x0160 0x00 sevNotice (le 1 (getF s F.CP_STAT_LAST_CAUSE) ++ le 2 ms ++ le 4 (getR s R.FW_RUN_VERSION).toNat)
  let s := s.cp.interrupted.foldl logCut { s with cp := { s.cp with interrupted := [] } }
  let s := putF s F.DPLL_STAT_SERVO_PAUSED false
  answerLate (serveHeld (refreshNet s))

def execCpRestarted (s : State) : Host.Outcome State Fault Refusal :=
  if cpRestarting s then .next (cpRuns s) else .next s

end Sys2Proof.Machine
end

