-- ==== Sys2Proof/Machine/Endpoint.lean ====
section
/-! DEFINITION. The PCIe endpoint, its interrupts and rings, and the semaphores (chapter 15). -/

namespace Sys2Proof.Machine

/-- Whether agent `a` (0 PCIe host, 1 SPI host, 2 CP, 3 debug) has its way to the matrix: the link up, the SPI target enabled, the
CP running (R434, R444, R454). -/
def agentLinked (s : State) (a : Nat) : Bool :=
  if a = 0 then isF s F.HL_STAT_LINK_UP
  else if a = 1 then isF s F.HL_CTL_SPI_EN
  else if a = 2 then cpIsRunning s
  else true

/-- Whether agent `a` reaches the registers. -/
def agentHere (s : State) (a : Nat) : Bool := hostReaches s && agentLinked s a

/-! ### The link (R444 to R446, R462) -/

/-- Whether the PCIe PHY is powered: group 3 is up and the node is not Dormant (R522). -/
def pciePowered (s : State) : Bool := getF s F.PM_RAIL_STAT_PG / 8 % 2 == 1 && nodeState s != nsDormant

/-- The link comes up; `PCIE_WAKE_N` is released (R445, R446). -/
def linkUp (s : State) (speed width : Nat) (bme msix pme : Bool) (mps mrrs : Nat) : State :=
  let s := setF (setF (setF (setR s R.HL_STAT 0) F.HL_STAT_LINK_UP 1) F.HL_STAT_SPEED speed) F.HL_STAT_WIDTH width
  let s := putF (putF s F.HL_STAT_BME bme) F.HL_STAT_MSIX msix
  let s := { s with host := { s.host with pme := pme, mps := mps, mrrs := mrrs, pcieWake := false } }
  logEv s 0x0D60 0x00 sevNotice (le 1 speed ++ le 1 width)

def execHlLinkUp (speed : Fin 4) (width : Fin 3) (bme : Bool) (msix : Bool) (pme : Bool) (mps : BitVec 16) (mrrs : BitVec 16)
    (s : State) : Host.Outcome State Fault Refusal :=
  if pciePowered s && !isF s F.HL_STAT_LINK_UP && speed.val != 0 && width.val != 0 then
    .next (linkUp s speed.val width.val bme msix pme mps.toNat mrrs.toNat)
  else .next s

/-- Every ring stops, transfers in flight are abandoned (R445). -/
def ringsOff (s : State) : State :=
  [0, 1, 2, 3].foldl (fun s r => setF s (F.RING_CTL_EN r) 0) { s with conv := { s.conv with fetchDue := none } }

/-- Configuration space returns to its defaults: the link is not in L0 (R444, R445; log entry 8). -/
def configDefaults (s : State) (d3 : Bool) : State :=
  let s := putF (setR s R.HL_STAT 0) F.HL_STAT_D3HOT d3
  { s with host := { s.host with pme := false, mps := HostLink.reset.mps, mrrs := HostLink.reset.mrrs } }

/-- An endpoint reset with its cause (R445). -/
def endpointReset (s : State) (cause : Nat) : State :=
  let s := setR (ringsOff (configDefaults s (cause == 5))) R.IRQ_ENABLE 0
  let s := releaseSems { s with host := { s.host with irqOut := 0, epResets := s.host.epResets + 1 } } 0
  setFault (logEv s 0x0D61 0x00 sevError (le 1 cause)) 13 0

/-- Whether a cause can arise: `PERST_N` at any time, the others on a link that is up (R445). -/
def epCause (s : State) (cause : Nat) : Bool := cause == 4 || (cause != 0 && isF s F.HL_STAT_LINK_UP)

def execEndpointReset (cause : Fin 6) (s : State) : Host.Outcome State Fault Refusal :=
  if pciePowered s && epCause s cause.val then .next (endpointReset s cause.val) else .next s

/-- A DMA read fails and its ring stops (R462). -/
def dmaStop (s : State) (r err : Nat) (d : Option Desc) : State :=
  let s := match d with
    | some x => bufDone s r x 0 8
    | none => s
  let s := setF (setF s (F.RING_CTL_EN r) 0) (F.RING_CTL_ERR r) err
  let s := if r = 3 then { s with conv := { s.conv with fetchDue := none } } else s
  setFault (logEv (raiseIrq s 14) 0x0D62 0x00 sevError (le 1 r ++ le 1 err)) 13 1

def execDmaError (r : Fin 4) (err : Fin 5) (d : Option Desc) (s : State) : Host.Outcome State Fault Refusal :=
  if r.val ≠ 0 ∧ err.val ≠ 0 ∧ bufPosted s r.val then .next (dmaStop s r.val err.val d) else .next s

/-! ### Interrupt enables (R453) -/

/-- The host writes `IRQ_ENABLE`: a message for each bit it newly enables that is set (R453). -/
def irqEnable (s : State) (w : Word) : State :=
  let new := w &&& 0x7FFF &&& ~~~(getR s R.IRQ_ENABLE) &&& getR s R.IRQ_STATUS
  (List.range 15).foldl (fun s b => if wbit new b then sendIrq s b else s) (setR s R.IRQ_ENABLE (w &&& 0x7FFF))

def execIrqEnableWrite (w : Word) (s : State) : Host.Outcome State Fault Refusal :=
  if hostReaches s then .next (irqEnable s w) else .next s

/-! ### Semaphores (R469) -/

/-- The agent that holds semaphore `k`. -/
def semOwner (s : State) (k : Nat) : Option Nat := (s.host.sem.find? (fun x => x.1 == k)).map (·.2)

/-- What a read of semaphore `k` by agent `a` returns. -/
def semWord (s : State) (k a : Nat) : Word :=
  match semOwner s k with
  | some o => BitVec.ofNat 32 (0x100 + 0x200 * o)
  | none => BitVec.ofNat 32 (0x101 + 0x200 * a)

/-- A read of a free semaphore takes it. -/
def semTake (s : State) (k a : Nat) : State :=
  match semOwner s k with
  | some _ => s
  | none => { s with host := { s.host with sem := (k, a) :: s.host.sem } }

def execSemaphoreRead (a : Fin 4) (k : Fin 32) (s : State) : Host.Outcome State Fault Refusal :=
  if agentHere s a.val then .next (emit (semTake s k.val a.val) (.read [semWord s k.val a.val])) else .next s

/-- A write by the owner releases the semaphore; a write by another agent is ignored and counted. -/
def semWrite (s : State) (k a : Nat) : State :=
  if semOwner s k = some a then { s with host := { s.host with sem := s.host.sem.filter (fun x => x.1 != k) } }
  else bump s R.HL_RO_DROP

def execSemaphoreWrite (a : Fin 4) (k : Fin 32) (s : State) : Host.Outcome State Fault Refusal :=
  if agentHere s a.val then .next (semWrite s k.val a.val) else .next s

/-! ### Rings (R457, R458, R463) -/

/-- The sizes ring `r` allows (R457). -/
def ringSizeOk (r size : Nat) : Bool :=
  if r = 0 then decide (64 ≤ size) && decide (size ≤ 65536)
  else if r = 1 then decide (2 ≤ size) && decide (size ≤ 16)
  else decide (2 ≤ size) && decide (size ≤ 4096)

/-- The check of R463 that fails first. -/
def ringCheck (s : State) (r : Nat) : Option Nat :=
  let size := (getR s (R.RING_SIZE r)).toNat
  let head := (getR s (R.RING_HEAD r)).toNat
  if (getR s (R.RING_BASE_LO r)).toNat % 64 ≠ 0 ∨ (getR s (R.RING_WB_LO r)).toNat % 8 ≠ 0 then some 0x0D20
  else if !ringSizeOk r size then some 0x0D21
  else if !(isF s F.HL_STAT_BME && isF s F.HL_STAT_LINK_UP) then some 0x0D22
  else if size < head ∨ (r = 0 ∧ head ≠ 0) then some 0x0D23
  else none

/-- Ring 1 takes its size from `METER_CFG.BUFFERS` (R463). -/
def ringSize (s : State) (r : Nat) : State :=
  if r = 1 then setR s (R.RING_SIZE 1) (BitVec.ofNat 32 (getF s F.METER_CFG_BUFFERS)) else s

/-- The host sets EN of ring `r` (R458, R463). -/
def ringOn (s : State) (r : Nat) : State :=
  let s := ringSize s r
  match ringCheck s r with
  | some code => setF s (F.RING_CTL_REFUSAL r) code
  | none =>
    let s := setF (setF (setR s (R.RING_TAIL r) 0) (F.RING_CTL_REFUSAL r) 0) (F.RING_CTL_EN r) 1
    if r = 0 then ringReport s else s

def execRingEnable (r : Fin 4) (s : State) : Host.Outcome State Fault Refusal :=
  if hostReaches s && !isF s (F.RING_CTL_EN r.val) then .next (ringOn s r.val) else .next s

/-- How far HEAD of ring `r` may move: to SIZE entries ahead of TAIL, or for the event ring to TAIL (R458). -/
def headRoom (s : State) (r : Nat) : Nat :=
  let size := (getR s (R.RING_SIZE r)).toNat
  let head := (getR s (R.RING_HEAD r)).toNat
  let tail := (getR s (R.RING_TAIL r)).toNat
  if r = 0 then (tail + 2 * size - head) % (2 * size) else size - (head + 2 * size - tail) % (2 * size)

/-- Whether a HEAD write is one that R458 ignores. -/
def headBad (s : State) (r v : Nat) : Bool :=
  let size := (getR s (R.RING_SIZE r)).toNat
  let head := (getR s (R.RING_HEAD r)).toNat
  decide (2 * size ≤ v) || decide (headRoom s r < (v + 2 * size - head) % (2 * size))

/-- The host writes HEAD of ring `r`. On a disabled ring it is only stored (R458, R463). -/
def ringHead (s : State) (r v : Nat) : State :=
  if isF s (F.RING_CTL_EN r) && headBad s r v then setF s (F.RING_CTL_HEAD_ERR r) 1
  else
    let s := setR s (R.RING_HEAD r) (BitVec.ofNat 32 v)
    if r = 0 then ringReport s else s

def execRingHeadWrite (r : Fin 4) (head : BitVec 17) (s : State) : Host.Outcome State Fault Refusal :=
  if hostReaches s then .next (ringHead s r.val head.toNat) else .next s

/-! ### Commands (R473) -/

/-- The answer to `HL_LINK_INFO`. -/
def linkInfoBytes (s : State) : List Byte :=
  le 1 (getF s F.HL_STAT_SPEED) ++ le 1 (getF s F.HL_STAT_WIDTH) ++ le 2 s.host.mps ++ le 2 s.host.mrrs ++ le 2 0 ++
  le 4 s.host.aerCorr ++ le 4 s.host.epResets

def execHlLinkInfo (c : Fin 8) (s : State) : Host.Outcome State Fault Refusal :=
  .next (serve s c.val 0x0D01 (· == 0) false (fun s _ => (s, .ok (linkInfoBytes s))))

def execStagingCrc (c : Fin 8) (s : State) : Host.Outcome State Fault Refusal :=
  .next (serve s c.val 0x0D02 (· == 8) false (fun s q =>
    let o := leAt q.payload 0 4
    let n := leAt q.payload 4 4
    if n % 4 ≠ 0 ∨ 0x200000 < o + n then (s, .refused 0x0D24 0)
    else (s, .ok (le 4 (crc32c (memGetList s.host.staging o n)).toNat))))

end Sys2Proof.Machine
end

