-- ==== Sys2Proof/Machine/Power.lean ====
section
/-! DEFINITION. The power manager, resets and start-up (chapter 18). -/

namespace Sys2Proof.Machine

/-! ### Resets and the start of a boot (R534 to R536, R573, R578) -/

/-- Sample the straps and enter BOOT. -/
def bootFrom (s : State) (st : Straps) : State := enterBoot (sampleStraps s st.bootsel.val st.testEn st.addr.val)

def execPowerOnReset (s : State) : Host.Outcome State Fault Refusal := .next (powerOn s)

def execPermanentRailsValid (st : Straps) (s : State) : Host.Outcome State Fault Refusal :=
  if nodeState s = nsOff then .next (bootFrom s st) else .next s

def execResetN (st : Straps) (s : State) : Host.Outcome State Fault Refusal := .next (bootFrom (nodeReset s 2) st)

/-- FAULTED by a rail fault or a thermal trip: only `RESET_N` or a power-on reset leaves it (R526, R529). -/
def faultedDown (s : State) : Bool :=
  nodeState s == nsFaulted && (getF s F.NODE_STAT_FAULT_CAUSE == 2 || getF s F.NODE_STAT_FAULT_CAUSE == 3)

def execDebugMasterReset (st : Straps) (s : State) : Host.Outcome State Fault Refusal :=
  if faultedDown s then .next s else .next (bootFrom (nodeReset s 4) st)

/-- Why `NODE_RESET` is refused (R545). -/
def resetRefused (s : State) (p : List Byte) : Bool := roleOf s == roleActive && leAt p 0 1 % 2 == 0

/-- Whether channel `c` holds a `NODE_RESET` that passes every check. -/
def resetAsked (s : State) (c : Nat) : Bool :=
  canServe s c 0x0B02 && (headerCheck s (reqOf s c) (· == 1) false).isNone && !resetRefused s (reqOf s c).payload

def execNodeReset (c : Fin 8) (st : Straps) (s : State) : Host.Outcome State Fault Refusal :=
  let t := serve s c.val 0x0B02 (· == 1) false (fun s q => if resetRefused s q.payload then (s, .refused 0x0B26 0) else (s, .ok []))
  .next (if resetAsked s c.val then bootFrom (nodeReset t 3) st else t)

/-! ### Sequencing (R524) -/

/-- Whether `SEQ_EN[g]` is asserted, and whether `SEQ_PG[g]` is high. -/
def groupEn (s : State) (g : Nat) : Bool := getF s F.PM_RAIL_STAT_EN / 2 ^ g % 2 == 1
def groupPg (s : State) (g : Nat) : Bool := getF s F.PM_RAIL_STAT_PG / 2 ^ g % 2 == 1

/-- Every group the sequencer uses is up. -/
def groupsUp (s : State) : Bool := (nextGroup s).isNone

/-- `SEQ_PG[g]` of the group that is being enabled rises: the next group is enabled; after the last, the root PLL locks, the SRAM
is tested and the boot ROM loads (R524, R536). -/
def pgRise (s : State) (g : Nat) : State :=
  let s := enableNext s
  let s := enableNext (setF s F.PM_RAIL_STAT_PG (getF s F.PM_RAIL_STAT_PG ||| 2 ^ g))
  if groupsUp s then setF s F.BOOT_STAT_PHASE 2 else s

def execSeqPgRise (g : Fin 6) (s : State) : Host.Outcome State Fault Refusal :=
  if nodeState s = nsBoot ∧ nextGroup s = some g.val then .next (pgRise s g.val) else .next s

/-- The writer takes everything that waits, as it does within less than the time the rails need to fall (R485, R524). -/
def drainLog (s : State) : State :=
  (List.range (s.log.fifo.length + s.log.rewrites.length + 1)).foldl (fun s _ => logWriteStep s false) s

/-- The groups are powered down and the node enters FAULTED: what stands outside the always-on domain is lost. `THERM_TRIP_N`
keeps its level (R524, R526, R529, R534). -/
def powerLoss (s : State) (cause : Nat) : State :=
  let s := groupsDown (drainLog s) 0
  let t := keepAon s (keepStraps s (keepOtp s State.reset))
  enterFaulted { t with pm := { t.pm with thermTrip := s.pm.thermTrip } } cause

def execSeqPgTimeout (g : Fin 6) (s : State) : Host.Outcome State Fault Refusal :=
  if nodeState s = nsBoot ∧ nextGroup s = some g.val then
    .next (powerLoss (logEv s 0x0B66 0x60 sevFatal (le 1 g.val)) 5)
  else .next s

/-! ### Rails (R522, R525, R526) -/

/-- The group of a rail; the last two are permanent. -/
def railGroup (k : Nat) : Option Nat := [some 0, some 1, some 2, some 2, some 3, some 3, some 4, some 5, none, none].getD k none

/-- The nominal value of a rail in mV; `VDD_CORE` has the commanded value. -/
def railNominal (s : State) (k : Nat) : Nat :=
  if k = 0 then getF s F.PM_VCORE_CMD_MV else [0, 800, 1800, 1800, 850, 850, 1200, 1800, 800, 3300].getD k 0

/-- The node is supervised: BOOT, READY or RUNNING, or FAULTED with its rails up. -/
def supervised (s : State) : Bool := (nodeAlive s || nodeState s == nsFaulted) && getF s F.PM_RAIL_STAT_EN != 0

/-- Whether rail `k` is powered. -/
def railPowered (s : State) (k : Nat) : Bool :=
  match railGroup k with
  | some g => groupEn s g && groupPg s g
  | none => true

/-- The value the window of `VDD_CORE` follows: the commanded one from 1 ms (96 sp) after its step (R530). -/
def coreCentre (s : State) : Nat :=
  match s.pm.ackAt with
  | some t => if s.sctr.toNat < t + 96 then s.pm.oldMv else getF s F.PM_VCORE_CMD_MV
  | none => getF s F.PM_VCORE_CMD_MV

/-- The distance of two values. -/
def gap (a b : Nat) : Nat := (a - b) + (b - a)

/-- Whether a reading lies inside the window of rail `k` (R522). -/
def railInWindow (s : State) (k mv : Nat) : Bool :=
  if k = 0 then decide (gap mv (coreCentre s) ≤ 30) else decide (gap mv (railNominal s k) * 20 ≤ railNominal s k)

/-- The last reading of `VDD_CORE` stands in `PM_VCORE.MEAS_MV` (R543). -/
def measured (s : State) (k mv : Nat) : State := if k = 0 then setF s F.PM_VCORE_MEAS_MV (min mv 1023) else s

/-- A rail is outside its window (R525). -/
def windowOut (s : State) (k mv : Nat) : State :=
  let s := setF (measured s k mv) F.PM_RAIL_STAT_OUT (getF s F.PM_RAIL_STAT_OUT ||| 2 ^ k)
  let s := { s with pm := { s.pm with railOutAt := s.pm.railOutAt.setIfInBounds k s.sctr.toNat } }
  let s := logEv (bump s R.RAIL_WINDOW_CNT) 0x0B64 0x60 sevError (le 1 k ++ le 2 mv)
  refreshOwn (setFault s 11 3)

/-- Whether `PM_RAIL_STAT.OUT` shows rail `k`. -/
def railOut (s : State) (k : Nat) : Bool := getF s F.PM_RAIL_STAT_OUT / 2 ^ k % 2 == 1

def execRailWindow (k : Fin 10) (mv : BitVec 16) (s : State) : Host.Outcome State Fault Refusal :=
  if supervised s ∧ railPowered s k.val ∧ ¬ railOut s k.val ∧ ¬ railInWindow s k.val mv.toNat then .next (windowOut s k.val mv.toNat)
  else .next s

/-- Whether 100 ms have passed since rail `k` left its window, as far as SCTR, which stands while no clock runs, tells (R525). -/
def railRested (s : State) (k : Nat) : Bool :=
  !groupsUp s || nodeState s == nsFaulted || decide (s.pm.railOutAt.getD k 0 + 9600 ≤ s.sctr.toNat)

def execRailWindowClear (k : Fin 10) (mv : BitVec 16) (s : State) : Host.Outcome State Fault Refusal :=
  if supervised s ∧ railPowered s k.val ∧ railOut s k.val ∧ railRested s k.val ∧ railInWindow s k.val mv.toNat then
    .next (refreshOwn (setF (measured s k.val mv.toNat) F.PM_RAIL_STAT_OUT (getF s F.PM_RAIL_STAT_OUT - 2 ^ k.val)))
  else .next s

/-- Whether R526 calls it a rail fault: a powered rail beyond ±10 % of its nominal value; an enabled group whose power-good has
risen. On a UA-2048N-E `SEQ_PG[5]` is ignored (R523). -/
def railFaulty (s : State) (w : RailEnd) : Bool :=
  match w with
  | .rail k mv => railPowered s k.val && decide (railNominal s k.val < gap mv.toNat (railNominal s k.val) * 10)
  | .pg g _ => groupEn s g.val && groupPg s g.val && decide (g.val ≤ lastGroup s)

/-- The arguments of `RAIL_FAULT` (R547). -/
def railArgs (w : RailEnd) : List Byte :=
  match w with
  | .rail k mv => le 1 k.val ++ le 2 mv.toNat
  | .pg g mv => le 1 (0x10 + g.val) ++ le 2 mv.toNat

def execRailFault (what : RailEnd) (s : State) : Host.Outcome State Fault Refusal :=
  if supervised s && railFaulty s what then .next (powerLoss (logEv (guardAct s) 0x0B65 0x60 sevFatal (railArgs what)) 2)
  else .next s

/-! ### Temperature (R527 to R529) -/

/-- Whether sensor `i` is gated: it lies in a press that is. -/
def sensorGated (s : State) (i : Nat) : Bool := decide (i < 4) && getF s F.PM_GATE_STAT_PRESS / 2 ^ i % 2 == 0

/-- Insert into an ascending list. -/
def insInt (x : Int) : List Int → List Int
  | [] => [x]
  | y :: t => if x ≤ y then x :: y :: t else y :: insInt x t

/-- Twice the median of a list: the middle reading, or the mean of the two middle ones. -/
def medianTwice (l : List Int) : Option Int :=
  let m := l.foldl (fun a x => insInt x a) []
  let n := m.length
  if n = 0 then none
  else if n % 2 = 1 then some (2 * m.getD (n / 2) 0)
  else some (m.getD (n / 2 - 1) 0 + m.getD (n / 2) 0)

/-- Whether a reading lies within −50 to +150 °C. -/
def tempInRange (t : Int) : Bool := decide (-200 ≤ t) && decide (t ≤ 600)

/-- Whether the reading of sensor `i` marks it faulted: out of range, or more than 20 °C from the median of the other sensors
that are neither gated nor out of range (R527). -/
def tempFault (s : State) (r : List Int) (i : Nat) : Bool :=
  let t := r.getD i 0
  let others := ((List.range 8).filter (fun j => j != i && !sensorGated s j && tempInRange (r.getD j 0))).map (fun j => r.getD j 0)
  !tempInRange t ||
    match medianTwice others with
    | some m => decide (160 < 2 * t - m) || decide (160 < m - 2 * t)
    | none => false

/-- A signed number as a 12-bit field. -/
def int12 (t : Int) : Nat := (BitVec.ofInt 12 t).toNat

/-- Sensor `i` is read (R527, R543). -/
def readSensor (s : State) (r : List Int) (i : Nat) : State :=
  if sensorGated s i then setF s (F.PM_TEMP_GATED i) 1
  else
    let bad := tempFault s r i
    let rose := bad && !isF s (F.PM_TEMP_FAULT i)
    let s := putF (setF (setF s (F.PM_TEMP_GATED i) 0) (F.PM_TEMP_TEMP i) (int12 (r.getD i 0))) (F.PM_TEMP_FAULT i) bad
    if rose then setFault (logEv s 0x0B67 0x60 sevWarning (le 1 i)) 11 2 else s

/-- The highest reading of the valid sensors, with its sensor (R527). -/
def hottest (s : State) (r : List Int) : Option (Nat × Int) :=
  (List.range 8).foldl (fun b i =>
    if sensorGated s i || isF s (F.PM_TEMP_FAULT i) then b
    else
      match b with
      | none => some (i, r.getD i 0)
      | some x => if x.2 < r.getD i 0 then some (i, r.getD i 0) else b) none

/-- Consecutive readings for which a condition holds, counted to 2. -/
def runOf (n : Nat) (b : Bool) : Nat := if b then min 2 (n + 1) else 0

/-- Count the readings for each threshold and clear level (R528). -/
def countThresholds (s : State) (t : Int) : State :=
  { s with pm := { s.pm with
    above := ([460, 480, 500] : List Int).zipIdx.map (fun x => runOf (s.pm.above.getD x.2 0) (decide (x.1 ≤ t))),
    below := ([440, 460] : List Int).zipIdx.map (fun x => runOf (s.pm.below.getD x.2 0) (decide (t < x.1))) } }

/-- Arguments of a threshold's event. -/
def tempArgs (i : Nat) (t : Int) : List Byte := le 1 i ++ le 2 (BitVec.ofInt 16 t).toNat

/-- The threshold at 115 °C (R528). -/
def warmStep (s : State) (i : Nat) (t : Int) : State :=
  if !s.pm.warm && s.pm.above.getD 0 0 == 2 then
    setFault (logEv { s with pm := { s.pm with warm := true } } 0x0B60 0x60 sevWarning (tempArgs i t)) 11 0
  else if s.pm.warm && s.pm.below.getD 0 0 == 2 then
    logEv { s with pm := { s.pm with warm := false } } 0x0B63 0x60 sevNotice (le 1 1)
  else s

/-- The threshold at 120 °C: an own fault until it clears (R354, R528). -/
def hotStep (s : State) (i : Nat) (t : Int) : State :=
  if !s.pm.hot && s.pm.above.getD 1 0 == 2 then
    refreshOwn (setFault (logEv { s with pm := { s.pm with hot := true } } 0x0B61 0x60 sevSevere (tempArgs i t)) 11 1)
  else if s.pm.hot && s.pm.below.getD 1 0 == 2 then
    refreshOwn (logEv { s with pm := { s.pm with hot := false } } 0x0B63 0x60 sevNotice (le 1 2))
  else s

/-- The thermal trip at 125 °C (R529). -/
def tripStep (s : State) (i : Nat) (t : Int) : State :=
  if s.pm.above.getD 2 0 == 2 then
    let s := guardAct { s with pm := { s.pm with thermTrip := true } }
    powerLoss (logEv s 0x0B62 0x60 sevFatal (tempArgs i t)) 3
  else s

/-- Tj, its peak and the comparators (R527, R528, R543). -/
def junction (s : State) (i : Nat) (t : Int) : State :=
  let peak := (BitVec.ofNat 12 (getF s F.PM_TEMP_MAX_PEAK)).toInt
  let s := setF s F.PM_TEMP_MAX_TJ (int12 t)
  let s := if peak < t then setF s F.PM_TEMP_MAX_PEAK (int12 t) else s
  tripStep (hotStep (warmStep (countThresholds s t) i t) i t) i t

/-- The sensors are read (R527). -/
def readTemps (s : State) (r : List Int) : State :=
  let s := (List.range 8).foldl (fun s i => readSensor s r i) s
  match hottest s r with
  | some (i, t) => junction s i t
  | none => s

def execTempReading (r : List (BitVec 12)) (s : State) : Host.Outcome State Fault Refusal :=
  if supervised s ∧ r.length = 8 then .next (readTemps s (r.map (·.toInt))) else .next s

/-! ### Adaptive voltage scaling (R530 to R532) -/

/-- A voltage in mV as a VOUT_COMMAND value with exponent `e` (R531). -/
def linear16 (e : Int) (mv : Nat) : Nat :=
  if e ≤ 0 then roundEven (mv * 2 ^ e.natAbs) 1000 else roundEven mv (1000 * 2 ^ e.natAbs)

/-- Whether a transfer of the power manager waits or runs on `TWC1`. -/
def avsBusy (s : State) : Bool :=
  (twc s 1).queue.any (fun x => x.pm != 0) ||
    match (twc s 1).cur with
    | some x => x.pm != 0
    | none => false

/-- Whether a first step to `mv` obeys the rates of R530, in sp. A monitor that made a rise due had no ample slack: no fall follows within
100 ms of it. -/
def avsRate (s : State) (mv : Nat) : Bool :=
  let c := getF s F.PM_VCORE_CMD_MV
  let since (t : Option Nat) (n : Nat) := match t with
    | some t => decide (t + n ≤ s.sctr.toNat)
    | none => true
  decide (720 ≤ mv) && decide (mv ≤ 800) && mv % 5 == 0 &&
    ((decide (c < mv) && decide (mv ≤ c + 10) && since s.pm.riseAt 96) ||
     (decide (mv < c) && decide (c ≤ mv + 5) && since s.pm.fallAt 9600 && since s.pm.riseAt 9600))

/-- Whether the CP may send a step: the repeat of a failed one when its 1 ms is over, else a first one. -/
def avsMay (s : State) (mv : Nat) : Bool :=
  fnOn s 0x60 && isF s F.PM_VCORE_AVS_ON && cpIsRunning s && fnOn s 0x59 && !avsBusy s &&
    match s.pm.avsRetry with
    | some (v, t) => v == mv && decide (t ≤ s.sctr.toNat)
    | none => avsRate s mv

/-- A transfer of the power manager to the regulator, with PEC (R530). -/
def pmXfer (s : State) (kind mv : Nat) (wr : List Byte) : TwXfer where
  addr := getF s F.PM_CFG_AVS_ADDR
  pec := true
  rstart := false
  wr := wr
  rd := 0
  attempts := 0
  at_ := s.sctr.toNat
  ch := none
  pm := kind
  mv := mv

/-- The transfers of a step: a PAGE write where AVS_PAGE names one, then VOUT_COMMAND (R530). -/
def avsXfers (s : State) (mv : Nat) : List TwXfer :=
  let page := getF s F.PM_CFG_AVS_PAGE
  let kind := if s.pm.avsRetry.isSome then 3 else 2
  (if page = 0xFF then [] else [pmXfer s 1 mv [0x00, BitVec.ofNat 8 page]]) ++
    [pmXfer s kind mv (0x21 :: le 2 (linear16 s.pm.vexp mv))]

/-- A step is sent: it goes first on `TWC1` (R504, R530). -/
def avsSend (s : State) (mv : Nat) : State :=
  let now := some s.sctr.toNat
  let t := setTwQueue s 1 (avsXfers s mv ++ (twc s 1).queue)
  if getF s F.PM_VCORE_CMD_MV < mv then { t with pm := { t.pm with riseAt := now, avsRetry := none } }
  else { t with pm := { t.pm with fallAt := now, avsRetry := none } }

def execAvsStep (mv : BitVec 10) (s : State) : Host.Outcome State Fault Refusal :=
  if avsMay s mv.toNat then .next (avsSend s mv.toNat) else .next s

/-! ### Start-up (R536, R537) -/

/-- Whether the image that system SRAM retains passes its verification at a wake start: its key slot and rollback are still in
force (R537, R551). -/
def retainedOk (s : State) (i : RunImage) : Bool :=
  decide (getF s F.SEC_STAT_ROLLBACK ≤ i.rollback) &&
    (if i.slot = 0 then !isF s F.SEC_STAT_VENDOR_OFF else (slotKey s i.slot).isSome)

/-- The image that a wake start finds in system SRAM. -/
def retainedImage (s : State) : Option RunImage :=
  if getF s F.PM_RESET_CAUSE_CAUSE = 5 then s.pm.retained.filter (retainedOk s) else none

/-- An image of at most 1,536 KB that verifies (R537, R551). -/
def goodImage (s : State) (b : List Byte) : Option RunImage :=
  if 1572864 < b.length then none
  else
    match verifyImage s b with
    | none => some (runImage b)
    | some _ => none

/-- The image the boot source gives, and whether it is copy B (R537). -/
def sourceImage (s : State) (a b : List Byte) : Option (RunImage × Bool) :=
  match getF s F.NODE_STAT_BOOTSEL with
  | 1 =>
    match goodImage s a with
    | some i => some (i, false)
    | none => (goodImage s b).map (fun i => (i, true))
  | 3 => none
  | _ => s.pm.goImage.map (fun i => (i, false))

/-- The image that start-up runs. -/
def bootImage (s : State) (a b : List Byte) : Option (RunImage × Bool) :=
  match retainedImage s with
  | some i => some (i, false)
  | none => sourceImage s a b

/-- The start-up calibration of a UA-2048A-E (R329, R536). -/
def startCal (s : State) (cal : List CalResult) : State :=
  if modelA s then cal.zipIdx.foldl (fun s x => if x.2 < 16 then calApply s x.2 1 x.1 else s) s else s

/-- The source of an `ETH3` wake, for `ETH_WAKE` (R251). -/
def wakeWhat (s : State) : List Byte :=
  if s.net.wokeBy ≤ 1 then le 1 1 ++ le 1 0 else le 1 2 ++ le 1 (s.net.wokeBy - 2)

/-- What start-up logs (R251, R491, R536, R540). -/
def bootEvents (s : State) (ms : Nat) (copyB : Bool) : State :=
  let cause := getF s F.PM_RESET_CAUSE_CAUSE
  let s := logEv s 0x0B69 0x60 sevNotice (le 1 cause ++ le 2 ms ++ le 1 (if copyB then 1 else 0))
  let s := if cause ≠ 1 ∧ !s.log.bank.isEmpty then logEv s 0x0964 0x50 sevNotice (le 1 s.log.bank.length) else s
  match s.pm.wakeSrc with
  | some src =>
    let s := if src = 0 then logEv s 0x0267 0x04 sevInfo (wakeWhat s) else s
    logEv s 0x0B6B 0x60 sevNotice (le 1 src)
  | none => s

/-- The bytes that the boot ROM itself loads into system SRAM: those of a QSPI copy, where nothing is retained (R537). -/
def qspiBytes (s : State) (a b : List Byte) (copyB : Bool) : List Byte :=
  if (retainedImage s).isSome ∨ getF s F.NODE_STAT_BOOTSEL ≠ 1 then [] else if copyB then b else a

/-- Start-up completes with image `i`; press 0 is gated after its calibration program (R431, R533, R534, R536). -/
def bootDone (s : State) (i : RunImage) (copyB : Bool) (ms : Nat) (cal : List CalResult) : State :=
  let s := putF (setF (adoptImage s i) F.BOOT_STAT_PHASE 6) F.BOOT_STAT_COPY_B copyB
  let s := bootEvents (startCal (setF (clearPressState s 0) F.CP_STAT_CP_STATE 0) cal) ms copyB
  let s := setF s F.NODE_STAT_STATE nsReady
  { s with pm := { s.pm with goImage := none, wakeOut := false, wakeSrc := none } }

/-- Whether the boot ROM has reached the load of the firmware. -/
def bootLoading (s : State) : Bool := nodeState s == nsBoot && groupsUp s

def execPmBootDone (a b : List Byte) (ms : BitVec 16) (cal : List CalResult) (s : State) : Host.Outcome State Fault Refusal :=
  if bootLoading s then
    match bootImage s a b with
    | some (i, copyB) => .next (bootDone (holdImage s (qspiBytes s a b copyB)) i copyB ms.toNat cal)
    | none => .next s
  else .next s

/-- The host starts the verification of the staged image (R537). -/
def bootVerify (s : State) : State :=
  let b := memGetList s.host.staging 0 (getF s F.BOOT_LEN_LEN)
  match goodImage s b with
  | some i =>
    let s := holdImage s b
    setF (putF { s with pm := { s.pm with goImage := some i } } F.BOOT_STAT_ERROR false) F.BOOT_STAT_PHASE 4
  | none => putF s F.BOOT_STAT_ERROR true

/-- Whether the boot ROM waits for a host's GO. -/
def bootWaits (s : State) : Bool :=
  bootLoading s && getF s F.NODE_STAT_BOOTSEL % 2 == 0 && s.pm.goImage.isNone && (retainedImage s).isNone

def execBootGo (s : State) : Host.Outcome State Fault Refusal := if bootWaits s then .next (bootVerify s) else .next s

/-- Whether start-up fails for want of an image (R537): both QSPI copies fail, or BOOTSEL 11 with TEST_EN low. -/
def bootFails (s : State) (a b : List Byte) : Bool :=
  bootLoading s && (bootImage s a b).isNone &&
    (getF s F.NODE_STAT_BOOTSEL == 1 || (getF s F.NODE_STAT_BOOTSEL == 3 && !isF s F.NODE_STAT_TEST_EN))

def execBootFailure (a b : List Byte) (s : State) : Host.Outcome State Fault Refusal :=
  if bootFails s a b then .next (enterFaulted (putF s F.BOOT_STAT_ERROR true) 4) else .next s

/-! ### Dormant (R539, R540) -/

/-- Why `PM_DORMANT` is refused (R539, R545). -/
def dormantRefusal (s : State) (p : List Byte) : Option Nat :=
  let src := leAt p 0 1
  let timer := leAt p 4 4
  if 15 < src ∨ 7 < leAt p 1 1 ∨ 1 < leAt p 2 1 ∨ leAt p 3 1 ≠ 0 ∨ (src / 4 % 2 = 1 ∧ timer = 0) then some 0x0B25
  else if nodeState s ≠ nsReady then some 0x0B20
  else if roleOf s = roleActive ∨ roleOf s = roleStandby then some 0x0B21
  else if src = 0 ∨ (src = 1 ∧ !(fnOn s 0x04 && isF s (F.ETH_CFG_WAKE_EN 4))) then some 0x0B22
  else none

/-- The functions that the entry to Dormant stops: all that can be disabled but `ETH3` (R431, R539). -/
def dormantStops (s : State) : List Nat :=
  fnAssigned.filter (fun f => f != 0x00 && f != 0x04 && f != 0x68 && (fnState s f == fnEnabled || fnState s f == fnFaulted))

/-- The node enters Dormant (R539): functions stop, sources are armed, groups 5, 2 and 0 go down, the PCIe link is lost. -/
def enterDormant (s : State) (p : List Byte) : State :=
  let s := logEv s 0x0B6A 0x60 sevNotice (le 1 (leAt p 0 1))
  let l := dormantStops s
  let s := l.foldl (fun s f => fnStop s f) s
  let s := drainLog (fnAssigned.foldl (fun s f => if f = 0x00 ∨ f = 0x04 ∨ f = 0x68 then s else setFn s f fnDisabled) s)
  let armed := { s.pm with armed := leAt p 0 1, wakeGpio := leAt p 1 1, wakeLevel := leAt p 2 1 == 1, wakeTimer := leAt p 4 4 }
  let s := { s with pm := armed }
  let s := groupsDown s 0x1A
  let wake := s.host.pme && isF s F.HL_CTL_WAKE_EN
  let s := if isF s F.HL_STAT_LINK_UP then endpointReset s 1 else s
  setF { s with host := { s.host with pme := wake } } F.NODE_STAT_STATE nsDormant

/-- Whether channel `c` holds a `PM_DORMANT` that passes every check. -/
def dormantAsked (s : State) (c : Nat) : Bool :=
  canServe s c 0x0B01 && (headerCheck s (reqOf s c) (· == 8) false).isNone && (dormantRefusal s (reqOf s c).payload).isNone

def execPmDormant (c : Fin 8) (s : State) : Host.Outcome State Fault Refusal :=
  let t := serve s c.val 0x0B01 (· == 8) false (fun s q =>
    match dormantRefusal s q.payload with
    | some code => (s, .refused code 0)
    | none => (s, .ok []))
  .next (if dormantAsked s c.val then enterDormant t (reqOf s c.val).payload else t)

def execWakeGpio (j : Fin 8) (level : Bool) (s : State) : Host.Outcome State Fault Refusal :=
  if wakeArmed s 1 ∧ j.val = s.pm.wakeGpio ∧ level = s.pm.wakeLevel then .next (wakeStart s 1) else .next s

def execWakeTimer (sec : BitVec 32) (s : State) : Host.Outcome State Fault Refusal :=
  if wakeArmed s 2 ∧ sec.toNat = s.pm.wakeTimer then .next (wakeStart s 2) else .next s

def execPerstNRise (s : State) : Host.Outcome State Fault Refusal := if wakeArmed s 3 then .next (wakeStart s 3) else .next s

/-! ### Readings (R545) -/

/-- The answer to `PM_READINGS`. -/
def readingsBytes (s : State) (mv : List (BitVec 16)) : List Byte :=
  let s16 (v : Nat) := le 2 ((BitVec.ofNat 12 v).signExtend 16).toNat
  (List.range 10).flatMap (fun k => le 2 (mv.getD k 0).toNat) ++
  (List.range 8).flatMap (fun i => s16 (getF s (F.PM_TEMP_TEMP i))) ++ s16 (getF s F.PM_TEMP_MAX_TJ)

def execPmReadings (c : Fin 8) (mv : List (BitVec 16)) (s : State) : Host.Outcome State Fault Refusal :=
  .next (serve s c.val 0x0B03 (· == 0) false (fun s _ => (measured s 0 (mv.getD 0 0).toNat, .ok (readingsBytes s mv))))

end Sys2Proof.Machine
end

