-- ==== Sys2Proof/Machine/Access.lean ====
section
/-! DEFINITION. Reads and writes of the two register spaces by the hosts, the CP and the debug master, over PCIe and SPI (chapter
15; R9, R10), and accesses of the bus matrix (R466). -/

namespace Sys2Proof.Machine

/-! ### Who reaches what (R447, R450, R537) -/

/-- The boot ROM serves accesses: in BOOT, once the groups are up. -/
def bootReaches (s : State) : Bool := nodeState s == nsBoot && groupsUp s

/-- Whether agent `a` reaches anything. -/
def agentReaches (s : State) (a : Nat) : Bool := (hostReaches s || bootReaches s) && agentLinked s a

/-- Whether an offset of BAR0 responds in BOOT: identity, `NODE_STAT` and the boot registers (R537). -/
def bootOffset (off : Nat) : Bool := decide (off ≤ 0x0C) || decide (0x9C40 ≤ off ∧ off ≤ 0x9C48)

/-- Whether a BAR0 offset lies in the mailbox areas, or in the last-gasp bank's window (R411, R491). -/
def inMbx (off : Nat) : Bool := decide (0x1000 ≤ off) && decide (off < 0x3000)
def inBank (off : Nat) : Bool := decide (0x9500 ≤ off) && decide (off < 0x9600)

/-- An access of a reserved offset in ENG cycle `cycle`: counted for a host, with the space 0 or 2 (R448). -/
def unmapped (s : State) (a space cycle : Nat) : State :=
  if a < 2 then setFault (logAt (bump s R.HL_UNMAPPED) (fracOf cycle) 0x0D65 0x00 sevWarning (le 1 space)) 13 3 else s

/-! ### Interrupt status and masks (R452, R453) -/

/-- The host clears bits of `IRQ_STATUS`: their messages stop being outstanding (R453). -/
def irqClear (s : State) (w : Word) : State :=
  let s := setR s R.IRQ_STATUS (getR s R.IRQ_STATUS &&& ~~~w)
  { s with host := { s.host with irqOut := s.host.irqOut &&& ~~~(w.setWidth 15) } }

/-- A write to word `i` of the MSI-X table: unmasking a vector sends the message the pending-bit array holds (R453). -/
def msixWrite (s : State) (i : Nat) (w : Word) : State :=
  if i % 4 ≠ 3 then setR s (R.MSIX_TABLE i) w
  else
    let s := setR s (R.MSIX_TABLE i) (w &&& 1)
    let v := i / 4
    if !wbit w 0 && wbit (getR s (R.MSIX_PBA 0)) v then
      emit (setR s (R.MSIX_PBA 0) (wput (getR s (R.MSIX_PBA 0)) v false)) (.irq v)
    else s

/-- The GPIO that the SPI interrupt drives low, if it does (R456). -/
def spiIrqPin (s : State) : Option Nat :=
  if isF s F.HL_CTL_SPI_IRQ_EN ∧ getR s R.IRQ_STATUS &&& getR s R.IRQ_ENABLE_SPI ≠ 0 then some (getF s F.HL_CTL_SPI_IRQ_GPIO) else none

/-! ### Writes of BAR0 -/

/-- `HL_CTL`: clearing SPI_EN releases the SPI host's semaphores (R469). -/
def hlCtlWrite (s : State) (w : Word) : State :=
  let spi := isF s F.HL_CTL_SPI_EN
  let s := setR s R.HL_CTL (w &&& 0x7F)
  if spi && !isF s F.HL_CTL_SPI_EN then releaseSems s 1 else s

/-- `RING_CTL[r]`: HEAD_ERR is cleared by a 1; EN starts or stops the ring (R458, R463, R471). -/
def ringCtlWrite (s : State) (r : Nat) (w : Word) : State :=
  let s := if wbit w 1 then putF s (F.RING_CTL_HEAD_ERR r) false else s
  if !wbit w 0 then putF s (F.RING_CTL_EN r) false
  else if isF s (F.RING_CTL_EN r) then s
  else ringOn s r

/-- A write to the block of ring `r` at `o`: BASE, SIZE and WB hold while EN is 1, and SIZE of ring 1 is read-only (R471). -/
def ringWrite (s : State) (r o : Nat) (w : Word) : State :=
  if o = 0x0C then ringHead s r (w.toNat % 2 ^ 17)
  else if o = 0x14 then ringCtlWrite s r w
  else if o = 0x10 ∨ isF s (F.RING_CTL_EN r) ∨ (o = 0x08 ∧ r = 1) then s
  else setR s (0x9080 + 0x20 * r + o) (if o = 0x08 then w &&& 0x1FFFF else w)

/-- A plain register: its RW bits take the write, a 1 clears a W1C bit, other bits keep (R9, R10). -/
def plainWrite (s : State) (off : Nat) (w : Word) : State :=
  match regAccess off with
  | some r => setR s off ((((getR s off) &&& ~~~r.rw) ||| (w &&& r.rw)) &&& ~~~(w &&& r.w1c))
  | none => s

/-- A whole dword written to a register of BAR0. -/
def regWrite (s : State) (a off : Nat) (w : Word) : State :=
  if 0x104 ≤ off ∧ off < 0x1BC then refreshFaults (plainWrite s off w)
  else if off = R.IRQ_STATUS then irqClear s (w &&& 0x7FFF)
  else if off = R.IRQ_ENABLE then irqEnable s w
  else if 0x400 ≤ off ∧ off < 0xC00 then (if off % 8 = 0 then fnWrite s ((off - 0x400) / 8) (wbit w 0) else s)
  else if 0x3000 ≤ off ∧ off < 0x3100 ∧ off % 0x20 = 0 then (if wbit w 0 then mbRing s ((off - 0x3000) / 0x20) else s)
  else if 0x3200 ≤ off ∧ off < 0x3280 then semWrite s ((off - 0x3200) / 4) a
  else if 0x8000 ≤ off ∧ off < 0x8400 ∧ (off % 0x40 = 0x10 ∨ off % 0x40 = 0x14) then
    maskWrite s ((off - 0x8000) / 0x40) (off % 0x40 == 0x14) w
  else if off = R.SELFTEST_STAT then refreshOwn (plainWrite s off w)
  else if off = R.HL_CTL then hlCtlWrite s w
  else if 0x9080 ≤ off ∧ off < 0x9100 then ringWrite s ((off - 0x9080) / 0x20) (off % 0x20) w
  else if 0x9200 ≤ off ∧ off < 0x9400 then msixWrite s ((off - 0x9200) / 4) w
  else if off = R.BOOT_CTL then (if wbit w 0 && bootWaits s then bootVerify s else s)
  else plainWrite s off w

/-- Bytes of a dword under its byte enables, with their places. -/
def enabledBytes (be : BitVec 4) (w : Word) : List (Nat × Byte) :=
  (((le 4 w.toNat).zipIdx).filter (fun x => be.getLsbD x.2)).map (fun x => (x.2, x.1))

/-- A write into a mailbox area: the request area takes enabled bytes while it is unlocked; the response area is read-only (R411,
R412). -/
def mbxWrite (s : State) (off : Nat) (be : BitVec 4) (w : Word) : State :=
  let c := (off - 0x1000) / 0x400
  if 0x200 ≤ (off - 0x1000) % 0x400 then (if be = 0xF then s else bump s R.HL_PARTIAL_DROP)
  else if mbUnlocked s c then
    { s with cp := { s.cp with mbx := (enabledBytes be w).foldl (fun m x => memSet m (off + x.1) x.2) s.cp.mbx } }
  else mbProtocol (putF s (F.MB_STAT_WR_DROP c) true) c 2

/-- A write to BAR0 in ENG cycle `cycle` (R447, R448). -/
def bar0Write (s : State) (a off : Nat) (be : BitVec 4) (w : Word) (cycle : Nat) : State :=
  if nodeState s = nsBoot then
    (if !bootOffset off then s else if be = 0xF then regWrite s a off w else bump s R.HL_PARTIAL_DROP)
  else if inMbx off then mbxWrite s off be w
  else
    let s := if be = 0xF then s else bump s R.HL_PARTIAL_DROP
    if (regAccess off).isNone && !inBank off then unmapped s a 0 cycle
    else if be = 0xF then regWrite s a off w
    else s

/-! ### Writes of BAR2 (R450, R465, R555) -/

/-- A write to the staging area; the bytes that an image holds are kept while the hold is in force (R555). -/
def stagingWrite (s : State) (o : Nat) (be : BitVec 4) (w : Word) : State :=
  if isF s F.FW_STAT_HOLD ∧ o < 1572864 then bump s R.HL_RO_DROP
  else { s with host := { s.host with staging := (enabledBytes be w).foldl (fun m x => memSet m (o + x.1) x.2) s.host.staging } }

/-- Whether an offset of BAR2 lies in a window that hosts cannot write: meter memory, exchange image, log RAM (R450). -/
def roWindow (off : Nat) : Bool :=
  decide (0x500000 ≤ off ∧ off < 0x510000) || decide (0x600000 ≤ off ∧ off < 0x610000) || decide (0x700000 ≤ off ∧ off < 0x720000)

/-- A write to BAR2 in ENG cycle `cycle`. -/
def bar2Write (s : State) (a off : Nat) (be : BitVec 4) (w : Word) (cycle : Nat) : State :=
  if 0x800000 ≤ off ∧ off < 0xA00000 then stagingWrite s (off - 0x800000) be w
  else if nodeState s = nsBoot then s
  else if roWindow off then bump s R.HL_RO_DROP
  else
    let raw := decide (off < 0x200000)
    let edge := decide (0x400000 ≤ off) && decide (off < 0x410000)
    if !raw && !edge then unmapped s a 2 cycle
    else if be ≠ 0xF then bump s R.HL_PARTIAL_DROP
    else if raw then rawWrite s (off / 4 / 65536 % 2) (off / 4 / 131072) (off / 4 % 65536) w cycle
    else edgeWrite s ((off - 0x400000) / 4) w cycle

/-! ### Reads -/

/-- Words of a 64 KB BAR2 window. -/
def cellsWord (m : Cells 32) (base off : Nat) : Word := memGet m ((off - base) / 4)

/-- A dword of a log slot: a host takes it from the slot as it was latched at the read's first dword in it (`first`), the CP
and the debug master read live (R488, R490). -/
def logRead (s : State) (a : Nat) (bank : Bool) (slot dw : Nat) (first : Bool) : State × Word :=
  if 2 ≤ a then (s, (leWords (slotBytes s bank slot)).getD dw 0)
  else
    let s := if first then latchSlot s bank slot else s
    (s, (latchWords s dw 1).headD 0)

/-- Latch the block stamp of port `n` (R299, R313). -/
def latchStamp (s : State) (n : Nat) : State :=
  let x := sapPort s n
  let s := setR s (R.SAP_STAMP_LO n) (BitVec.ofNat 32 x.stampAt)
  setR (setR s (R.SAP_STAMP_HI n) (BitVec.ofNat 32 (x.stampAt / 2 ^ 32))) (R.SAP_STAMP_FRAC n) (x.stampFrac.setWidth 32)

/-- Read a register of BAR0 in ENG cycle `cycle`: RC bits are cleared (R9); FIFO_HWM starts again from the fill (R496). -/
def regRead (s : State) (a off cycle : Nat) : State × Word :=
  if 0x400 ≤ off ∧ off < 0xC00 ∧ !fnPresent s ((off - 0x400) / 8) then (s, if off % 8 = 0 then 0 else 0x0000FFFF)
  else if 0x3200 ≤ off ∧ off < 0x3280 then (semTake s ((off - 0x3200) / 4) a, semWord s ((off - 0x3200) / 4) a)
  else
    let s := if off = R.SCTR_LO then latchTime s cycle
      else if 0x8000 ≤ off ∧ off < 0x8400 ∧ off % 0x40 = 4 then latchStamp s ((off - 0x8000) / 0x40)
      else s
    match regAccess off with
    | some r =>
      let t := if r.rc = 0 then s else setR s off (getR s off &&& ~~~r.rc)
      (if off = R.LOG_STAT then refreshFifo (setF t F.LOG_STAT_FIFO_HWM 0) else t, getR s off)
    | none => (s, 0)

/-- Read BAR0 (R447, R448). -/
def bar0Read (s : State) (a off cycle : Nat) (first : Bool) : State × Word :=
  if nodeState s = nsBoot then (if bootOffset off then regRead s a off cycle else (s, 0))
  else if inMbx off then (s, BitVec.ofNat 32 (leVal (memGetList s.cp.mbx off 4)))
  else if inBank off then logRead s a true ((off - 0x9500) / 32) ((off - 0x9500) / 4 % 8) first
  else if (regAccess off).isNone then (unmapped s a 0 cycle, 0)
  else regRead s a off cycle

/-- Read BAR2 in ENG cycle `cycle` (R450). -/
def bar2Read (s : State) (a off cycle : Nat) (first : Bool) : State × Word :=
  if 0x800000 ≤ off ∧ off < 0xA00000 then (s, BitVec.ofNat 32 (leVal (memGetList s.host.staging (off - 0x800000) 4)))
  else if nodeState s = nsBoot then (s, 0)
  else if off < 0x200000 then coefRead s (off / 4 / 65536 % 2) (off / 4 / 131072) (off / 4 % 65536)
  else if 0x400000 ≤ off ∧ off < 0x410000 then edgeRead s ((off - 0x400000) / 4)
  else if 0x500000 ≤ off ∧ off < 0x510000 then (s, cellsWord s.dsp.meter 0x500000 off)
  else if 0x600000 ≤ off ∧ off < 0x610000 then (s, cellsWord s.host.image 0x600000 off)
  else if 0x700000 ≤ off ∧ off < 0x720000 then logRead s a false ((off - 0x700000) / 32) (off / 4 % 8) first
  else (unmapped s a 2 cycle, 0)

/-! ### The bus matrix (R465 to R467; arbitration in Matrix.lean) -/

/-- The regions of system SRAM that a master reaches: the lowest address, or none (R465, R466). -/
def sramFrom (m addr : Nat) : Bool :=
  let dma := decide (0x1A0000 ≤ addr ∧ addr < 0x200000)
  let staging := decide (0x200000 ≤ addr ∧ addr < 0x400000)
  if m = 0 ∨ m = 7 then decide (addr < 0x400000)
  else if m = 1 then dma || staging
  else if m = 2 ∨ m = 5 then dma
  else if m = 3 ∨ m = 4 then staging
  else false

/-- Whether master `m` reaches target `t` at `addr`, both numbered as R466 lists them. -/
def matrixReach (s : State) (m t addr : Nat) : Bool :=
  if t = 0 then sramFrom m addr
  else if t = 1 then [0, 3, 4, 6, 7].contains m
  else if t = 2 then [0, 6, 7].contains m
  else if t = 3 then [0, 1, 4, 7].contains m
  else if t = 4 then [0, 3, 4, 7].contains m
  else if t = 5 then [1, 3, 5].contains m
  else if t = 6 then m == 0 || (m == 7 && getF s F.SEC_STAT_DEBUG == 2)
  else false

/-- A decode error: an inbound access is one of a reserved offset; any other is captured and logged (R466). -/
def decodeError (s : State) (m t cycle : Nat) : State :=
  if m = 4 then unmapped s 0 2 cycle
  else
    let s := if wbit (getR s R.BM_DECERR) 31 then s else setR s R.BM_DECERR (BitVec.ofNat 32 (2 ^ 31 + 8 * t + m))
    setFault (logAt s (fracOf cycle) 0x0D66 0x00 sevError (le 1 m ++ le 1 t)) 13 4

/-- A write to system SRAM (R13, R465). -/
def sramWrite (s : State) (addr : Nat) (be : BitVec 4) (w : Word) : State :=
  if 0x200000 ≤ addr then stagingWrite s (addr - 0x200000) be w
  else { s with host := { s.host with sram := (enabledBytes be w).foldl (fun m x => memSet m (addr + x.1) x.2) s.host.sram } }

/-- A dword of system SRAM. -/
def sramRead (s : State) (addr : Nat) : Word :=
  BitVec.ofNat 32 (leVal (if 0x200000 ≤ addr then memGetList s.host.staging (addr - 0x200000) 4 else memGetList s.host.sram addr 4))

/-- The agent that a master is to the registers: the CP, the debug master, or the PCIe host. -/
def masterAgent (m : Nat) : Nat := if m = 0 then 2 else if m = 7 then 3 else 0

/-- Whether an address of the peripheral bridge is a BAR0 offset, or lies in one of its BAR2 windows (R466); the plate loader only writes
program memory and the engine tables there. -/
def onBridge (m addr : Nat) : Bool := m != 3 && (decide (addr < 0x10000) || roWindow addr)

/-- A write that reaches its target: system SRAM, a coefficient word at its BAR2 offset, or on the peripheral bridge a register. What the
other targets hold is not written by single words (R466; log entry 24). -/
def matrixWrite (s : State) (m t addr : Nat) (be : BitVec 4) (w : Word) (cycle : Nat) (rivals : List BusReq) : State :=
  if !matrixReach s m t addr then decodeError s m t cycle
  else
    let s := arbitrate s t (⟨Fin.ofNat 8 m, 0, addr, 1⟩ :: rivals)
    if t = 0 then sramWrite s addr be w
    else if t = 1 ∧ addr < 0x200000 ∧ be = 0xF then setCoef s (addr / 4 / 65536 % 2) (addr / 4 / 131072) (addr / 4 % 65536) w
    else if t = 4 ∧ m ≠ 3 ∧ addr < 0x10000 then bar0Write s (masterAgent m) addr be w cycle
    else s

/-- A read that reaches its target, likewise. -/
def matrixRead (s : State) (m t addr cycle : Nat) (rivals : List BusReq) : State × Word :=
  if !matrixReach s m t addr then (decodeError s m t cycle, 0)
  else
    let s := arbitrate s t (⟨Fin.ofNat 8 m, 0, addr, 1⟩ :: rivals)
    if t = 0 then (s, sramRead s addr)
    else if t = 1 ∧ addr < 0x200000 then coefRead s (addr / 4 / 65536 % 2) (addr / 4 / 131072) (addr / 4 % 65536)
    else if t = 3 ∧ addr < 0x20000 then (s, (leWords (slotBytes s false (addr / 32))).getD (addr / 4 % 8) 0)
    else if t = 4 ∧ onBridge m addr then
      (if addr < 0x10000 then bar0Read s (masterAgent m) addr cycle true else bar2Read s (masterAgent m) addr cycle true)
    else (nextFree s, Config.freeWord s.free)

/-! ### The commands -/

/-- Write a dword of a space. -/
def spaceWrite (s : State) (a : Nat) (sp : Space) (off : Nat) (be : BitVec 4) (w : Word) (cycle : Nat) : State :=
  match sp with
  | .bar0 => bar0Write s a off be w cycle
  | .bar2 => bar2Write s a off be w cycle
  | .matrix m t rivals => matrixWrite s m.val t.val off be w cycle rivals

/-- Read a dword of a space. -/
def spaceRead (s : State) (a : Nat) (sp : Space) (off cycle : Nat) (first : Bool) : State × Word :=
  match sp with
  | .bar0 => bar0Read s a off cycle first
  | .bar2 => bar2Read s a off cycle first
  | .matrix m t rivals => matrixRead s m.val t.val off cycle rivals

def execRegisterWrite (a : Fin 4) (sp : Space) (off : BitVec 24) (be : BitVec 4) (w : Word) (cycle : Fin 10240) (s : State) :
    Host.Outcome State Fault Refusal :=
  if agentReaches s a.val ∧ off.toNat % 4 = 0 then .next (spaceWrite s a.val sp off.toNat be w cycle.val) else .next s

/-- A read that returns its dword to the agent. -/
def readReturn (x : State × Word) : State := emit x.1 (.read [x.2])

def execReadClearCounter (a : Fin 4) (sp : Space) (off : BitVec 24) (cycle : Fin 10240) (s : State) :
    Host.Outcome State Fault Refusal :=
  if agentReaches s a.val ∧ off.toNat % 4 = 0 then .next (readReturn (spaceRead s a.val sp off.toNat cycle.val true)) else .next s

def execSctrLoRead (cycle : Fin 10240) (s : State) : Host.Outcome State Fault Refusal :=
  if hostReaches s then .next (readReturn (latchTime s cycle.val, s.sctr.setWidth 32)) else .next s

def execSapStampLoRead (n : Fin 16) (s : State) : Host.Outcome State Fault Refusal :=
  if hostReaches s then .next (readReturn (latchStamp s n.val, BitVec.ofNat 32 (sapPort s n.val).stampAt)) else .next s

/-! ### The SPI target (R454, R455) -/

/-- A transaction is a frame error (R455). -/
def spiBad (s : State) (cmd : Byte) : State :=
  let s := { s with host := { s.host with frameErr := true, spiDone := false } }
  setFault (logEv (bump s R.SPIT_ERR_CNT) 0x0D68 0x00 sevWarning [cmd]) 13 5

/-- A transaction completes. -/
def spiGood (s : State) : State := { s with host := { s.host with spiDone := true } }

/-- The space a byte names (R454). -/
def spiSpace (b : Byte) : Option Space := if b = 0 then some .bar0 else if b = 2 then some .bar2 else none

/-- Write the whole dwords in order; each is accepted at its own cycle. -/
def spiDwords (s : State) (sp : Space) (off : Nat) : List (Word × Nat) → State
  | [] => s
  | x :: t => spiDwords (spaceWrite s 1 sp (off % 2 ^ 24) 0xF x.1 x.2) sp (off + 4) t

/-- A write transaction. -/
def spiWriteRun (s : State) (cmd space : Byte) (off : Nat) (data : List Byte) (cycles : List (Fin 10240)) : State :=
  match spiSpace space with
  | none => spiBad s cmd
  | some sp =>
    if cmd ≠ 0x02 ∨ off % 4 ≠ 0 then spiBad s cmd
    else
      let ws := (leWords data).zipIdx.map (fun x => (x.1, ((cycles[x.2]?).map (·.val)).getD 0))
      let s := spiDwords s sp off ws
      if data.length % 4 = 0 then spiGood s else spiBad s cmd

def execSpiWrite (cmd : Byte) (space : Byte) (off : BitVec 24) (data : List Byte) (cycles : List (Fin 10240)) (s : State) :
    Host.Outcome State Fault Refusal :=
  if agentReaches s 1 ∧ cmd ≠ 0x0B ∧ cmd ≠ 0x05 ∧ cmd ≠ 0x9F then .next (spiWriteRun s cmd space off.toNat data cycles) else .next s

/-- Read `n` dwords in order; one that is not ready is sent as ones (R455). -/
def spiReadDwords (s : State) (sp : Space) (off cycle : Nat) (late : List Nat) (i : Nat) : Nat → State × List Word
  | 0 => (s, [])
  | n + 1 =>
    let x := spaceRead s 1 sp (off % 2 ^ 24) cycle (i == 0 || off % 32 == 0)
    let isLate := late.contains i
    let s := if isLate then { x.1 with host := { x.1.host with readLate := true } } else x.1
    let r := spiReadDwords s sp (off + 4) cycle late (i + 1) n
    (r.1, (if isLate then 0xFFFFFFFF else x.2) :: r.2)

/-- A read transaction of `bytes` bytes. -/
def spiReadRun (s : State) (space : Byte) (off bytes : Nat) (late : List Nat) (cycle : Nat) : State :=
  match spiSpace space with
  | none => spiBad s 0x0B
  | some sp =>
    if off % 4 ≠ 0 then spiBad s 0x0B
    else
      let r := spiReadDwords s sp off cycle late 0 ((bytes + 3) / 4)
      let s := emit r.1 (.target ((r.2.flatMap (fun w => le 4 w.toNat)).take bytes))
      if bytes % 4 = 0 then spiGood s else spiBad s 0x0B

def execSpiRead (space : Byte) (off : BitVec 24) (bytes : BitVec 16) (late : List Nat) (cycle : Fin 10240) (s : State) :
    Host.Outcome State Fault Refusal :=
  if agentReaches s 1 then .next (spiReadRun s space off.toNat bytes.toNat late cycle.val) else .next s

/-- The `SPIT_STAT` byte (R454). -/
def spitStat (s : State) : Byte :=
  BitVec.ofNat 8 ((if s.host.spiDone then 1 else 0) + (if s.host.frameErr then 2 else 0) +
    (if getR s R.IRQ_STATUS &&& getR s R.IRQ_ENABLE_SPI ≠ 0 then 4 else 0) + (if s.host.readLate then 8 else 0))

def execSpiStatus (s : State) : Host.Outcome State Fault Refusal :=
  if agentReaches s 1 then
    let t := emit s (.target [spitStat s])
    .next (spiGood { t with host := { t.host with frameErr := false, readLate := false } })
  else .next s

def execSpiIdentity (s : State) : Host.Outcome State Fault Refusal :=
  if agentReaches s 1 then .next (spiGood (emit s (.target (le 4 (getR s R.ID_DEVICE).toNat)))) else .next s

end Sys2Proof.Machine
end

