-- ==== Sys2Proof/Machine/Update.lean ====
section
/-! DEFINITION. The order of the updates at a boundary (R18, R391, R392), and the commands that perform one of them. Each command
first performs what comes before it at the same boundary (log entry 17). -/

namespace Sys2Proof.Machine

/-- The engine stops; on an ACTIVE the yield comes first (R162, R354). -/
def stopStep (s : State) : State := if stopDue s && roleOf s != roleActive then doEngineStop s else s

/-- The engine starts; `late` where the boundary itself makes it so (R161). -/
def startStep (s : State) (late : Bool) : State := if startDue s late then doEngineStart s else s

def swapBeginStep (s : State) : State := if swapBeginDue s then doSwapBegin s else s
def swapDoneStep (s : State) : State := if swapDoneDue s then doSwapDone s else s

/-- A restrike's chunk, and the engine's stop (before step 1 of R18). -/
def upStop (s : State) : State := stopStep (applyChunk s)

/-- Step 1 of R18. -/
def upBanks (s : State) : State := swapDoneStep (swapBeginStep (startStep (upStop s) true))

/-- Step 2. -/
def upAtomics (s : State) : State :=
  let s := upBanks s
  applyAtomics s s.eng.atomics.length

/-- The paired quantities of the boundary, which hold the pair's direct writes. -/
def upPaired (s : State) : State := applyPq (upAtomics s)

/-- Steps 3 and 4. -/
def upDirects (s : State) : State :=
  let s := upPaired s
  applyDirects s s.eng.dws.length

/-- The ramps that step 5 steps: cancels, a restrike's ramp set, and new ramps (R183, R185, R392). -/
def upCancels (s : State) : State := cancelRamps (upDirects s)
def upRampSet (s : State) : State := applyRampSet (upCancels s)
def upRamps (s : State) : State :=
  let s := upRampSet s
  installRamps s s.eng.ramps.length

/-- All of R18. -/
def updates (s : State) : State := burnish (upRamps s)

/-! ### The commands -/

def execCoefficientChunkApply (s : State) : Host.Outcome State Fault Refusal := .next (atNext s applyChunk)

def execEngineStopped (s : State) : Host.Outcome State Fault Refusal := .next (atNext s upStop)

def execEngineStarted (s : State) : Host.Outcome State Fault Refusal := .next (atNext s (fun s => startStep (upStop s) false))

def execSwapBegin (s : State) : Host.Outcome State Fault Refusal :=
  .next (atNext s (fun s => if swapBeginDue s then swapBeginStep (upStop s) else s))

def execSwapDone (s : State) : Host.Outcome State Fault Refusal :=
  .next (atNext s (fun s => if swapDoneDue s then swapDoneStep (upStop s) else s))

/-- One admitted set is applied, the first that is due (R190). -/
def execAtomicSetApply (s : State) : Host.Outcome State Fault Refusal :=
  .next (atNext s (fun s =>
    if (nextAtomic s).isNone then s
    else
      let s := upBanks s
      match nextAtomic s with
      | some i => applyAtomicAt s i
      | none => s))

def execPairedQuantityApply (s : State) : Host.Outcome State Fault Refusal :=
  .next (atNext s (fun s => if pqDue s then upPaired s else s))

/-- One direct write is applied, the first that is due (R187). -/
def execDirectWriteApply (s : State) : Host.Outcome State Fault Refusal :=
  .next (atNext s (fun s =>
    if (nextDirect s).isNone then s
    else
      let s := upPaired s
      match nextDirect s with
      | some i => applyDirectAt s i
      | none => s))

def execRampCancelApply (s : State) : Host.Outcome State Fault Refusal :=
  .next (atNext s (fun s => if s.eng.ramps.any (cancelDue s) then upCancels s else s))

def execRampSetApply (s : State) : Host.Outcome State Fault Refusal :=
  .next (atNext s (fun s => if (rampSetDue s).isSome then upRampSet s else s))

def execRampInstall (s : State) : Host.Outcome State Fault Refusal :=
  .next (atNext s (fun s => if s.eng.ramps.any (installDue s) then upRamps s else s))

/-- Whether the ramp at place `i` writes its last step at the boundary in force. -/
def rampEnds (s : State) (i : Nat) : Bool :=
  match s.eng.ramps[i]? with
  | some r => (r.start.isSome || installDue s r) && decide (r.n ≤ r.k + 1)
  | none => false

/-- The ramp at place `i` writes its last step and is freed (R183). -/
def execRampDone (i : Fin 1024) (s : State) : Host.Outcome State Fault Refusal :=
  .next (atNext s (fun s =>
    if rampEnds s i.val then
      let s := upRamps s
      if rampEnds s i.val then stepRamp s i.val else s
    else s))

end Sys2Proof.Machine
end

