-- ==== Sys2Proof/Machine/Boundary.lean ====
section
/-! DEFINITION. The sp boundary (R15 to R21): what the sp that ends still owes, the updates of the boundary, and the boundary
window. Commands that perform a part of it in the sp before have done that part already (log entry 17). -/

namespace Sys2Proof.Machine

/-- Whether sp boundaries come: the rails are up, and the node has not lost its oscillator (R14, R28, R534). -/
def clocksRun (s : State) : Bool :=
  groupsUp s && (nodeAlive s || (nodeState s == nsFaulted && getF s F.NODE_STAT_FAULT_CAUSE != 1))

/-! ### What the sp that ends owes -/

/-- The state digest of a window that ended 95 sp ago (R399). -/
def sdOverdue (s : State) : State :=
  match s.rs.sdDue with
  | some (t, _) => if t + 95 ≤ s.sctr.toNat then sdEnd s else s
  | none => s

/-- A unit that was due in this sp and was not replayed (R388). -/
def replayMissed (s : State) : State :=
  match unitDue s with
  | some c => nack s c.index
  | none => s

/-- Everything of the sp that ends that no command did. -/
def closeSp (s : State) : State :=
  let s := if heartbeatGone s then missHeartbeat s else s
  let s := sendSet (finishPackets (finishStaging s))
  let s := missDigests (putDigests s s.pair.digDue) (digOverdue s none)
  replayMissed (sdOverdue (snapshotRamps (copyChunk s)))

/-! ### The boundary's updates (R18, R348) -/

/-- Updates, role changes, commands of the witness, and a new session key. -/
def turn (s : State) : State :=
  atNext s (fun s =>
    let s := roleStep (updates s)
    sessionSwitch (commandSteps s s.pair.cmds.length))

/-- XFADE_POS and the swap-curve pair of the sp that begins (R106, R174). -/
def curveStep (s : State) : State :=
  setCurve (if swapState s = 2 then setF s F.XFADE_POS_J (s.sctr.toNat - swapAt s) else s)

/-! ### The presses (R15, R71, R76, R89, R401, R533) -/

/-- A memory word goes bad (R75). -/
def takeHit (s : State) (h : ScrubHit) : State := strikeWord s h.p h.mem.val (placeOf h.mem.val h.lane.val h.addr.toNat) h.two

/-- Whether the power stage control block is powered: a channel is enabled or stops, a `PSC_CAL` runs, or a `PSC_DIAG` on a disabled
channel (R334, R533; log entry 61). -/
def pscPowered (s : State) : Bool :=
  (List.range 16).any (fun n => fnState s (pscFn n) != fnDisabled || pscState s n != psOff)

/-- A serial port loses its registers and what its mask buffers hold as it is gated (R533). -/
def gateSap (s : State) (n : Nat) : State :=
  let s := [R.SAP_STAT n, R.SAP_STAMP_LO n, R.SAP_STAMP_HI n, R.SAP_STAMP_FRAC n, R.SAP_MASK_RX n, R.SAP_MASK_TX n, R.SLIP_DROP n,
    R.SLIP_REPEAT n, R.SAP_ALIGN_CNT n, R.SAP_FAULT_CNT n, R.SAP_MASK_DROP n].foldl (fun s o => setR s o 0) s
  setSap s n { sapPort s n with maskRx := none, maskTx := none, timed := none, stampAt := 0, stampFrac := 0 }

/-- The power stage control block loses its registers as it is gated, but for the calibration words, which a start-up calibration sets
before the block is first enabled (R533, R536; log entry 61). -/
def gatePsc (s : State) : State :=
  let regs := fun n => [R.PSC_STAT n, R.PSC_DIAG_Z n, R.PSC_LIMIT_CNT n, R.PSC_SHUT_CNT n, R.PSC_CLIP_CNT n]
  let s := (List.range 16).foldl (fun s n => (regs n).foldl (fun s o => setR s o 0) s) s
  { setR s R.PVDD_STAT 0 with psc := Psc.reset }

/-- Units whose condition has ended are gated, and lose what they hold (R533). -/
def gateUnits (s : State) : State :=
  let was := (getR s R.PM_GATE_STAT).toNat
  let s := (List.range 16).foldl (fun s n =>
    if was / 2 ^ (8 + n) % 2 = 1 ∧ fnState s (sapFn n) = fnDisabled then gateSap s n else s) s
  if was / 2 ^ 24 % 2 = 1 ∧ !pscPowered s then gatePsc s else s

/-- `PM_GATE_STAT` as R533 powers the units. -/
def refreshGates (s : State) : State :=
  let s := gateUnits s
  let bits := fun (n base : Nat) (on : Nat → Bool) => (((List.range n).filter on).map (fun i => 2 ^ (base + i))).sum
  setR s R.PM_GATE_STAT (BitVec.ofNat 32 (bits 4 0 (fun p => !isF s (F.PRESS_STAT_GATED p)) +
    bits 4 4 (fun p => fnState s (1 + p) != fnDisabled) + bits 16 8 (fun n => fnState s (sapFn n) != fnDisabled) +
    bits 2 24 (fun _ => pscPowered s)))

/-- The presses at the boundary: results complete, the check lanes rotate and load, muting, power and BIST change, and the
scrubber takes its share. -/
def pressBoundary (s : State) (hits : List ScrubHit) : State :=
  let s := (List.range 4).foldl muteStep (drain (hits.foldl takeHit s))
  let s := sdStep (ringStep s (s.sctr.toNat - 1))
  let s := refreshGates (gatePresses (bistStep s))
  (List.range 4).foldl (fun s p => scrubStep (loadCheck s p (s.sctr.toNat % 16)) p) s

/-! ### Sinks and inputs (R15 to R17, R144, R161, R451) -/

/-- Whether the sinks read the engine's results: it runs, and this is not its start boundary (R161). -/
def sinksLive (s : State) : Bool := s.eng.running && s.eng.startBy != s.sctr.toNat

/-- The sink read: each entry's word as the sp that ended left it, the input region in its copy of that sp (R15, R16, R144). -/
def sinkRead (s : State) : State :=
  let put := fun (m : Cells 32) (e : Word) =>
    let kind := e.toNat / 2 ^ 14 % 8
    if kind = 0 then m else memSet m (4096 * kind + e.toNat / 2 ^ 17 % 2048) (readEx s 20480 (e.toNat % 2 ^ 14))
  let v := if sinksLive s then (bankRec s s.dsp.issueBank).sinks.foldl put [] else []
  { s with dsp := { s.dsp with sinkPrev := s.dsp.sinkVals, sinkVals := v } }

/-- The words of two regions of the exchange as one memory: the input region below 0x2000, the press regions from there on. -/
def joinEx (lo hi : Cells 32) : Cells 32 :=
  lo.filter (fun c => decide (c.1 < 0x2000)) ++ hi.filter (fun c => decide (0x2000 ≤ c.1))

/-- The exchange image takes every word that way; a silent partition reads +0.0 (R89, R401, R451). -/
def captureImage (s : State) : State :=
  if isF s F.HL_CTL_EXIMG_HOLD then s
  else
    let live := s.dsp.exPress.filter (fun c => !silent s ((c.1 - 0x2000) / 0x800))
    setR { s with host := { s.host with image := joinEx s.dsp.exIn live } } R.EXIMG_SCTR (s.sctr.setWidth 32)

/-- The input write: staging closes, and a word that nothing staged reads +0.0 (R15, R16). -/
def inputWrite (s : State) : State :=
  { s with dsp := { s.dsp with exPrev := s.dsp.exIn, exIn := s.dsp.staging, staging := [] } }

/-- The meter service folds the sp that ended; at a window's end or a swap boundary a new window begins (R213, R214). -/
def meterBoundary (s : State) : State :=
  let s := meterStep (meterOverdue s)
  let cut := swapState s == 2 && swapAt s == s.sctr.toNat
  if cut || s.sctr.toNat % 960 == 0 then meterClose s cut s.dsp.issueBank
  else { s with conv := { s.conv with mBank := s.dsp.issueBank } }

/-- What takes the sink values just read. -/
def takeSinks (s : State) : State :=
  let s := digStep (captureImage (sinkRead s))
  tapCapture (convSinks (decimateSaps (gatherFlows s)))

/-- Inputs: what is staged for the sp that begins, the input write, and the staging for the sp after it. -/
def takeInputs (s : State) : State :=
  let s := inputWrite (tapPlayback (convBoundary s))
  decideAnchors (stageSaps (stageFlows s))

/-! ### Pair, restrike and the rest -/

/-- A STANDBY with an own fault ends its restrike (R394). -/
def faultAbort (s : State) : State :=
  if roleOf s = roleStandby ∧ isF s F.PAIR_STAT_OWN_FAULT ∧ rsState s ≠ 0 then rsAbort s 3 true else s

/-- Drop what no later sp asks for: coefficient words written before the last 8 sp, and corrections of more than 1 s ago
(R387, R391, R404). -/
def prune (s : State) : State :=
  let keep := fun (x : Nat × Nat × Word) => rsState s == 2 || decide (s.sctr.toNat ≤ x.1 + 8)
  { s with rs := { s.rs with wrote := s.rs.wrote.filter keep,
                             eccAt := s.rs.eccAt.filter (fun t => decide (s.sctr.toNat < t + 96000)), replay := none } }

/-- The pair logic at the boundary (R354, R362, R388, R394, R398). -/
def pairBoundary (s : State) : State :=
  let s := faultAbort (refreshOwn (cursorStep (prune s)))
  flushOm (testWatch (matchedStep (agreeStep (fillStep s))))

/-- The boundary window of boundary n, `SCTR` being n already (R15). -/
def window (s : State) (hits : List ScrubHit) : State :=
  let s := takeSinks (curveStep (pressBoundary s hits))
  let s := pscInputs (senseDecide (takeInputs s))
  let s := (List.range 4).foldl pauseTick (meterBoundary s)
  fuseStep (watchdogAge (twTakeAttentions (pairBoundary s)))

/-- The sp boundary (R15). -/
def boundary (s : State) (hits : List ScrubHit) : State :=
  window (clockBoundary (turn (closeSp s))) hits

def execSpBoundary (hits : List ScrubHit) (s : State) : Host.Outcome State Fault Refusal :=
  if clocksRun s then .next (boundary s hits) else .next s

/-- No sp heartbeat came in time: the output guard acts (R21). -/
def execSpHeartbeatTimeout (s : State) : Host.Outcome State Fault Refusal :=
  if groupsUp s && (nodeAlive s || nodeState s == nsFaulted) then .next (guardAct s) else .next s

end Sys2Proof.Machine
end

