-- ==== Sys2Proof/Machine/Operands.lean ====
section
/-! DEFINITION. The operand forms of the press instructions: pointer addressing (R100), coefficient addressing (R101), the
X and C operands (R99) and the delay addresses (R113). -/

namespace Sys2Proof.Machine

/-- A position of a pointer set moved by `d`, inside its ring (R100). -/
def ringAddr (x : PtrSet) (d : Int) : Nat :=
  let p : Int := (x.ptr.toNat : Int) - x.base.toNat + d
  ((x.base.toNat : Int) + p % x.len.toNat).toNat % 32768

/-- The state address of pointer set `n` with displacement `disp` in a lane entry (R100). -/
def stateAddr (s : State) (p j n : Nat) (disp : BitVec 8) : Nat :=
  ringAddr ((lane s p j).ps.getD n PtrSet.reset) disp.toInt

/-- The post-modify of a pointer set, visible from slot t + 4 (R69, R100). -/
def postPtr (s : State) (p t j n : Nat) (pm : Bool) : State :=
  if pm then
    let x := (lane s p j).ps.getD n PtrSet.reset
    push s p (t + 4) (.ptr j n (BitVec.ofNat 15 (ringAddr x x.ofs.toInt)))
  else s

/-- The coefficient address of pointer `m` with displacement `disp` (R101). -/
def coefAddr (s : State) (p j m : Nat) (disp : BitVec 8) : Nat :=
  let x := (lane s p j).cp.getD m CPtr.reset
  (x.ptr + disp.signExtend 11).toNat

/-- The post-modify of a coefficient pointer, visible from slot t + 4 (R69, R101). -/
def postCptr (s : State) (p t j m : Nat) (cpm : Bool) : State :=
  if cpm then
    let x := (lane s p j).cp.getD m CPtr.reset
    push s p (t + 4) (.cptr j m (x.ptr + x.ofs.setWidth 11))
  else s

/-- The value of an X operand in lane entry `j`, lane `l`, in slot `t`: a check lane receives the word that its compute lane reads
(R73, R99). -/
def xValue (s : State) (h : Issue) (t j l : Nat) (x : XOp) : Word :=
  match x with
  | .v r => vreg s h.p.val j r
  | .mem n disp _ => readState s h.p.val l (stateAddr s h.p.val l n.val disp)
  | .ex a => readExOf s h.p.val t a.toNat

/-- A lane entry reads state memory: the address it forms, which the check lanes compare (R73), and the post-modify. -/
def readStateBy (s : State) (p t j n : Nat) (disp : BitVec 8) (pm : Bool) : State :=
  postPtr (note s p (.rd j 0 (stateAddr s p j n disp))) p t j n pm

/-- The read address and the post-modify of an X operand. -/
def xPost (s : State) (h : Issue) (t j : Nat) (x : XOp) : State :=
  match x with
  | .mem n disp pm => readStateBy s h.p.val t j n.val disp pm
  | _ => s

/-- The value of a C operand: a coefficient comes from the bank whose image issues (R99, R101). -/
def cValue (s : State) (h : Issue) (j l : Nat) (c : COp) : Word :=
  match c with
  | .v r => vreg s h.p.val j r
  | .coef m disp _ => readCoef s h.p.val s.dsp.issueBank l (coefAddr s h.p.val l m.val disp)

/-- A lane entry reads coefficient memory in bank `b`: the address it forms, as `ECC_UNC_INFO` counts it (R73, R91). -/
def noteCoef (s : State) (p b j m : Nat) (disp : BitVec 8) : State :=
  note s p (.rd j 1 (b * 2048 + coefAddr s p j m disp))

/-- The read address and the post-modify of a C operand. -/
def cPost (s : State) (h : Issue) (t j : Nat) (c : COp) : State :=
  match c with
  | .coef m disp cpm => postCptr (noteCoef s h.p.val s.dsp.issueBank j m.val disp) h.p.val t j m.val cpm
  | .v _ => s

/-- The ring position of tap `tap` in the sp that press `p` computes (R113, R387). -/
def delayPos (s : State) (p : Nat) (rs : BitVec 5) (tap : Word) : Nat :=
  (((spOf s p % 2 ^ rs.toNat : Nat) : Int) - (tap &&& 0x3FFFFF).toNat) % (2 ^ rs.toNat : Nat) |>.toNat

/-- The word address of a sample of ring `i`, and the byte it starts at within that word (R113). -/
def delayAddr (pk : Bool) (rs : BitVec 5) (rb : BitVec 22) (i pos : Nat) : Nat × Nat :=
  if pk then
    let b := 3 * pos
    ((rb.toNat + i * (3 * 2 ^ rs.toNat / 4) + b / 4) % 2 ^ 22, b % 4)
  else ((rb.toNat + i * 2 ^ rs.toNat + pos) % 2 ^ 22, 0)

end Sys2Proof.Machine
end

