-- ==== Sys2Proof/Machine/PressSetup.lean ====
section
/-! DEFINITION. The setup instructions (R103), repeat blocks (R117) and the maintenance instructions (R118, R119). -/

namespace Sys2Proof.Machine

def execNop (h : Issue) (s : State) : Host.Outcome State Fault Refusal :=
  .next (issue (.nop h) h s (fun s _ _ => s))

def execVli (h : Issue) (d : Fin 16) (imm : Word) (s : State) : Host.Outcome State Fault Refusal :=
  .next (issue (.vli h d imm) h s (fun s t m => eachLane s h.p.val m (fun s j _ => setV s h.p.val t j d imm)))

def execMov (h : Issue) (d a : Fin 16) (s : State) : Host.Outcome State Fault Refusal :=
  .next (issue (.mov h d a) h s (fun s t m => eachLane s h.p.val m (fun s j _ => setV s h.p.val t j d (vreg s h.p.val j a))))

def execLaneid (h : Issue) (d : Fin 16) (s : State) : Host.Outcome State Fault Refusal :=
  .next (issue (.laneid h d) h s (fun s t m => eachLane s h.p.val m (fun s j l => setV s h.p.val t j d (natF l))))

def execPset (h : Issue) (n : Fin 8) (base : BitVec 15) (len ofs : BitVec 16) (s : State) :
    Host.Outcome State Fault Refusal :=
  .next (issue (.pset h n base len ofs) h s (fun s t m => eachLane s h.p.val m (fun s j _ =>
    push s h.p.val (t + 4) (.pset j n.val ⟨base, base, len, ofs⟩))))

def execPpos (h : Issue) (n : Fin 8) (value : BitVec 15) (s : State) : Host.Outcome State Fault Refusal :=
  .next (issue (.ppos h n value) h s (fun s t m => eachLane s h.p.val m (fun s j _ => push s h.p.val (t + 4) (.ptr j n.val value))))

def execCset (h : Issue) (n : Fin 4) (cptr : BitVec 11) (cofs : BitVec 12) (s : State) :
    Host.Outcome State Fault Refusal :=
  .next (issue (.cset h n cptr cofs) h s (fun s t m => eachLane s h.p.val m (fun s j _ =>
    push s h.p.val (t + 4) (.cset j n.val ⟨cptr, cofs⟩))))

def execMset (h : Issue) (pd : Fin 4) (imm : Word) (s : State) : Host.Outcome State Fault Refusal :=
  .next (issue (.mset h pd imm) h s (fun s t _ => push s h.p.val (t + 4) (.mask pd.val imm 0xFFFFFFFF)))

/-- The mask operation of `MLOG` (R102). -/
def logOp (op : LogOp) (a b : Word) : Word :=
  match op with
  | .and => a &&& b
  | .or => a ||| b
  | .xor => a ^^^ b
  | .andNot => a &&& ~~~b

def execMlog (h : Issue) (pd pa pb : Fin 4) (op : LogOp) (s : State) : Host.Outcome State Fault Refusal :=
  .next (issue (.mlog h pd pa pb op) h s (fun s t _ =>
    let ms := (press s h.p.val).masks
    push s h.p.val (t + 4) (.mask pd.val (logOp op (ms.getD pa.val 0) (ms.getD pb.val 0)) 0xFFFFFFFF)))

/-- A new SRCH value: at once for the search instructions, visible to readers from slot t + 4 (R109). -/
def setSrch (s : State) (p t j : Nat) (x : Srch) : State :=
  push (setLane s p j { lane s p j with srch := x }) p (t + 4) (.srchVis j x)

def execSrinit (h : Issue) (minimum : Bool) (s : State) : Host.Outcome State Fault Refusal :=
  .next (issue (.srinit h minimum) h s (fun s t m => eachLane s h.p.val m (fun s j _ =>
    setSrch s h.p.val t j ⟨if minimum then 0x7F800000 else 0xFF800000, 0xFFFF⟩)))

def execRds (h : Issue) (d : Fin 16) (index : Bool) (s : State) : Host.Outcome State Fault Refusal :=
  .next (issue (.rds h d index) h s (fun s t m => eachLane s h.p.val m (fun s j _ =>
    let x := (lane s h.p.val j).srchVis
    setV s h.p.val t j d (if index then natF x.index.toNat else x.value))))

/-- `REP` takes its slot; the sequencer repeats the body (R117). -/
def execRep (h : Issue) (count : BitVec 16) (s : State) : Host.Outcome State Fault Refusal :=
  .next (issue (.rep h count) h s (fun s _ _ => s))

/-- `END` takes its slot (R117). -/
def execRepEnd (h : Issue) (s : State) : Host.Outcome State Fault Refusal :=
  .next (issue (.repEnd h) h s (fun s _ _ => s))

/-- The iteration number of the innermost repeat block in the slot that issues, 0 outside any block (R108, R117). -/
def iterNo (s : State) (p : Nat) : Nat := (fetch s p).iter

def execNorm (h : Issue) (d : Fin 16) (la seg : Fin 4) (s : State) : Host.Outcome State Fault Refusal :=
  .next (issue (.norm h d la seg) h s (fun s t m => eachLane s h.p.val m (fun s j _ =>
    setV s h.p.val t j d (accNorm ((lane s h.p.val j).laVis.getD la.val Acc.reset) seg.val))))

def execExpx (h : Issue) (d a : Fin 16) (s : State) : Host.Outcome State Fault Refusal :=
  .next (issue (.expx h d a) h s (fun s t m => eachLane s h.p.val m (fun s j _ =>
    setV s h.p.val t j d (BitVec.ofInt 32 (expOf (vreg s h.p.val j a))))))

end Sys2Proof.Machine
end

