-- ==== Sys2Proof/Machine/PressAcc.lean ====
section
/-! DEFINITION. The accumulate and search instructions (R83 to R85, R105 to R110). -/

namespace Sys2Proof.Machine

/-- Accumulator `k` of a lane entry, with every instruction issued so far applied (R105). -/
def laNow (s : State) (p j : Nat) (k : Fin 4) : Acc := (lane s p j).la.getD k.val Acc.reset

/-- A new accumulator value: at once for accumulates, visible to `ARD` and `NORM` from slot t + 4 (R70). -/
def setLa (s : State) (p t j : Nat) (k : Fin 4) (x : Acc) : State :=
  let l := lane s p j
  push (setLane s p j { l with la := l.la.setIfInBounds k.val x }) p (t + 4) (.laVis j k.val x)

/-- Add one term to an accumulator, with the flags it sets (R84, R88). -/
def accumulate (s : State) (p t j : Nat) (k : Fin 4) (x : Ex) : State :=
  let (a, nan, tl) := accAdd (laNow s p j k) x
  setLa (setLaneFlag (setLaneFlag s p t j .nan nan) p t j .tlost tl) p t j k a

def execMac (h : Issue) (la : Fin 4) (x : XOp) (c : COp) (s : State) : Host.Outcome State Fault Refusal :=
  .next (issue (.mac h la x c) h s (fun s t m => eachLane s h.p.val m (fun s j l =>
    let xv := xValue s h t j l x
    let cv := cValue s h j l c
    let s := accumulate s h.p.val t j la (mulX (cls xv) (cls cv))
    cPost (xPost s h t j x) h t j c)))

/-- The crossfaded gain g of `XMAC`, delivered once (R83, R84). -/
def crossGain (s : State) (gA gB : Word) : FR :=
  deliver (addX (mulX (cls s.dsp.pairO) (cls gA)) (mulX (cls s.dsp.pairI) (cls gB)))

def execXmac (h : Issue) (la : Fin 4) (x : XOp) (m : Fin 4) (disp : BitVec 8) (cpm : Bool) (s : State) :
    Host.Outcome State Fault Refusal :=
  .next (issue (.xmac h la x m disp cpm) h s (fun s t em => eachLane s h.p.val em (fun s j l =>
    let p := h.p.val
    let xv := xValue s h t j l x
    let w := coefAddr s p l m.val disp
    let g := crossGain s (readCoef s p 0 l w) (readCoef s p 1 l w)
    let s := setLaneFlag (setLaneFlag s p t j .nan g.nan) p t j .inf g.inf
    let s := accumulate s p t j la (mulX (cls xv) (cls g.w))
    postCptr (noteCoef (noteCoef (xPost s h t j x) p 0 j m.val disp) p 1 j m.val disp) p t j m.val cpm)))

def execAadd (h : Issue) (la : Fin 4) (x : XOp) (s : State) : Host.Outcome State Fault Refusal :=
  .next (issue (.aadd h la x) h s (fun s t m => eachLane s h.p.val m (fun s j l =>
    let xv := xValue s h t j l x
    xPost (accumulate s h.p.val t j la (cls xv)) h t j x)))

def execAclr (h : Issue) (la : Fin 4) (s : State) : Host.Outcome State Fault Refusal :=
  .next (issue (.aclr h la) h s (fun s t m => eachLane s h.p.val m (fun s j _ => setLa s h.p.val t j la Acc.reset)))

def execArd (h : Issue) (d : Fin 16) (la : Fin 4) (s : State) : Host.Outcome State Fault Refusal :=
  .next (issue (.ard h d la) h s (fun s t m => eachLane s h.p.val m (fun s j _ =>
    let p := h.p.val
    let (w, nan, ovf) := accRead ((lane s p j).laVis.getD la.val Acc.reset)
    setV (setLaneFlag (setLaneFlag s p t j .nan nan) p t j .ovf ovf) p t j d w)))

def execAins (h : Issue) (la seg : Fin 4) (a b : Fin 16) (s : State) : Host.Outcome State Fault Refusal :=
  .next (issue (.ains h la seg a b) h s (fun s t m => eachLane s h.p.val m (fun s j _ =>
    let p := h.p.val
    setLa s p t j la (accIns (laNow s p j la) seg.val (vreg s p j a) (vreg s p j b)))))

/-- One search instruction in one lane (R108). -/
def searchLane (s : State) (h : Issue) (t j l : Nat) (maximum : Bool) (x : XOp) (imm : BitVec 16)
    (istep lstep : BitVec 6) : State :=
  let p := h.p.val
  let xv := xValue s h t j l x
  let idx := BitVec.ofNat 16 (imm.toNat + iterNo s p * istep.toNat + l * lstep.toNat)
  let c := (lane s p j).srch
  let s :=
    if isNan xv then setLaneFlag s p t j .nan true
    else
      let k := orderKey (canon xv)
      let old := orderKey c.value
      if (maximum && decide (old < k)) || (!maximum && decide (k < old)) then setSrch s p t j ⟨canon xv, idx⟩ else s
  xPost s h t j x

def execMinx (h : Issue) (x : XOp) (imm : BitVec 16) (istep lstep : BitVec 6) (s : State) :
    Host.Outcome State Fault Refusal :=
  .next (issue (.minx h x imm istep lstep) h s (fun s t m => eachLane s h.p.val m (fun s j l => searchLane s h t j l false x imm istep lstep)))

def execMaxx (h : Issue) (x : XOp) (imm : BitVec 16) (istep lstep : BitVec 6) (s : State) :
    Host.Outcome State Fault Refusal :=
  .next (issue (.maxx h x imm istep lstep) h s (fun s t m => eachLane s h.p.val m (fun s j l => searchLane s h t j l true x imm istep lstep)))

/-- The search result of the lanes of a mask: the extreme value, the lowest lane on a tie (R110). -/
def reduceSearch (s : State) (p : Nat) (m : Word) (minimum : Bool) : Option Srch :=
  (List.range 32).foldl (fun b j =>
    if wbit m j then
      let x := (lane s p j).srchVis
      match b with
      | none => some x
      | some y =>
        if (if minimum then decide (orderKey x.value < orderKey y.value) else decide (orderKey y.value < orderKey x.value))
        then some x else some y
    else b) none

def execXred (h : Issue) (minimum : Bool) (s : State) : Host.Outcome State Fault Refusal :=
  .next (issue (.xred h minimum) h s (fun s t m =>
    match reduceSearch s h.p.val m minimum with
    | none => s
    | some x => eachLane s h.p.val m (fun s j _ =>
        push (push s h.p.val (t + 5) (.srch j x)) h.p.val (t + 9) (.srchVis j x))))

end Sys2Proof.Machine
end

