-- ==== Sys2Proof/Machine/PressCmd.lean ====
section
/-! DEFINITION. The press command `PRESS_FAULT_CLEAR` (R90, R93, R94). -/

namespace Sys2Proof.Machine

/-- Clear the fault state and captures of press `p`; its muting lifts at the next boundary (R90). -/
def clearPress (s : State) (p : Nat) : State :=
  let s := setF (setF s (F.PRESS_STAT_FAULTED p) 0) (F.PRESS_STAT_MISMATCH p) 0
  let s := setF (setF s (F.PRESS_STAT_ECC_UNC p) 0) (F.PRESS_STAT_MUTED p) 0
  setR (setR s (R.MISM_INFO p) 0) (R.ECC_UNC_INFO p) 0

def execPressFaultClear (c : Fin 8) (s : State) : Host.Outcome State Fault Refusal :=
  .next (serve s c.val 0x06F0 (· == 1) false (fun s q =>
    let m := leAt q.payload 0 1
    if m = 0 ∨ 16 ≤ m then (s, .refused 0x06F8 0)
    else
      let s := (List.range 4).foldl (fun s p => if m / 2 ^ p % 2 = 1 then clearPress s p else s) s
      (logEv s 0x06E7 0x40 sevInfo (le 1 m), .ok [])))

end Sys2Proof.Machine
end

