-- ==== Sys2Proof/Machine/PressFloat.lean ====
section
/-! DEFINITION. The float instructions and the approximations (R81, R104). -/

namespace Sys2Proof.Machine

/-- One float instruction with the operands `f` takes from a lane entry (R104). -/
def floatOp (i : Instr) (h : Issue) (d : Fin 16) (s : State) (f : (Fin 16 → Word) → FR) : State :=
  issue i h s (fun s t m => eachLane s h.p.val m (fun s j _ => setFR s h.p.val t j d (f (vreg s h.p.val j))))

def execFadd (h : Issue) (d a b : Fin 16) (s : State) : Host.Outcome State Fault Refusal :=
  .next (floatOp (.fadd h d a b) h d s (fun v => fadd (v a) (v b)))

def execFsub (h : Issue) (d a b : Fin 16) (s : State) : Host.Outcome State Fault Refusal :=
  .next (floatOp (.fsub h d a b) h d s (fun v => fsub (v a) (v b)))

def execFmul (h : Issue) (d a b : Fin 16) (s : State) : Host.Outcome State Fault Refusal :=
  .next (floatOp (.fmul h d a b) h d s (fun v => fmul (v a) (v b)))

def execFma (h : Issue) (d a b c : Fin 16) (s : State) : Host.Outcome State Fault Refusal :=
  .next (floatOp (.fma h d a b c) h d s (fun v => ffma (v a) (v b) (v c)))

def execFabs (h : Issue) (d a : Fin 16) (s : State) : Host.Outcome State Fault Refusal :=
  .next (floatOp (.fabs h d a) h d s (fun v => fabs (v a)))

def execFneg (h : Issue) (d a : Fin 16) (s : State) : Host.Outcome State Fault Refusal :=
  .next (floatOp (.fneg h d a) h d s (fun v => fneg (v a)))

def execFmin (h : Issue) (d a b : Fin 16) (s : State) : Host.Outcome State Fault Refusal :=
  .next (floatOp (.fmin h d a b) h d s (fun v => fminmax false (v a) (v b)))

def execFmax (h : Issue) (d a b : Fin 16) (s : State) : Host.Outcome State Fault Refusal :=
  .next (floatOp (.fmax h d a b) h d s (fun v => fminmax true (v a) (v b)))

def execLog2a (h : Issue) (d a : Fin 16) (s : State) : Host.Outcome State Fault Refusal :=
  .next (floatOp (.log2a h d a) h d s (fun v => log2a (v a)))

def execExp2a (h : Issue) (d a : Fin 16) (s : State) : Host.Outcome State Fault Refusal :=
  .next (floatOp (.exp2a h d a) h d s (fun v => exp2a (v a)))

def execRcpa (h : Issue) (d a : Fin 16) (s : State) : Host.Outcome State Fault Refusal :=
  .next (floatOp (.rcpa h d a) h d s (fun v => rcpa (v a)))

def execRsqa (h : Issue) (d a : Fin 16) (s : State) : Host.Outcome State Fault Refusal :=
  .next (floatOp (.rsqa h d a) h d s (fun v => rsqa (v a)))

/-- The mask bits of a comparison in the compute lanes (R104). -/
def cmpBits (s : State) (p : Nat) (a b : Fin 16) (rel : Rel) : Word :=
  (List.range 32).foldl (fun w j => if (fcmp rel (vreg s p j a) (vreg s p j b)).1 then w ||| (1 <<< j) else w) 0

def execFcmp (h : Issue) (pd : Fin 4) (a b : Fin 16) (rel : Rel) (s : State) : Host.Outcome State Fault Refusal :=
  .next (issue (.fcmp h pd a b rel) h s (fun s t m =>
    let p := h.p.val
    let s := eachLane s p m (fun s j _ =>
      let x := fcmp rel (vreg s p j a) (vreg s p j b)
      setLaneFlag (note s p (.bit j x.1)) p t j .nan x.2)
    push s p (t + 4) (.mask pd.val (cmpBits s p a b rel) m)))

def execFsel (h : Issue) (d a b : Fin 16) (pd : Fin 4) (s : State) : Host.Outcome State Fault Refusal :=
  .next (issue (.fsel h d a b pd) h s (fun s t m =>
    let k := (press s h.p.val).masks.getD pd.val 0
    eachLane s h.p.val m (fun s j l =>
      setV s h.p.val t j d (if wbit k l then vreg s h.p.val j a else vreg s h.p.val j b))))

end Sys2Proof.Machine
end

