-- ==== Sys2Proof/Machine/PressMem.lean ====
section
/-! DEFINITION. The memory instructions (R111 to R116) and the press command (R90, R93). -/

namespace Sys2Proof.Machine

def execLd (h : Issue) (d : Fin 16) (n : Fin 8) (disp : BitVec 8) (pm : Bool) (s : State) :
    Host.Outcome State Fault Refusal :=
  .next (issue (.ld h d n disp pm) h s (fun s t m => eachLane s h.p.val m (fun s j l =>
    let w := readState s h.p.val l (stateAddr s h.p.val l n.val disp)
    readStateBy (setV s h.p.val t j d w) h.p.val t j n.val disp pm)))

def execSt (h : Issue) (a : Fin 16) (n : Fin 8) (disp : BitVec 8) (pm : Bool) (s : State) :
    Host.Outcome State Fault Refusal :=
  .next (issue (.st h a n disp pm) h s (fun s t m => eachLane s h.p.val m (fun s j _ =>
    let p := h.p.val
    let x : Wr := .st j (stateAddr s p j n.val disp) (vreg s p j a)
    let s := if j < 32 then push s p (t + 4) x else note s p x
    postPtr s p t j n.val pm)))

def execLdc (h : Issue) (d : Fin 16) (m : Fin 4) (disp : BitVec 8) (cpm : Bool) (s : State) :
    Host.Outcome State Fault Refusal :=
  .next (issue (.ldc h d m disp cpm) h s (fun s t em => eachLane s h.p.val em (fun s j l =>
    let p := h.p.val
    let w := readCoef s p s.dsp.issueBank l (coefAddr s p l m.val disp)
    postCptr (noteCoef (setV s p t j d w) p s.dsp.issueBank j m.val disp) p t j m.val cpm)))

def execLdx (h : Issue) (d : Fin 16) (a : BitVec 14) (s : State) : Host.Outcome State Fault Refusal :=
  .next (issue (.ldx h d a) h s (fun s t m =>
    let w := readExOf s h.p.val t a.toNat
    eachLane s h.p.val m (fun s j l => setV s h.p.val t j d ((areaWord s h.p.val a.toNat l).getD w))))

/-- One exchange store, visible from slot t + 48; a silent press's stores are discarded (R89, R112, R401). -/
def pushStx (s : State) (p t a : Nat) (w : Word) : State :=
  if silent s p then s else setPress s p { press s p with stx := (press s p).stx ++ [(t + 48, a, w)] }

/-- The compute lanes that a store with VEC and LANE writes, within the mask (R112, R116). -/
def storeLanes (m : Word) (vec : Bool) (l : Fin 32) : List Nat :=
  if vec then (List.range 32).filter (fun j => wbit m j) else if wbit m l.val then [l.val] else []

/-- A store into the accumulator area of press `p` by the lanes `ls` (R385). -/
def storeArea (s : State) (p a : Nat) (r : Fin 16) (ls : List Nat) : State :=
  let o := 512 * p + (a - (0x2000 + 0x800 * p))
  { s with rs := { s.rs with acc := ls.foldl (fun m j => memSet m (o + j) (vreg s p j r)) s.rs.acc } }

/-- The lane entries that a store by the compute lanes `ls` runs in note its address and data, kind 6 exchange or 7 delay, which the
check lanes compare (R73). -/
def noteStore (s : State) (p k : Nat) (ls : List Nat) (addr : Nat → Nat → Nat) (data : Nat → Word) : State :=
  eachLane s p 0xFFFFFFFF (fun s j l => if ls.contains l then note s p (.out j k (addr j l) (data j)) else s)

/-- `STX`: in the copy and replay windows it writes the accumulator area or nothing (R112, R385). -/
def execStx (h : Issue) (a : Fin 16) (vec : Bool) (lane : Fin 32) (xaddr : BitVec 14) (s : State) :
    Host.Outcome State Fault Refusal :=
  .next (issue (.stx h a vec lane xaddr) h s (fun s t m =>
    let p := h.p.val
    let ls := storeLanes m vec lane
    let s := noteStore s p 6 ls (fun _ l => xaddr.toNat + (if vec then l else 0)) (fun j => vreg s p j a)
    if inWindow s p then (if vec && areaAddr p xaddr.toNat then storeArea s p xaddr.toNat a ls else s)
    else ls.foldl (fun s j => pushStx s p t (xaddr.toNat + (if vec then j else 0)) (vreg s p j a)) s))

/-- The compute lanes of a delay port's lane group, within the mask (R113). -/
def groupLanes (m : Word) (lg : Fin 4) : List Nat :=
  (List.range 8).filterMap (fun i => if wbit m (8 * lg.val + i) then some (8 * lg.val + i) else none)

/-- The sample that `LDD` returns from address and byte (R113, R114). -/
def delaySample (s : State) (p t : Nat) (pk : Bool) (x : Nat × Nat) : Word :=
  let w := readDelay s p t x.1
  if pk then
    let n := readDelay s p t ((x.1 + 1) % 2 ^ 22)
    let v : Nat := (w.toNat + n.toNat * 2 ^ 32) / 2 ^ (8 * x.2) % 2 ^ 24
    fracF (if 2 ^ 23 ≤ v then (v : Int) - 2 ^ 24 else v)
  else w

def execLdd (h : Issue) (d tr : Fin 16) (lg : Fin 4) (pk : Bool) (rs : BitVec 5) (rb : BitVec 22) (s : State) :
    Host.Outcome State Fault Refusal :=
  .next (issue (.ldd h d tr lg pk rs rb) h s (fun s t m => eachLane s h.p.val m (fun s j l =>
    let p := h.p.val
    if l / 8 = lg.val then
      let addr := fun (j : Nat) => delayAddr pk rs rb (l % 8) (delayPos s p rs (vreg s p j tr))
      setV (note s p (.rd j 3 (4 * (addr j).1 + (addr j).2))) p t j d (delaySample s p t pk (addr l))
    else s)))

/-- The writes of one sample at address and byte (R113, R114). -/
def pushSample (s : State) (p t : Nat) (pk : Bool) (x : Nat × Nat) (w : Word) : State :=
  if pk then
    let v : Nat := (toFrac24 w % (2 ^ 24 : Int)).toNat * 2 ^ (8 * x.2)
    let be := 7 * 2 ^ x.2
    let s := pushDelay s ⟨t, p, x.1, BitVec.ofNat 4 be, BitVec.ofNat 32 v⟩
    if 2 ≤ x.2 then pushDelay s ⟨t, p, (x.1 + 1) % 2 ^ 22, BitVec.ofNat 4 (be / 16), BitVec.ofNat 32 (v / 2 ^ 32)⟩ else s
  else pushDelay s ⟨t, p, x.1, 15, w⟩

def execStd (h : Issue) (a tr : Fin 16) (lg : Fin 4) (pk : Bool) (rs : BitVec 5) (rb : BitVec 22) (s : State) :
    Host.Outcome State Fault Refusal :=
  .next (issue (.std h a tr lg pk rs rb) h s (fun s t m =>
    let p := h.p.val
    let ls := groupLanes m lg
    let addr := fun (j l : Nat) => delayAddr pk rs rb (l % 8) (delayPos s p rs (vreg s p j tr))
    let s := noteStore s p 7 ls (fun j l => 4 * (addr j l).1 + (addr j l).2) (fun j => vreg s p j a)
    if inWindow s p || pressTested s p then s
    else ls.foldl (fun s l => pushSample s p t pk (addr l l) (vreg s p l a)) s))

def execStm (h : Issue) (a : Fin 16) (vec : Bool) (lane : Fin 32) (srch : Bool) (maddr : BitVec 14) (s : State) :
    Host.Outcome State Fault Refusal :=
  .next (issue (.stm h a vec lane srch maddr) h s (fun s t m => if inWindow s h.p.val || pressTested s h.p.val then s else
    (storeLanes m vec lane).foldl (fun s j =>
    let p := h.p.val
    let i := if vec then j else 0
    if srch then
      let x := (Machine.lane s p j).srchVis
      pushMeter (pushMeter s p t (maddr.toNat + 2 * i) x.value) p t (maddr.toNat + 2 * i + 1) (x.index.setWidth 32)
    else pushMeter s p t (maddr.toNat + i) (vreg s p j a)) s))

end Sys2Proof.Machine
end

