-- ==== Sys2Proof/Machine/Receive.lean ====
section
/-! DEFINITION. Frames that arrive as bytes (R235 to R239): each passes `rxGate`, is classified, and is delivered: media packets to the
flows, PTP messages to their instance, pair-link frames to the pair logic, Omzor messages to the node or its witness service, and the rest
of control to the CP, which answers ARP, ICMP echo and IGMP queries. -/

namespace Sys2Proof.Machine

/-! ### The CP's answers (R239, R282; log entry 53) -/

/-- An ARP packet that is delivered: a request for the port's own address is answered, and what it says of a sender that is the next hop of
a unicast destination is kept (R278, R282). -/
def takeArp (s : State) (p : Nat) (b : List Byte) : State :=
  let sha := beAt b 8 6
  let spa := beAt b 14 4
  let learn := fun (f : TxFlow) =>
    { f with leg := f.leg.zipIdx.map (fun x =>
        if hasLeg f.legs x.2 && x.2 == ethRole s p && !ipMulticast x.1.dst && nextHop s p x.1.dst == spa then
          { x.1 with mac := BitVec.ofNat 48 sha } else x.1) }
  let s := { s with net := { s.net with tx := s.net.tx.map learn } }
  if beAt b 6 2 = 1 ∧ beAt b 24 4 = ethIp s p then ethSendCtl s p 3 sha 0x0806 (arpPacket 2 (ethMac s p) (ethIp s p) sha spa)
  else s

/-- An ICMP echo request to the port's own address is answered: `src` is the sender's MAC address. -/
def takeIcmp (s : State) (p src : Nat) (b : List Byte) : State :=
  let m := ipBody b
  if leAt m 0 1 = 8 ∧ beAt b 16 4 = ethIp s p then
    let r := putBytes (putBytes m 0 [0]) 2 (be 2 0)
    let w := (Config.freeWord s.free).toNat
    ethSendCtl (nextFree s) p 3 src 0x0800
      (ctlIp (ethIp s p) (beAt b 12 4) (w % 64) (w / 64 % 256) 1 (putBytes r 2 (be 2 (inetSum (sum16 r)))))
  else s

/-- An IGMP query is answered with a report for each group it asks for that a receive flow of the port's leg uses (R282, R283). -/
def takeIgmp (s : State) (p : Nat) (b : List Byte) : State :=
  let m := ipBody b
  let group := beAt m 4 4
  if leAt m 0 1 = 0x11 then
    (flowsOn s p).foldl (fun s l =>
      if ipMulticast l.dst && (group == 0 || group == l.dst) then igmpReport s p l.dst l.src true else s) s
  else s

/-- A control frame goes to the CP where the policer admits it. -/
def toCp (s : State) (p : Nat) (f : State → State) : State :=
  let r := controlFrame s p
  if r.2 then f r.1 else r.1

/-! ### PTP messages (R49, R237; log entry 23) -/

/-- A PTP message as IEEE 1588 lays it out, 34 bytes of header first. Which grandmaster is best, and what the servo reaches, are open. -/
def ptpMsgOf (s : State) (m : List Byte) : Option PtpMsg :=
  let w := Config.freeWord s.free
  let v := Config.freeWord (s.free + 1)
  match leAt m 0 1 % 16 with
  | 0x0 => some (.sync w v)
  | 0x1 => some .delayReq
  | 0x8 => some (.followUp w v)
  | 0x9 => some .delayResp
  | 0xB => some (.announce (BitVec.ofNat 64 (beAt m 53 8)) (BitVec.ofNat 8 (leAt m 48 1)) (w.getLsbD 0))
  | 0xD =>
    if leAt m 46 1 % 16 = 1 then some .managementSet
    else if leAt m 46 1 % 16 = 0 ∧ 0x2000 ≤ beAt m 52 2 ∧ beAt m 52 2 ≤ 0x2003 then
      some (.managementGet (Fin.ofNat 4 (beAt m 52 2 - 0x2000)))
    else none
  | _ => none

/-- A PTP datagram is classified; its message goes to the port's instance. -/
def takePtp (s : State) (p port c : Nat) (m : List Byte) : State :=
  let i := ethRole s p
  let r := ptpArrives s p i (port == 319) c
  match ptpMsgOf r.1 m with
  | some msg => ptpDeliver (nextFrees r.1 2) i (leAt m 4 1) msg
  | none => r.1

/-! ### Pair-link frames (R357, R396) -/

/-- What R235 has already checked of a frame: nothing that a delivered frame needs. -/
def noHead : RxHead := ⟨0, 0, 0, none, false, false, false, false, false⟩

/-- A pair-link frame from its source and the bytes after its EtherType. -/
def pairFrameOf (src : Nat) (b : List Byte) : PairFrame :=
  let n := leAt b 2 2
  { head := noHead, src := BitVec.ofNat 48 src, version := BitVec.ofNat 8 (leAt b 1 1), pairId := BitVec.ofNat 32 (leAt b 4 4),
    seq := BitVec.ofNat 32 (leAt b 8 4), sctrLo := BitVec.ofNat 32 (leAt b 12 4), payload := (b.drop 16).take n,
    tag := (b.drop (16 + n)).take 8 }

/-- What a handshake message in one frame does. -/
def hsAct (code : Nat) (s : State) (l : Link) (p : List Byte) : State :=
  if code = 0x10 then takeHello s l p else if code = 0x11 then takeReply s l p else if code = 0x12 then takeFinish s l p else takeDone s l p

/-- A pair-link frame goes to the pair logic by its subtype, in ENG cycle `c`. -/
def takePairFrame (s : State) (k c : Nat) (x : PairFrame) : State :=
  match k with
  | 1 => pairDeliver s x 1 (fun s n => takeHeartbeat s x n (fracOf c))
  | 2 => pairDeliver s x 2 (takeSetFrame x)
  | 3 => pairDeliver s x 3 (takeDigests x)
  | 4 => pairDeliver s x 4 (takeStateDigest x)
  | 5 => pairDeliver s x 5 (takeRsChunk x)
  | _ => pairDeliver s x k (fun s _ => hsAct k s .pair x.payload)

/-! ### Omzor messages (R363, R364) -/

/-- An Omzor message from a datagram's bytes. -/
def omMsgOf (b : List Byte) : OmMsg :=
  let n := leAt b 2 2
  { head := noHead, version := BitVec.ofNat 8 (leAt b 1 1), session := BitVec.ofNat 32 (leAt b 4 4), seq := BitVec.ofNat 64 (leAt b 8 8),
    sctr := BitVec.ofNat 64 (leAt b 16 8), pairId := BitVec.ofNat 32 (leAt b 24 4), node := BitVec.ofNat 8 (leAt b 28 1),
    payload := (b.drop 32).take n, tag := (b.drop (32 + n)).take 8 }

/-- The supervised node that a message names by PAIR_ID and NODE (R363, R374). -/
def omNode (s : State) (m : OmMsg) : Option (Fin 64) :=
  if 1 < m.node.toNat then none
  else ((List.range (getF s F.WIT_SVC_CFG_PAIRS)).find? (fun k => witWord s k 0 == m.pairId)).map (fun k => Fin.ofNat 64 (2 * k + m.node.toNat))

/-- A message of the witness is delivered to this node. -/
def takeFromWitness (s : State) (type : Nat) (m : OmMsg) : State :=
  if 0x10 ≤ type then (if hsBad s m then omDrop s (m.tag != List.replicate 8 (0 : Byte)) else hsAct type s .witness m.payload)
  else omDeliver s type m (fun s => if type = 5 then takeCommand s m.payload else s)

/-- A message of node `j` is delivered to the witness service. -/
def takeFromNode (s : State) (j : Fin 64) (type : Nat) (m : OmMsg) : State :=
  if 0x10 ≤ type then (if hsBad s m then omDrop s (m.tag != List.replicate 8 (0 : Byte)) else hsAct type s (.node j) m.payload)
  else witDeliver s j.val type m (fun s => witAct s j.val type m.payload)

/-- An Omzor datagram arrives on the port that carries Omzor. -/
def takeOmzor (s : State) (p : Nat) (b : List Byte) : State :=
  let type := leAt b 0 1
  let m := omMsgOf b
  let r := if type = 5 then (s, true) else controlFrame s p
  if !r.2 ∨ type = 0 ∨ (6 < type ∧ type < 0x10) ∨ 0x13 < type then r.1
  else
    match (if m.node = 0xFF then none else omNode r.1 m) with
    | some j => takeFromNode r.1 j type m
    | none => takeFromWitness r.1 type m

/-! ### Classification (R237) -/

/-- Classify a UDP datagram in an IPv4 packet. -/
def classifyUdp (s : State) (p c : Nat) (b : List Byte) : State :=
  let u := ipBody b
  let port := beAt u 2 2
  let data := (u.take (beAt u 4 2)).drop 8
  match matchFlow s p (beAt b 16 4) port with
  | some f => mediaPacket (ethCount s p 17) f (ethRole s p) (beAt b 12 4) data
  | none =>
    if (port == 319 || port == 320) && carriesPtp s p then takePtp s p port c data
    else if omzorPort s == some p && (port == getF s F.WIT_PORT_PORT || (fnOn s 0x49 && port == getF s F.WIT_SVC_CFG_PORT)) then
      takeOmzor s p data
    else if ethRole s p ≤ 1 then ethCount s p 16
    else (controlFrame s p).1

/-- A frame that has passed steps 1 to 9, by its EtherType. -/
def classify (s : State) (p c src : Nat) (x : RxParts) : State :=
  if x.etype = 0x88B5 then takePairFrame s (leAt x.body 0 1) c (pairFrameOf src x.body)
  else if x.etype = 0x0806 then toCp s p (fun s => takeArp s p x.body)
  else
    match leAt x.body 9 1 with
    | 17 => classifyUdp s p c x.body
    | 1 => toCp s p (fun s => takeIcmp s p src x.body)
    | 2 => toCp s p (fun s => takeIgmp s p x.body)
    | _ => (controlFrame s p).1

/-- The receive path of a powered port (R235): a frame's bytes without its FCS, arrived in ENG cycle `c`. -/
def receive (s : State) (p c : Nat) (b : List Byte) (bad full : Bool) : State :=
  let x := rxParts b
  let r := rxGate s p ⟨b.length + 4, x.dst, x.etype, x.vid, x.tag, leAt x.body 0 1, bad, full, ipBad x.body, ipFragment x.body, l4Bad x.body⟩
  if !r.2 then r.1
  else if x.etype = 0x8808 then macControl r.1 p x.dst (beAt x.body 0 2) (beAt x.body 2 2) (etherTime s.sctr.toNat c)
  else classify r.1 p c (beAt b 6 6) x

/-- A frame arrives: in Dormant only the wake detector of `ETH3`, armed by WAKE_EN and by `PM_DORMANT`, sees it (R235, R250). -/
def execFrameReceive (p : Fin 4) (rx : RxFrame) (s : State) : Host.Outcome State Fault Refusal :=
  if nodeState s = nsDormant then
    (if p = 3 ∧ wakeArmed s 0 ∧ isF s (F.ETH_CFG_WAKE_EN 4) then .next (wakeFrame s rx.bytes rx.bad) else .next s)
  else if ethUp s p.val then .next (receive (pcsErrors s p.val rx) p.val rx.cycle.val rx.bytes rx.bad rx.fifoFull)
  else .next s

end Sys2Proof.Machine
end

