-- ==== Sys2Proof/Machine/Dispatch.lean ====
section
/-! DEFINITION. One arm for each command: the call of its meaning. -/

namespace Sys2Proof.Machine

open Sys2Proof

def exec (i : Instr) (s : State) : Host.Outcome State Fault Refusal :=
  match i with
  | .spBoundary hits => Sys2Proof.Machine.execSpBoundary hits s
  | .spHeartbeatTimeout => Sys2Proof.Machine.execSpHeartbeatTimeout s
  | .nop h => Sys2Proof.Machine.execNop h s
  | .vli h d imm => Sys2Proof.Machine.execVli h d imm s
  | .mov h d a => Sys2Proof.Machine.execMov h d a s
  | .laneid h d => Sys2Proof.Machine.execLaneid h d s
  | .pset h n base len ofs => Sys2Proof.Machine.execPset h n base len ofs s
  | .ppos h n value => Sys2Proof.Machine.execPpos h n value s
  | .cset h n cptr cofs => Sys2Proof.Machine.execCset h n cptr cofs s
  | .mset h pd imm => Sys2Proof.Machine.execMset h pd imm s
  | .mlog h pd pa pb op => Sys2Proof.Machine.execMlog h pd pa pb op s
  | .srinit h minimum => Sys2Proof.Machine.execSrinit h minimum s
  | .rds h d index => Sys2Proof.Machine.execRds h d index s
  | .rep h count => Sys2Proof.Machine.execRep h count s
  | .repEnd h => Sys2Proof.Machine.execRepEnd h s
  | .fadd h d a b => Sys2Proof.Machine.execFadd h d a b s
  | .fsub h d a b => Sys2Proof.Machine.execFsub h d a b s
  | .fmul h d a b => Sys2Proof.Machine.execFmul h d a b s
  | .fma h d a b c => Sys2Proof.Machine.execFma h d a b c s
  | .fabs h d a => Sys2Proof.Machine.execFabs h d a s
  | .fneg h d a => Sys2Proof.Machine.execFneg h d a s
  | .fmin h d a b => Sys2Proof.Machine.execFmin h d a b s
  | .fmax h d a b => Sys2Proof.Machine.execFmax h d a b s
  | .fcmp h pd a b rel => Sys2Proof.Machine.execFcmp h pd a b rel s
  | .fsel h d a b pd => Sys2Proof.Machine.execFsel h d a b pd s
  | .log2a h d a => Sys2Proof.Machine.execLog2a h d a s
  | .exp2a h d a => Sys2Proof.Machine.execExp2a h d a s
  | .rcpa h d a => Sys2Proof.Machine.execRcpa h d a s
  | .rsqa h d a => Sys2Proof.Machine.execRsqa h d a s
  | .mac h la x c => Sys2Proof.Machine.execMac h la x c s
  | .xmac h la x m disp cpm => Sys2Proof.Machine.execXmac h la x m disp cpm s
  | .aadd h la x => Sys2Proof.Machine.execAadd h la x s
  | .aclr h la => Sys2Proof.Machine.execAclr h la s
  | .ard h d la => Sys2Proof.Machine.execArd h d la s
  | .ains h la seg a b => Sys2Proof.Machine.execAins h la seg a b s
  | .minx h x imm istep lstep => Sys2Proof.Machine.execMinx h x imm istep lstep s
  | .maxx h x imm istep lstep => Sys2Proof.Machine.execMaxx h x imm istep lstep s
  | .xred h minimum => Sys2Proof.Machine.execXred h minimum s
  | .ld h d n disp pm => Sys2Proof.Machine.execLd h d n disp pm s
  | .st h a n disp pm => Sys2Proof.Machine.execSt h a n disp pm s
  | .ldc h d m disp cpm => Sys2Proof.Machine.execLdc h d m disp cpm s
  | .ldx h d a => Sys2Proof.Machine.execLdx h d a s
  | .stx h a vec lane xaddr => Sys2Proof.Machine.execStx h a vec lane xaddr s
  | .ldd h d t lg pk rs rb => Sys2Proof.Machine.execLdd h d t lg pk rs rb s
  | .std h a t lg pk rs rb => Sys2Proof.Machine.execStd h a t lg pk rs rb s
  | .stm h a vec lane srch maddr => Sys2Proof.Machine.execStm h a vec lane srch maddr s
  | .norm h d la seg => Sys2Proof.Machine.execNorm h d la seg s
  | .expx h d a => Sys2Proof.Machine.execExpx h d a s
  | .pressFaultClear c => Sys2Proof.Machine.execPressFaultClear c s
  | .xoFault kind => Sys2Proof.Machine.execXoFault kind s
  | .refSignalPresent slot => Sys2Proof.Machine.execRefSignalPresent slot s
  | .refLos slot ph => Sys2Proof.Machine.execRefLos slot ph s
  | .refWindowEnd ofs steer perr ph => Sys2Proof.Machine.execRefWindowEnd ofs steer perr ph s
  | .waitToRestoreExpiry slot ph => Sys2Proof.Machine.execWaitToRestoreExpiry slot ph s
  | .dpllStageAdvance perr ph => Sys2Proof.Machine.execDpllStageAdvance perr ph s
  | .dpllStageFallback perr => Sys2Proof.Machine.execDpllStageFallback perr s
  | .phaseStep c => Sys2Proof.Machine.execPhaseStep c s
  | .phaseStepDone ph => Sys2Proof.Machine.execPhaseStepDone ph s
  | .realign c => Sys2Proof.Machine.execRealign c s
  | .timeSet c pps => Sys2Proof.Machine.execTimeSet c pps s
  | .ptpDatasetGet c => Sys2Proof.Machine.execPtpDatasetGet c s
  | .ptpMessageReceive inst h cycle domain msg => Sys2Proof.Machine.execPtpMessageReceive inst h cycle domain msg s
  | .ptpMessageSend inst what => Sys2Proof.Machine.execPtpMessageSend inst what s
  | .frameReceive p rx => Sys2Proof.Machine.execFrameReceive p rx s
  | .pauseFrame p time len own bad cycle => Sys2Proof.Machine.execPauseFrame p time len own bad cycle s
  | .pauseEnd p => Sys2Proof.Machine.execPauseEnd p s
  | .ethLinkDown p reason remote restart => Sys2Proof.Machine.execEthLinkDown p reason remote restart s
  | .ethLinkUp p => Sys2Proof.Machine.execEthLinkUp p s
  | .txFrameStart p run cycle => Sys2Proof.Machine.execTxFrameStart p run cycle s
  | .mediaLateDrop p => Sys2Proof.Machine.execMediaLateDrop p s
  | .ethWakePattern c => Sys2Proof.Machine.execEthWakePattern c s
  | .ethLinkRestart c => Sys2Proof.Machine.execEthLinkRestart c s
  | .mediaPacketReceive f leg src rtp => Sys2Proof.Machine.execMediaPacketReceive f leg src rtp s
  | .rxfAdd c => Sys2Proof.Machine.execRxfAdd c s
  | .rxfRemove c => Sys2Proof.Machine.execRxfRemove c s
  | .txfAdd c macP macS => Sys2Proof.Machine.execTxfAdd c macP macS s
  | .txfRemove c => Sys2Proof.Machine.execTxfRemove c s
  | .flowRemoved tx f => Sys2Proof.Machine.execFlowRemoved tx f s
  | .rxfStats c => Sys2Proof.Machine.execRxfStats c s
  | .flowList c => Sys2Proof.Machine.execFlowList c s
  | .holdLimitExpiry f => Sys2Proof.Machine.execHoldLimitExpiry f s
  | .fadeComplete f => Sys2Proof.Machine.execFadeComplete f s
  | .fadeInComplete f => Sys2Proof.Machine.execFadeInComplete f s
  | .legTimeout f leg => Sys2Proof.Machine.execLegTimeout f leg s
  | .lossWindowEnd => Sys2Proof.Machine.execLossWindowEnd s
  | .txPacketForm f => Sys2Proof.Machine.execTxPacketForm f s
  | .txfHeldDrop f leg => Sys2Proof.Machine.execTxfHeldDrop f leg s
  | .convLocked t => Sys2Proof.Machine.execConvLocked t s
  | .convUnlocked t reason => Sys2Proof.Machine.execConvUnlocked t reason s
  | .convRatioUpdate t back => Sys2Proof.Machine.execConvRatioUpdate t back s
  | .drypointFrame g => Sys2Proof.Machine.execDrypointFrame g s
  | .drypointGain c => Sys2Proof.Machine.execDrypointGain c s
  | .meterWindowEnd buf => Sys2Proof.Machine.execMeterWindowEnd buf s
  | .tapCaptureBlock buf => Sys2Proof.Machine.execTapCaptureBlock buf s
  | .tapPlaybackFetch bufs => Sys2Proof.Machine.execTapPlaybackFetch bufs s
  | .sapStart n => Sys2Proof.Machine.execSapStart n s
  | .sapFirstDataFrame n wire cycle upset => Sys2Proof.Machine.execSapFirstDataFrame n wire cycle upset s
  | .sapFollowerStart n hz cycle => Sys2Proof.Machine.execSapFollowerStart n hz cycle s
  | .sapFrame n wire cycle upset late => Sys2Proof.Machine.execSapFrame n wire cycle upset late s
  | .slipDecision n => Sys2Proof.Machine.execSlipDecision n s
  | .sapStopped n clockLost => Sys2Proof.Machine.execSapStopped n clockLost s
  | .sapClockFault n cond => Sys2Proof.Machine.execSapClockFault n cond s
  | .sapMaskWrite n tx w => Sys2Proof.Machine.execSapMaskWrite n tx w s
  | .slotmaskUpdate c => Sys2Proof.Machine.execSlotmaskUpdate c s
  | .sapRestart c => Sys2Proof.Machine.execSapRestart c s
  | .pwmPeriod n k x => Sys2Proof.Machine.execPwmPeriod n k x s
  | .overCurrent n => Sys2Proof.Machine.execOverCurrent n s
  | .pscShutdown n => Sys2Proof.Machine.execPscShutdown n s
  | .pscRetry n => Sys2Proof.Machine.execPscRetry n s
  | .diagTestStart => Sys2Proof.Machine.execDiagTestStart s
  | .diagTestEnd obs => Sys2Proof.Machine.execDiagTestEnd obs s
  | .pscPvddFault m volts => Sys2Proof.Machine.execPscPvddFault m volts s
  | .pscPvddOk m volts => Sys2Proof.Machine.execPscPvddOk m volts s
  | .pscFadeInDone n => Sys2Proof.Machine.execPscFadeInDone n s
  | .pscStopDone n => Sys2Proof.Machine.execPscStopDone n s
  | .pscDiag c => Sys2Proof.Machine.execPscDiag c s
  | .pscCal c => Sys2Proof.Machine.execPscCal c s
  | .pscCalDone n r => Sys2Proof.Machine.execPscCalDone n r s
  | .pscClear c => Sys2Proof.Machine.execPscClear c s
  | .plateLoad c => Sys2Proof.Machine.execPlateLoad c s
  | .plateLoaded data => Sys2Proof.Machine.execPlateLoaded data s
  | .plateLoadFailed data readErr => Sys2Proof.Machine.execPlateLoadFailed data readErr s
  | .plateArm c => Sys2Proof.Machine.execPlateArm c s
  | .plateArmed => Sys2Proof.Machine.execPlateArmed s
  | .plateDisarm c => Sys2Proof.Machine.execPlateDisarm c s
  | .plateInfo c => Sys2Proof.Machine.execPlateInfo c s
  | .engineStarted => Sys2Proof.Machine.execEngineStarted s
  | .engineStopped => Sys2Proof.Machine.execEngineStopped s
  | .swap c => Sys2Proof.Machine.execSwap c s
  | .swapCancel c => Sys2Proof.Machine.execSwapCancel c s
  | .swapBegin => Sys2Proof.Machine.execSwapBegin s
  | .swapDone => Sys2Proof.Machine.execSwapDone s
  | .rampStart c => Sys2Proof.Machine.execRampStart c s
  | .rampInstall => Sys2Proof.Machine.execRampInstall s
  | .rampDone entry => Sys2Proof.Machine.execRampDone entry s
  | .rampCancel c => Sys2Proof.Machine.execRampCancel c s
  | .rampCancelApply => Sys2Proof.Machine.execRampCancelApply s
  | .paramSetAtomic c => Sys2Proof.Machine.execParamSetAtomic c s
  | .atomicSetApply => Sys2Proof.Machine.execAtomicSetApply s
  | .rawWindowWrite bank p a w cycle => Sys2Proof.Machine.execRawWindowWrite bank p a w cycle s
  | .edgeWindowWrite e w cycle => Sys2Proof.Machine.execEdgeWindowWrite e w cycle s
  | .directWriteApply => Sys2Proof.Machine.execDirectWriteApply s
  | .pairRoleSet c => Sys2Proof.Machine.execPairRoleSet c s
  | .pairYield c => Sys2Proof.Machine.execPairYield c s
  | .selfFaultYield => Sys2Proof.Machine.execSelfFaultYield s
  | .yieldPulse => Sys2Proof.Machine.execYieldPulse s
  | .roleInChange high => Sys2Proof.Machine.execRoleInChange high s
  | .pairHeartbeatSend cycle => Sys2Proof.Machine.execPairHeartbeatSend cycle s
  | .pairHeartbeatReceive f cycle => Sys2Proof.Machine.execPairHeartbeatReceive f cycle s
  | .heartbeatMissed => Sys2Proof.Machine.execHeartbeatMissed s
  | .pairedQuantitySetReceive f => Sys2Proof.Machine.execPairedQuantitySetReceive f s
  | .pairedQuantityApply => Sys2Proof.Machine.execPairedQuantityApply s
  | .digestPeriodEnd g => Sys2Proof.Machine.execDigestPeriodEnd g s
  | .digestReceive f => Sys2Proof.Machine.execDigestReceive f s
  | .digestMissing g => Sys2Proof.Machine.execDigestMissing g s
  | .promoteWindowEnd => Sys2Proof.Machine.execPromoteWindowEnd s
  | .pairUnratified => Sys2Proof.Machine.execPairUnratified s
  | .omzorHeartbeatSend node => Sys2Proof.Machine.execOmzorHeartbeatSend node s
  | .omzorHeartbeatReceive from_ m => Sys2Proof.Machine.execOmzorHeartbeatReceive from_ m s
  | .healthSend => Sys2Proof.Machine.execHealthSend s
  | .healthReceive j m => Sys2Proof.Machine.execHealthReceive j m s
  | .yieldNotice j m => Sys2Proof.Machine.execYieldNotice j m s
  | .digestReport j m => Sys2Proof.Machine.execDigestReport j m s
  | .peerLoss j m => Sys2Proof.Machine.execPeerLoss j m s
  | .roleCommand m => Sys2Proof.Machine.execRoleCommand m s
  | .roleCommandExecute => Sys2Proof.Machine.execRoleCommandExecute s
  | .peerLossSourceSend => Sys2Proof.Machine.execPeerLossSourceSend s
  | .pairWitnessLost => Sys2Proof.Machine.execPairWitnessLost s
  | .witHealthTimeout j => Sys2Proof.Machine.execWitHealthTimeout j s
  | .witBothStandby k => Sys2Proof.Machine.execWitBothStandby k s
  | .witRestrikeCountClear k => Sys2Proof.Machine.execWitRestrikeCountClear k s
  | .witSourceWindowEnd => Sys2Proof.Machine.execWitSourceWindowEnd s
  | .witCommand c => Sys2Proof.Machine.execWitCommand c s
  | .witPairStatus c => Sys2Proof.Machine.execWitPairStatus c s
  | .witAlarmClear c => Sys2Proof.Machine.execWitAlarmClear c s
  | .restrikeStart c => Sys2Proof.Machine.execRestrikeStart c s
  | .restrikeAbort c => Sys2Proof.Machine.execRestrikeAbort c s
  | .restrikeStartReceive f => Sys2Proof.Machine.execRestrikeStartReceive f s
  | .restrikeAccept f => Sys2Proof.Machine.execRestrikeAccept f s
  | .restrikeRefuse f => Sys2Proof.Machine.execRestrikeRefuse f s
  | .restrikeAbortReceive f => Sys2Proof.Machine.execRestrikeAbortReceive f s
  | .restrikeRequestTimeout => Sys2Proof.Machine.execRestrikeRequestTimeout s
  | .restrikeChunkTimeout => Sys2Proof.Machine.execRestrikeChunkTimeout s
  | .coefficientChunkCopy => Sys2Proof.Machine.execCoefficientChunkCopy s
  | .coefficientChunkReceive f => Sys2Proof.Machine.execCoefficientChunkReceive f s
  | .coefficientChunkApply => Sys2Proof.Machine.execCoefficientChunkApply s
  | .rampSnapshot => Sys2Proof.Machine.execRampSnapshot s
  | .rampPartReceive f => Sys2Proof.Machine.execRampPartReceive f s
  | .rampSetApply => Sys2Proof.Machine.execRampSetApply s
  | .copyPoint => Sys2Proof.Machine.execCopyPoint s
  | .unitPartReceive f => Sys2Proof.Machine.execUnitPartReceive f s
  | .unitReplay => Sys2Proof.Machine.execUnitReplay s
  | .unitAck f => Sys2Proof.Machine.execUnitAck f s
  | .unitNack f => Sys2Proof.Machine.execUnitNack f s
  | .restrikeDone => Sys2Proof.Machine.execRestrikeDone s
  | .stateDigestWindowEnd => Sys2Proof.Machine.execStateDigestWindowEnd s
  | .stateDigestReceive f => Sys2Proof.Machine.execStateDigestReceive f s
  | .bistPassEnd p wrong => Sys2Proof.Machine.execBistPassEnd p wrong s
  | .senseCheckStart => Sys2Proof.Machine.execSenseCheckStart s
  | .senseCheckEnd => Sys2Proof.Machine.execSenseCheckEnd s
  | .pressSelftest c => Sys2Proof.Machine.execPressSelftest c s
  | .pressSelftestDone fails => Sys2Proof.Machine.execPressSelftestDone fails s
  | .mbDoorbell c ring => Sys2Proof.Machine.execMbDoorbell c ring s
  | .mbRequestWrite c off data => Sys2Proof.Machine.execMbRequestWrite c off data s
  | .sysInfo c => Sys2Proof.Machine.execSysInfo c s
  | .fnCfgWrite c => Sys2Proof.Machine.execFnCfgWrite c s
  | .fnCfgRead c => Sys2Proof.Machine.execFnCfgRead c s
  | .fnCfgDefault c => Sys2Proof.Machine.execFnCfgDefault c s
  | .fnQuery c => Sys2Proof.Machine.execFnQuery c s
  | .cpRestart c => Sys2Proof.Machine.execCpRestart c s
  | .mbEcho c => Sys2Proof.Machine.execMbEcho c s
  | .fnEnable f => Sys2Proof.Machine.execFnEnable f s
  | .fnEnabled f ext => Sys2Proof.Machine.execFnEnabled f ext s
  | .fnDisable f => Sys2Proof.Machine.execFnDisable f s
  | .fnStopped f => Sys2Proof.Machine.execFnStopped f s
  | .cpWatchdog => Sys2Proof.Machine.execCpWatchdog s
  | .cpRestarted => Sys2Proof.Machine.execCpRestarted s
  | .endpointReset cause => Sys2Proof.Machine.execEndpointReset cause s
  | .hlLinkUp speed width bme msix pme mps mrrs => Sys2Proof.Machine.execHlLinkUp speed width bme msix pme mps mrrs s
  | .dmaError r err d => Sys2Proof.Machine.execDmaError r err d s
  | .spiWrite cmd space off data cycles => Sys2Proof.Machine.execSpiWrite cmd space off data cycles s
  | .spiRead space off bytes late cycle => Sys2Proof.Machine.execSpiRead space off bytes late cycle s
  | .spiStatus => Sys2Proof.Machine.execSpiStatus s
  | .spiIdentity => Sys2Proof.Machine.execSpiIdentity s
  | .semaphoreRead a k => Sys2Proof.Machine.execSemaphoreRead a k s
  | .semaphoreWrite a k => Sys2Proof.Machine.execSemaphoreWrite a k s
  | .irqEnableWrite w => Sys2Proof.Machine.execIrqEnableWrite w s
  | .ringEnable r => Sys2Proof.Machine.execRingEnable r s
  | .ringHeadWrite r head => Sys2Proof.Machine.execRingHeadWrite r head s
  | .hlLinkInfo c => Sys2Proof.Machine.execHlLinkInfo c s
  | .stagingCrc c => Sys2Proof.Machine.execStagingCrc c s
  | .registerWrite a sp off be w cycle => Sys2Proof.Machine.execRegisterWrite a sp off be w cycle s
  | .readClearCounter a sp off cycle => Sys2Proof.Machine.execReadClearCounter a sp off cycle s
  | .sctrLoRead cycle => Sys2Proof.Machine.execSctrLoRead cycle s
  | .sapStampLoRead n => Sys2Proof.Machine.execSapStampLoRead n s
  | .logSlotRead bank slot dw n unc => Sys2Proof.Machine.execLogSlotRead bank slot dw n unc s
  | .logRecordWrite unc => Sys2Proof.Machine.execLogRecordWrite unc s
  | .logScrub corrected unc => Sys2Proof.Machine.execLogScrub corrected unc s
  | .logRepair c => Sys2Proof.Machine.execLogRepair c s
  | .logRepaired failed => Sys2Proof.Machine.execLogRepaired failed s
  | .logClear c => Sys2Proof.Machine.execLogClear c s
  | .logGaspClear c => Sys2Proof.Machine.execLogGaspClear c s
  | .twXfer c => Sys2Proof.Machine.execTwXfer c s
  | .busClear c freed => Sys2Proof.Machine.execBusClear c freed s
  | .twTransferStart k => Sys2Proof.Machine.execTwTransferStart k s
  | .twTransferEnd k e => Sys2Proof.Machine.execTwTransferEnd k e s
  | .sclLowTimeout k acked freed => Sys2Proof.Machine.execSclLowTimeout k acked freed s
  | .sdaLowTimeout k freed => Sys2Proof.Machine.execSdaLowTimeout k freed s
  | .twBusFree k freed => Sys2Proof.Machine.execTwBusFree k freed s
  | .alertResponseRead k fresh answer => Sys2Proof.Machine.execAlertResponseRead k fresh answer s
  | .inBandRequest k bits freed => Sys2Proof.Machine.execInBandRequest k bits freed s
  | .twtWrite data => Sys2Proof.Machine.execTwtWrite data s
  | .twtRead n => Sys2Proof.Machine.execTwtRead n s
  | .twtAlertResponse whole => Sys2Proof.Machine.execTwtAlertResponse whole s
  | .twtTimeout => Sys2Proof.Machine.execTwtTimeout s
  | .powerOnReset => Sys2Proof.Machine.execPowerOnReset s
  | .resetN st => Sys2Proof.Machine.execResetN st s
  | .nodeReset c st => Sys2Proof.Machine.execNodeReset c st s
  | .seqPgRise g => Sys2Proof.Machine.execSeqPgRise g s
  | .seqPgTimeout g => Sys2Proof.Machine.execSeqPgTimeout g s
  | .railFault what => Sys2Proof.Machine.execRailFault what s
  | .railWindow k mv => Sys2Proof.Machine.execRailWindow k mv s
  | .railWindowClear k mv => Sys2Proof.Machine.execRailWindowClear k mv s
  | .tempReading r => Sys2Proof.Machine.execTempReading r s
  | .avsStep mv => Sys2Proof.Machine.execAvsStep mv s
  | .pmBootDone a b ms cal => Sys2Proof.Machine.execPmBootDone a b ms cal s
  | .bootGo => Sys2Proof.Machine.execBootGo s
  | .pmDormant c => Sys2Proof.Machine.execPmDormant c s
  | .pmReadings c mv => Sys2Proof.Machine.execPmReadings c mv s
  | .wakeGpio j level => Sys2Proof.Machine.execWakeGpio j level s
  | .wakeTimer sec => Sys2Proof.Machine.execWakeTimer sec s
  | .perstNRise => Sys2Proof.Machine.execPerstNRise s
  | .fwStage c => Sys2Proof.Machine.execFwStage c s
  | .fwStaged data readErr => Sys2Proof.Machine.execFwStaged data readErr s
  | .fwVerify c => Sys2Proof.Machine.execFwVerify c s
  | .fwVerified => Sys2Proof.Machine.execFwVerified s
  | .fwActivate c => Sys2Proof.Machine.execFwActivate c s
  | .fwDiscard c => Sys2Proof.Machine.execFwDiscard c s
  | .fwCommit c => Sys2Proof.Machine.execFwCommit c s
  | .commitAutoExpiry => Sys2Proof.Machine.execCommitAutoExpiry s
  | .attest c => Sys2Proof.Machine.execAttest c s
  | .certRead c => Sys2Proof.Machine.execCertRead c s
  | .debugChallenge c => Sys2Proof.Machine.execDebugChallenge c s
  | .debugUnlock c => Sys2Proof.Machine.execDebugUnlock c s
  | .debugLock c => Sys2Proof.Machine.execDebugLock c s
  | .otpKeyProgram c => Sys2Proof.Machine.execOtpKeyProgram c s
  | .otpKeyRevoke c => Sys2Proof.Machine.execOtpKeyRevoke c s
  | .otpVendorOff c => Sys2Proof.Machine.execOtpVendorOff c s
  | .sessionHello l m => Sys2Proof.Machine.execSessionHello l m s
  | .sessionReply l m => Sys2Proof.Machine.execSessionReply l m s
  | .sessionFinish l m => Sys2Proof.Machine.execSessionFinish l m s
  | .sessionDone l m => Sys2Proof.Machine.execSessionDone l m s
  | .sessionFail l => Sys2Proof.Machine.execSessionFail l s
  | .sessionRekey => Sys2Proof.Machine.execSessionRekey s
  | .permanentRailsValid st => Sys2Proof.Machine.execPermanentRailsValid st s
  | .debugMasterReset st => Sys2Proof.Machine.execDebugMasterReset st s
  | .bootFailure a b => Sys2Proof.Machine.execBootFailure a b s
  | .twBusBusy k => Sys2Proof.Machine.execTwBusBusy k s
  | .evtHoldoffExpiry => Sys2Proof.Machine.execEvtHoldoffExpiry s
  | .eventRingRecopy seq => Sys2Proof.Machine.execEventRingRecopy seq s

end Sys2Proof.Machine
end

