-- ==== Sys2Proof/WellFormed.lean ====
section
/-! DEFINITION. Which command terms stand for something that can happen: the rules of R98 for a press instruction, the operand
values that a row leaves out, and the lengths of operands that are lists. Operand types say the rest. `exec` is total: it does
not rest on these checks. -/

namespace Sys2Proof

/-- RS of a delay instruction: rings of 2^4 to 2^17 samples (R98, R113). -/
def ringSize (rs : BitVec 5) : Bool := decide (4 ≤ rs.toNat) && decide (rs.toNat ≤ 17)

/-- XADDR lies in the partition of press `p` (R98). -/
def ownPartition (p : Nat) (x : BitVec 14) : Bool :=
  decide (0x2000 + 0x800 * p ≤ x.toNat) && decide (x.toNat < 0x2800 + 0x800 * p)

/-- The issue of a press instruction, of any kind. -/
def issueOf : Instr → Option Issue
  | .nop h => some h
  | .vli h _ _ => some h
  | .mov h _ _ => some h
  | .laneid h _ => some h
  | .pset h _ _ _ _ => some h
  | .ppos h _ _ => some h
  | .cset h _ _ _ => some h
  | .mset h _ _ => some h
  | .mlog h _ _ _ _ => some h
  | .srinit h _ => some h
  | .rds h _ _ => some h
  | .rep h _ => some h
  | .repEnd h => some h
  | .fadd h _ _ _ => some h
  | .fsub h _ _ _ => some h
  | .fmul h _ _ _ => some h
  | .fma h _ _ _ _ => some h
  | .fabs h _ _ => some h
  | .fneg h _ _ => some h
  | .fmin h _ _ _ => some h
  | .fmax h _ _ _ => some h
  | .fcmp h _ _ _ _ => some h
  | .fsel h _ _ _ _ => some h
  | .log2a h _ _ => some h
  | .exp2a h _ _ => some h
  | .rcpa h _ _ => some h
  | .rsqa h _ _ => some h
  | .mac h _ _ _ => some h
  | .xmac h _ _ _ _ _ => some h
  | .aadd h _ _ => some h
  | .aclr h _ => some h
  | .ard h _ _ => some h
  | .ains h _ _ _ _ => some h
  | .minx h _ _ _ _ => some h
  | .maxx h _ _ _ _ => some h
  | .xred h _ => some h
  | .ld h _ _ _ _ => some h
  | .st h _ _ _ _ => some h
  | .ldc h _ _ _ _ => some h
  | .ldx h _ _ => some h
  | .stx h _ _ _ _ => some h
  | .ldd h _ _ _ _ _ _ => some h
  | .std h _ _ _ _ _ _ => some h
  | .stm h _ _ _ _ _ => some h
  | .norm h _ _ _ => some h
  | .expx h _ _ => some h
  | _ => none

/-- An address of memory 0 state, 1 coefficient or 2 program exists, as `ECC_UNC_INFO` counts it (R91). -/
def memoryAddr (mem : Fin 3) (lane : Fin 32) (addr : BitVec 16) : Bool :=
  match mem with
  | 0 => decide (addr.toNat < 32768)
  | 1 => decide (addr.toNat < 4096)
  | 2 => decide (addr.toNat < 49152) && lane == 0

/-- An upset strikes something that exists. -/
def Upset.wf (u : Upset) : Bool :=
  match u with
  | .memory m l a _ => memoryAddr m l a
  | .vreg .. | .pointer .. | .cpointer .. | .acc .. | .srch .. | .result .. => true

/-- Every frame of a received message carries a TAG of 8 bytes (R357, R363). -/
def HsFrames.wf (f : HsFrames) : Bool :=
  match f with
  | .pair l => l.all (fun x => x.tag.length == 8)
  | .omzor l => l.all (fun m => m.tag.length == 8)

/-- A handshake message that is received has well-formed frames. -/
def Hs.wf (m : Hs) : Bool :=
  match m with
  | .send => true
  | .receive f => f.wf

/-- The same for FINISH. -/
def HsFinish.wf (m : HsFinish) : Bool :=
  match m with
  | .send .. => true
  | .receive f => f.wf

/-- The check of the operands of one command. -/
def Instr.shape (i : Instr) : Bool :=
  match i with
  | .spBoundary hits => hits.all (fun h => memoryAddr h.mem h.lane h.addr)
  | .spHeartbeatTimeout => true
  | .nop h => !h.pe
  | .vli .. | .mov .. | .laneid .. => true
  | .pset _ _ _ len _ => decide (1 ≤ len.toNat) && decide (len.toNat ≤ 32768)
  | .ppos .. | .cset .. => true
  | .mset h _ _ => !h.pe
  | .mlog h _ _ _ _ => !h.pe
  | .srinit .. | .rds .. => true
  | .rep h count => !h.pe && count != 0
  | .repEnd h => !h.pe
  | .fadd .. | .fsub .. | .fmul .. | .fma .. | .fabs .. | .fneg .. | .fmin .. | .fmax .. | .fcmp .. | .fsel .. | .log2a ..
  | .exp2a .. | .rcpa .. | .rsqa .. | .mac .. | .xmac .. | .aadd .. | .aclr .. | .ard .. | .ains .. | .minx .. | .maxx ..
  | .xred .. | .ld .. | .st .. | .ldc .. | .ldx .. => true
  | .stx h _ vec _ x => ownPartition h.p.val x && (!vec || x.toNat % 32 == 0)
  | .ldd _ _ _ _ _ rs _ => ringSize rs
  | .std _ _ _ _ _ rs _ => ringSize rs
  | .stm _ _ vec _ srch m => (!srch || m.toNat % 2 == 0) && (!vec || m.toNat % 32 == 0)
  | .norm .. | .expx .. | .pressFaultClear .. => true
  | .xoFault kind => kind != 0
  | .refSignalPresent .. => true
  | .refLos _ ph => decide (ph.length ≤ 8)
  | .refWindowEnd ofs _ _ ph => ofs.length == 8 && ph.length == 8
  | .waitToRestoreExpiry _ ph => decide (ph.length ≤ 8)
  | .dpllStageAdvance _ ph => decide (ph.length ≤ 8)
  | .dpllStageFallback .. | .phaseStep .. => true
  | .phaseStepDone ph => decide (ph.length ≤ 8)
  | .realign .. | .timeSet .. | .ptpDatasetGet .. | .ptpMessageReceive .. | .ptpMessageSend .. | .frameReceive ..
  | .pauseFrame .. | .pauseEnd .. => true
  | .ethLinkDown _ reason _ _ => reason != 0
  | .ethLinkUp .. | .txFrameStart .. | .mediaLateDrop .. | .ethWakePattern .. | .ethLinkRestart .. | .mediaPacketReceive ..
  | .rxfAdd .. | .rxfRemove .. | .txfAdd .. | .txfRemove .. | .flowRemoved .. | .rxfStats .. | .flowList ..
  | .holdLimitExpiry .. | .fadeComplete .. | .fadeInComplete .. | .legTimeout .. | .lossWindowEnd | .txPacketForm ..
  | .txfHeldDrop .. | .convLocked .. => true
  | .convUnlocked _ reason => reason != 0
  | .convRatioUpdate .. | .drypointFrame .. | .drypointGain .. | .meterWindowEnd .. | .tapCaptureBlock ..
  | .tapPlaybackFetch .. | .sapStart .. | .sapFirstDataFrame .. | .sapFollowerStart .. | .sapFrame .. | .slipDecision ..
  | .sapStopped .. => true
  | .sapClockFault _ cond => cond != 0
  | .sapMaskWrite .. | .slotmaskUpdate .. | .sapRestart .. | .pwmPeriod .. | .overCurrent .. | .pscShutdown ..
  | .pscRetry .. | .diagTestStart => true
  | .diagTestEnd obs => decide (obs.length ≤ 16)
  | .pscPvddFault .. | .pscPvddOk .. | .pscFadeInDone .. | .pscStopDone .. | .pscDiag .. | .pscCal .. | .pscCalDone ..
  | .pscClear .. | .plateLoad .. | .plateLoaded .. | .plateLoadFailed .. | .plateArm .. | .plateArmed | .plateDisarm ..
  | .plateInfo .. | .engineStarted | .engineStopped | .swap .. | .swapCancel .. | .swapBegin | .swapDone
  | .rampStart .. | .rampInstall | .rampDone .. | .rampCancel .. | .rampCancelApply | .paramSetAtomic ..
  | .atomicSetApply | .rawWindowWrite .. | .edgeWindowWrite .. | .directWriteApply | .pairRoleSet .. | .pairYield ..
  | .selfFaultYield | .yieldPulse | .roleInChange .. | .pairHeartbeatSend .. => true
  | .pairHeartbeatReceive f _ => f.tag.length == 8
  | .heartbeatMissed => true
  | .pairedQuantitySetReceive f => f.tag.length == 8
  | .pairedQuantityApply | .digestPeriodEnd .. => true
  | .digestReceive f => f.tag.length == 8
  | .digestMissing .. | .promoteWindowEnd | .pairUnratified | .omzorHeartbeatSend .. => true
  | .omzorHeartbeatReceive _ m => m.tag.length == 8
  | .healthSend => true
  | .healthReceive _ m => m.tag.length == 8
  | .yieldNotice _ m => m.tag.length == 8
  | .digestReport _ m => m.tag.length == 8
  | .peerLoss _ m => m.tag.length == 8
  | .roleCommand m => m.tag.length == 8
  | .roleCommandExecute | .peerLossSourceSend | .pairWitnessLost | .witHealthTimeout .. | .witBothStandby ..
  | .witRestrikeCountClear .. | .witSourceWindowEnd | .witCommand .. | .witPairStatus .. | .witAlarmClear ..
  | .restrikeStart .. | .restrikeAbort .. => true
  | .restrikeStartReceive f => f.tag.length == 8
  | .restrikeAccept f => f.tag.length == 8
  | .restrikeRefuse f => f.tag.length == 8
  | .restrikeAbortReceive f => f.tag.length == 8
  | .restrikeRequestTimeout | .restrikeChunkTimeout | .coefficientChunkCopy => true
  | .coefficientChunkReceive f => f.tag.length == 8
  | .coefficientChunkApply | .rampSnapshot => true
  | .rampPartReceive f => f.tag.length == 8
  | .rampSetApply | .copyPoint => true
  | .unitPartReceive f => f.tag.length == 8
  | .unitReplay => true
  | .unitAck f => f.tag.length == 8
  | .unitNack f => f.tag.length == 8
  | .restrikeDone | .stateDigestWindowEnd => true
  | .stateDigestReceive f => f.tag.length == 8
  | .bistPassEnd .. | .senseCheckStart | .senseCheckEnd | .pressSelftest .. | .pressSelftestDone .. | .mbDoorbell .. => true
  | .mbRequestWrite _ off data => decide (off.val + data.length ≤ 512)
  | .sysInfo .. | .fnCfgWrite .. | .fnCfgRead .. | .fnCfgDefault .. | .fnQuery .. | .cpRestart .. | .mbEcho ..
  | .fnEnable .. | .fnEnabled .. | .fnDisable .. | .fnStopped .. | .cpWatchdog | .cpRestarted => true
  | .endpointReset cause => cause != 0
  | .hlLinkUp speed width _ _ _ _ _ => speed != 0 && width != 0
  | .dmaError _ err _ => err != 0
  | .spiWrite cmd _ _ data cycles => cmd != 3 && cmd != 5 && cmd != 0x9F && cycles.length == data.length / 4
  | .spiRead .. | .spiStatus | .spiIdentity | .semaphoreRead .. | .semaphoreWrite .. | .irqEnableWrite ..
  | .ringEnable .. | .ringHeadWrite .. | .hlLinkInfo .. | .stagingCrc .. | .registerWrite .. | .readClearCounter ..
  | .sctrLoRead .. | .sapStampLoRead .. => true
  | .logSlotRead _ _ dw n _ => decide (0 < n.val) && decide (dw.val + n.val ≤ 8)
  | .logRecordWrite .. | .logScrub .. | .logRepair .. | .logRepaired .. | .logClear .. | .logGaspClear .. | .twXfer ..
  | .busClear .. | .twTransferStart .. | .twTransferEnd .. | .sclLowTimeout .. | .sdaLowTimeout .. | .twBusFree ..
  | .alertResponseRead .. | .inBandRequest .. | .twtWrite .. | .twtRead .. | .twtAlertResponse .. | .twtTimeout
  | .powerOnReset | .resetN .. | .nodeReset .. | .seqPgRise .. | .seqPgTimeout .. | .railFault .. | .railWindow ..
  | .railWindowClear .. => true
  | .tempReading r => r.length == 8
  | .avsStep .. => true
  | .pmBootDone _ _ _ cal => cal.length == 16
  | .bootGo | .pmDormant .. => true
  | .pmReadings _ mv => mv.length == 10
  | .wakeGpio .. | .wakeTimer .. | .perstNRise | .fwStage .. | .fwStaged .. | .fwVerify .. | .fwVerified
  | .fwActivate .. | .fwDiscard .. | .fwCommit .. | .commitAutoExpiry | .attest .. | .certRead .. | .debugChallenge ..
  | .debugUnlock .. | .debugLock .. | .otpKeyProgram .. | .otpKeyRevoke .. | .otpVendorOff .. => true
  | .sessionHello _ m | .sessionReply _ m | .sessionDone _ m => m.wf
  | .sessionFinish _ m => m.wf
  | .sessionFail .. | .sessionRekey | .permanentRailsValid ..
  | .debugMasterReset .. | .bootFailure .. | .twBusBusy .. | .evtHoldoffExpiry | .eventRingRecopy .. => true

/-- The check of one command. -/
def Instr.wf (i : Instr) : Bool :=
  i.shape &&
    (match issueOf i with
     | some h => h.upsets.all Upset.wf
     | none => true)

end Sys2Proof
end

