-- ==== Sys2Proof/Safety.lean ====
section
/-! DEFINITION. The terms in which claims about the block are stated: a mailbox request that the CP takes, its response, the
instant a press issues in, and a lane's delivery. -/

namespace Sys2Proof.Machine

/-- The CP runs, takes channel `c` next, and the channel holds a request of opcode `op` (R412, R418). -/
abbrev Taken (s : State) (c op : Nat) : Prop := canServe s c op = true

/-- The request passes the checks of its header: FLAGS and the reserved bytes, a LENGTH that the command defines, and, for a
command without a target function, FUNCTION 0 (R414, R416, R417). -/
abbrev HeaderOk (s : State) (c : Nat) (lenOk : Nat → Bool) : Prop :=
  (reqOf s c).flags ≤ 1 ∧ (reqOf s c).reserved = 0 ∧ (reqOf s c).len ≤ 496 ∧ lenOk (reqOf s c).len = true ∧ (reqOf s c).fn = 0

/-- The same of a command whose FUNCTION names its target, which must be present on the device (R416, R417). -/
abbrev HeaderFnOk (s : State) (c : Nat) (lenOk : Nat → Bool) : Prop :=
  (reqOf s c).flags ≤ 1 ∧ (reqOf s c).reserved = 0 ∧ (reqOf s c).len ≤ 496 ∧ lenOk (reqOf s c).len = true ∧
  fnPresent s (reqOf s c).fn = true

/-- Channel `c` is DONE, and its response area holds these fields (R412, R415). -/
def Answered (t : State) (c status code tag detail : Nat) (payload : List Byte) : Prop :=
  getF t (F.MB_STAT_STATE c) = mbDone ∧
  memGetList t.cp.mbx (mbRspArea c) (12 + payload.length) = respBytes status code tag detail payload

/-- Channel `c` is answered OK with a payload (R415). -/
def AnsweredOk (s t : State) (c : Nat) (payload : List Byte) : Prop := Answered t c 0 0 (reqOf s c).tag 0 payload

/-- Channel `c` is answered REFUSED with a code and a detail (R415). -/
def AnsweredRefused (s t : State) (c code detail : Nat) : Prop := Answered t c 1 code (reqOf s c).tag detail []

/-- The request's bytes from offset `o` of its payload, little-endian. -/
def arg (s : State) (c o n : Nat) : Nat := leAt (reqOf s c).payload o n

/-- The CP takes channel `c` with a request of opcode `op` whose header passes its checks (R417). -/
abbrev Served (s : State) (c : Fin 8) (op : Nat) (lenOk : Nat → Bool) : Prop :=
  Taken s c.val op ∧ HeaderOk s c.val lenOk

/-- The same of a command whose FUNCTION names its target (R416). -/
abbrev ServedFn (s : State) (c : Fin 8) (op : Nat) (lenOk : Nat → Bool) : Prop :=
  Taken s c.val op ∧ HeaderFnOk s c.val lenOk

/-- Channel `c` waits on its command: it is RUNNING (R412). -/
abbrev Waits (t : State) (c : Fin 8) : Prop := getF t (F.MB_STAT_STATE c.val) = mbRunning

/-- Bit `b` of the sticky fault register of class `c` is set (R476). -/
abbrev Sticky (t : State) (c b : Nat) : Prop := wbit (getR t (R.SFAULT c)) b = true

/-- What the work of the coming boundary reads: the state with that boundary's SCTR (log entry 17). -/
abbrev comingBoundary (s : State) : State := { s with sctr := nextSctr s }

/-- If channel `c` waits and the CP runs, it is answered with these fields (R412, R413). -/
def AnswersWaiting (s t : State) (c status code detail : Nat) (payload : List Byte) : Prop :=
  c < 8 → getF s (F.MB_STAT_STATE c) = mbRunning → cpIsRunning s = true →
    Answered t c status code (reqOf s c).tag detail payload

/-- The registers in which an event, a sticky fault or an interrupt shows: `SFAULT_SUM` and the class registers, `IRQ_STATUS`,
`MSIX_PBA`, the recorder's counters and status, and `TWT_STAT` (R452, R453, R476, R477, R484, R496, R517). -/
def reports (o : Nat) : Bool :=
  (decide (0x0100 ≤ o) && decide (o < 0x0140)) || o == R.IRQ_STATUS || o == R.MSIX_PBA 0 || o == R.LOG_STAT ||
  (decide (0x9420 ≤ o) && decide (o < 0x9440)) || o == R.LOG_MERGES || o == R.TWT_STAT

/-- The registers of mailbox channel `c` (R411). -/
def channelReg (c o : Nat) : Bool := decide (R.MB_STAT c - 4 ≤ o) && decide (o < R.MB_STAT c + 28)

/-! ### PTP messages, frames of the pair link and messages of the witness -/

/-- A message reaches PTP instance `i`: it passes the receive path of a port of the instance's role, the instance is served, and the
domain is its own (R49, R235, R237). -/
def PtpReaches (s : State) (i : Nat) (h : RxHead) (domain : Byte) : Prop :=
  (rxHead s h 0x0800 0).2 = true ∧ carriesPtp s h.port.val = true ∧ ethRole s h.port.val = i ∧ ptpServed s i = true ∧
  domain.toNat = getF s (F.PTP_CFG0_DOMAIN (ptpFn i))

/-- A frame of the pair link reaches the pair logic: it passes the receive path of its port (R235), function 0x48 is enabled, and the
node uses the link for this subtype (R346). -/
def FrameReaches (s : State) (f : PairFrame) (subtype : Nat) : Prop :=
  (rxHead s f.head 0x88B5 subtype).2 = true ∧ fnOn s 0x48 = true ∧ (0x10 ≤ subtype ∨ unpaired s = false)

/-- A frame of the pair link reaches the pair logic and passes every check of R357 for its subtype. -/
def FrameOk (s : State) (f : PairFrame) (subtype : Nat) : Prop :=
  FrameReaches s f subtype ∧ f.src.toNat = pairPeer s ∧ f.pairId = getR s R.PAIR_ID ∧
  seqOf s.pair.ses.rxSeq subtype < f.seq.toNat ∧ f.version = 1 ∧ pairTagOk s f subtype (extendSctr s f.sctrLo.toNat) = true

/-- A frame of the pair link reaches the pair logic, and fails one of the checks of R357. -/
def FrameBad (s : State) (f : PairFrame) (subtype : Nat) : Prop := FrameReaches s f subtype ∧ ¬ FrameOk s f subtype

/-- A restrike chunk of a KIND that passes every check (R357, R396). -/
abbrev ChunkOk (s : State) (f : PairFrame) (kind : Nat) : Prop := FrameOk s f 5 ∧ leAt f.payload 0 1 = kind

/-- The node takes the message of its witness (R363). -/
abbrev OmzorOk (s : State) (type : Nat) (m : OmMsg) : Prop :=
  (omzorArrives s m.head (type == 5)).2 = true ∧ fnOn s 0x48 = true ∧ omFault s s.pair.om type m = none

/-- The witness takes the message of node `j` (R363, R370). -/
abbrev WitnessOk (s : State) (j : Fin 64) (type : Nat) (m : OmMsg) : Prop :=
  (omzorArrives s m.head false).2 = true ∧ witHas s j = true ∧ omFault s (witNode s j).ses type m = none

/-! ### Frames -/

/-- The units that carry audio are as they were: presses and exchange, engine, media flows, serial ports, converters, paired
quantities and power stages. -/
abbrev AudioKept (s t : State) : Prop :=
  t.dsp = s.dsp ∧ t.eng = s.eng ∧ t.net = s.net ∧ t.sap = s.sap ∧ t.conv = s.conv ∧ t.paired = s.paired ∧ t.psc = s.psc

/-- The units that control the node are as they were: clocks, security, power, pair, witness, restrike and two-wire. -/
abbrev ControlKept (s t : State) : Prop :=
  t.clock = s.clock ∧ t.sec = s.sec ∧ t.pm = s.pm ∧ t.pair = s.pair ∧ t.wit = s.wit ∧ t.rs = s.rs ∧ t.tw = s.tw

/-- Every register but those in which an event, a sticky fault or an interrupt shows is as it was, outside the places of `own`. -/
def RegsKept (s t : State) (own : Nat → Bool) : Prop := ∀ o, reports o = false → own o = false → getR t o = getR s o

/-! ### What a command may change -/

/-- The parts of the block: its recorder, mailboxes, host link, clocks, presses with their memories, engine, media flows and ports,
security, power, serial ports, conversion services, paired quantities, power stages, pair, witness service, restrike and two-wire
buses. -/
inductive Part where
  | log | cp | host | clock | dsp | eng | net | sec | pm | sap | conv | paired | psc | pair | wit | rs | tw
  deriving DecidableEq, Repr

/-- Every part. -/
def Part.every : List Part :=
  [.log, .cp, .host, .clock, .dsp, .eng, .net, .sec, .pm, .sap, .conv, .paired, .psc, .pair, .wit, .rs, .tw]

/-- The part is in `t` as it was in `s`. -/
def sameIn (u : Part) (s t : State) : Prop :=
  match u with
  | .log => t.log = s.log
  | .cp => t.cp = s.cp
  | .host => t.host = s.host
  | .clock => t.clock = s.clock
  | .dsp => t.dsp = s.dsp
  | .eng => t.eng = s.eng
  | .net => t.net = s.net
  | .sec => t.sec = s.sec
  | .pm => t.pm = s.pm
  | .sap => t.sap = s.sap
  | .conv => t.conv = s.conv
  | .paired => t.paired = s.paired
  | .psc => t.psc = s.psc
  | .pair => t.pair = s.pair
  | .wit => t.wit = s.wit
  | .rs => t.rs = s.rs
  | .tw => t.tw = s.tw

/-- The parts that a command may change, beside its registers and what it sends: its own unit, the recorder and the host link where it
reports, the mailbox where it answers, and the units that it withdraws, starts or feeds. -/
def mayChange : Instr → List Part
  | .pscFadeInDone .. | .sctrLoRead .. | .sapStampLoRead .. | .twtAlertResponse .. | .seqPgRise .. | .permanentRailsValid ..
  | .bootFailure .. | .twBusBusy .. =>
    []
  | .spiStatus .. | .spiIdentity .. | .semaphoreRead .. | .semaphoreWrite .. | .irqEnableWrite .. =>
    [.host]
  | .refSignalPresent .. =>
    [.clock]
  | .pauseEnd .. | .txPacketForm .. =>
    [.net]
  | .commitAutoExpiry .. =>
    [.sec]
  | .sapMaskWrite .. =>
    [.sap]
  | .slipDecision .. =>
    [.paired]
  | .diagTestStart .. =>
    [.psc]
  | .digestMissing .. | .promoteWindowEnd .. | .railWindowClear .. =>
    [.pair]
  | .witRestrikeCountClear .. =>
    [.wit]
  | .senseCheckStart .. =>
    [.rs]
  | .twtWrite .. | .twtRead .. =>
    [.tw]
  | .ethLinkUp .. | .fnStopped .. | .hlLinkUp .. | .ringEnable .. | .ringHeadWrite .. | .logSlotRead .. | .logRecordWrite ..
  | .logScrub .. | .twtTimeout .. | .evtHoldoffExpiry .. | .eventRingRecopy .. =>
    [.log, .host]
  | .ptpDatasetGet .. | .ethLinkRestart .. | .flowList .. | .plateInfo .. | .witPairStatus .. | .sysInfo .. | .fnCfgWrite ..
  | .fnCfgRead .. | .fnCfgDefault .. | .fnQuery .. | .mbEcho .. | .hlLinkInfo .. | .stagingCrc .. | .pmReadings ..
  | .attest .. | .certRead .. | .debugLock .. =>
    [.cp, .host]
  | .twTransferStart .. =>
    [.cp, .tw]
  | .legTimeout .. =>
    [.host, .net]
  | .bootGo .. =>
    [.host, .pm]
  | .ptpMessageSend .. =>
    [.clock, .net]
  | .coefficientChunkApply .. =>
    [.dsp, .rs]
  | .pairHeartbeatSend .. | .digestPeriodEnd .. | .healthSend .. | .peerLossSourceSend .. =>
    [.net, .pair]
  | .avsStep .. =>
    [.pm, .tw]
  | .spHeartbeatTimeout .. =>
    [.sap, .psc]
  | .convRatioUpdate .. =>
    [.conv, .paired]
  | .pressFaultClear .. | .plateDisarm .. | .swapCancel .. | .mbDoorbell .. | .mbRequestWrite .. | .logRepair ..
  | .logRepaired .. | .logClear .. | .logGaspClear .. =>
    [.log, .cp, .host]
  | .refLos .. | .refWindowEnd .. | .waitToRestoreExpiry .. | .dpllStageAdvance .. | .dpllStageFallback .. | .phaseStepDone .. =>
    [.log, .host, .clock]
  | .pauseFrame .. | .ethLinkDown .. | .mediaLateDrop .. | .mediaPacketReceive .. | .lossWindowEnd .. | .txfHeldDrop .. =>
    [.log, .host, .net]
  | .convLocked .. | .convUnlocked .. | .meterWindowEnd .. | .tapCaptureBlock .. | .tapPlaybackFetch .. | .endpointReset ..
  | .dmaError .. =>
    [.log, .host, .conv]
  | .pwmPeriod .. | .overCurrent .. | .pscShutdown .. | .pscRetry .. | .pscPvddFault .. | .pscPvddOk .. =>
    [.log, .host, .psc]
  | .pairUnratified .. | .pairWitnessLost .. =>
    [.log, .host, .pair]
  | .witSourceWindowEnd .. =>
    [.log, .host, .wit]
  | .restrikeDone .. | .bistPassEnd .. =>
    [.log, .host, .rs]
  | .alertResponseRead .. =>
    [.log, .host, .tw]
  | .timeSet .. =>
    [.cp, .host, .clock]
  | .plateLoad .. | .rampStart .. | .rampCancel .. | .paramSetAtomic .. =>
    [.cp, .host, .eng]
  | .ethWakePattern .. | .txfRemove .. | .rxfStats .. =>
    [.cp, .host, .net]
  | .fwStage .. | .fwVerify .. | .fwDiscard .. | .fwCommit .. | .debugChallenge .. =>
    [.cp, .host, .sec]
  | .slotmaskUpdate .. =>
    [.cp, .host, .sap]
  | .drypointGain .. =>
    [.cp, .host, .conv]
  | .pairRoleSet .. | .pairYield .. =>
    [.cp, .host, .pair]
  | .witAlarmClear .. =>
    [.cp, .host, .wit]
  | .holdLimitExpiry .. | .fadeComplete .. | .fadeInComplete .. =>
    [.host, .dsp, .net]
  | .omzorHeartbeatSend .. | .sessionRekey .. =>
    [.net, .pair, .wit]
  | .coefficientChunkCopy .. | .rampSnapshot .. | .copyPoint .. | .stateDigestWindowEnd .. =>
    [.net, .pair, .rs]
  | .phaseStep .. | .realign .. =>
    [.log, .cp, .host, .clock]
  | .rxfAdd .. | .txfAdd .. =>
    [.log, .cp, .host, .net]
  | .fwStaged .. | .fwVerified .. | .debugUnlock .. | .otpKeyProgram .. | .otpKeyRevoke .. | .otpVendorOff .. =>
    [.log, .cp, .host, .sec]
  | .pscClear .. =>
    [.log, .cp, .host, .psc]
  | .ptpMessageReceive .. | .txFrameStart .. =>
    [.log, .host, .clock, .net]
  | .pscStopDone .. =>
    [.log, .host, .dsp, .psc]
  | .nop .. | .vli .. | .mov .. | .laneid .. | .pset .. | .ppos .. | .cset .. | .mset .. | .mlog .. | .srinit .. | .rds ..
  | .rep .. | .repEnd .. | .fadd .. | .fsub .. | .fmul .. | .fma .. | .fabs .. | .fneg .. | .fmin .. | .fmax .. | .fcmp ..
  | .fsel .. | .log2a .. | .exp2a .. | .rcpa .. | .rsqa .. | .mac .. | .xmac .. | .aadd .. | .aclr .. | .ard .. | .ains ..
  | .minx .. | .maxx .. | .xred .. | .ld .. | .st .. | .ldc .. | .ldx .. | .stx .. | .ldd .. | .std .. | .stm .. | .norm ..
  | .expx .. | .spiRead .. | .readClearCounter .. =>
    [.log, .host, .dsp, .rs]
  | .edgeWindowWrite .. =>
    [.log, .host, .eng, .paired]
  | .roleCommand .. | .unitNack .. =>
    [.log, .host, .net, .pair]
  | .healthReceive .. | .yieldNotice .. | .digestReport .. | .peerLoss .. | .witHealthTimeout .. | .witBothStandby .. =>
    [.log, .host, .net, .wit]
  | .railWindow .. =>
    [.log, .host, .pm, .pair]
  | .drypointFrame .. | .sapStart .. | .sapFirstDataFrame .. | .sapFollowerStart .. | .sapFrame .. =>
    [.log, .host, .sap, .conv]
  | .sapClockFault .. =>
    [.log, .host, .sap, .paired]
  | .xoFault .. =>
    [.log, .host, .sap, .psc]
  | .sessionFail .. =>
    [.log, .host, .pair, .wit]
  | .senseCheckEnd .. =>
    [.log, .host, .pair, .rs]
  | .rxfRemove .. =>
    [.cp, .host, .dsp, .net]
  | .witCommand .. =>
    [.cp, .host, .net, .wit]
  | .sapRestart .. =>
    [.cp, .host, .sap, .paired]
  | .plateLoaded .. | .plateLoadFailed .. =>
    [.log, .cp, .host, .dsp, .eng]
  | .flowRemoved .. =>
    [.log, .cp, .host, .dsp, .net]
  | .twXfer .. | .busClear .. | .twTransferEnd .. | .sclLowTimeout .. | .sdaLowTimeout .. | .twBusFree .. | .inBandRequest .. =>
    [.log, .cp, .host, .pm, .tw]
  | .pmBootDone .. =>
    [.log, .host, .dsp, .sec, .pm]
  | .sapStopped .. =>
    [.log, .host, .dsp, .sap, .conv]
  | .pairedQuantitySetReceive .. =>
    [.log, .host, .net, .paired, .pair]
  | .omzorHeartbeatReceive .. | .sessionHello .. | .sessionReply .. | .sessionFinish .. | .sessionDone .. =>
    [.log, .host, .net, .pair, .wit]
  | .pairHeartbeatReceive .. | .heartbeatMissed .. | .digestReceive .. | .restrikeStartReceive .. | .restrikeAccept ..
  | .restrikeRefuse .. | .restrikeAbortReceive .. | .restrikeRequestTimeout .. | .restrikeChunkTimeout ..
  | .coefficientChunkReceive .. | .rampPartReceive .. | .unitPartReceive .. | .unitAck .. | .stateDigestReceive .. =>
    [.log, .host, .net, .pair, .rs]
  | .plateArmed .. =>
    [.log, .cp, .host, .dsp, .eng, .rs]
  | .swap .. | .restrikeStart .. | .restrikeAbort .. =>
    [.log, .cp, .host, .net, .pair, .rs]
  | .rawWindowWrite .. =>
    [.log, .host, .dsp, .eng, .paired, .rs]
  | .unitReplay .. | .pressSelftestDone .. =>
    [.log, .host, .dsp, .net, .pair, .rs]
  | .diagTestEnd .. | .pscCalDone .. =>
    [.log, .host, .net, .psc, .pair, .rs]
  | .pressSelftest .. =>
    [.log, .cp, .host, .dsp, .net, .pair, .rs]
  | .plateArm .. =>
    [.log, .cp, .host, .eng, .net, .pair, .rs]
  | .pscDiag .. | .pscCal .. =>
    [.log, .cp, .host, .net, .psc, .pair, .rs]
  | .selfFaultYield .. | .yieldPulse .. | .roleInChange .. | .roleCommandExecute .. =>
    [.log, .host, .net, .sap, .psc, .pair, .rs]
  | .cpRestart .. | .cpWatchdog .. | .fwActivate .. =>
    [.log, .cp, .host, .clock, .eng, .sec, .conv, .tw]
  | .engineStarted .. | .engineStopped .. | .swapBegin .. | .swapDone .. | .atomicSetApply .. =>
    [.log, .cp, .host, .clock, .dsp, .eng, .net, .pair, .rs]
  | .rampInstall .. | .rampDone .. | .rampCancelApply .. | .directWriteApply .. | .pairedQuantityApply .. | .rampSetApply .. =>
    [.log, .cp, .host, .clock, .dsp, .eng, .net, .sap, .conv, .paired, .pair, .rs]
  | .fnEnable .. | .fnDisable .. | .pmDormant .. =>
    [.log, .cp, .host, .clock, .dsp, .net, .pm, .sap, .conv, .paired, .psc, .pair, .tw]
  | .cpRestarted .. =>
    [.log, .cp, .host, .clock, .dsp, .net, .sec, .pm, .sap, .conv, .paired, .psc, .pair, .tw]
  | .spiWrite .. | .registerWrite .. =>
    [.log, .cp, .host, .clock, .dsp, .eng, .net, .pm, .sap, .conv, .paired, .psc, .pair, .rs, .tw]
  | .fnEnabled .. =>
    [.log, .cp, .host, .clock, .dsp, .eng, .net, .pm, .sap, .conv, .psc, .pair, .wit, .rs, .tw]
  | .spBoundary .. =>
    [.log, .cp, .host, .clock, .dsp, .eng, .net, .sec, .sap, .conv, .paired, .psc, .pair, .wit, .rs, .tw]
  | .frameReceive .. | .powerOnReset .. | .resetN .. | .nodeReset .. | .seqPgTimeout .. | .railFault .. | .tempReading ..
  | .wakeGpio .. | .wakeTimer .. | .perstNRise .. | .debugMasterReset .. =>
    Part.every

/-! ### Press instructions -/

/-- What press `p` reads in its next slot: the results due by that slot are visible (R69). -/
def readyPress (s : State) (p : Nat) : State := setPress s p { commitPend (press s p) (press s p).slot with trace := [] }

/-- Press `p` has result `w` waiting for slot `t` (R69). -/
abbrev Delivers (s : State) (p t : Nat) (w : Wr) : Prop := (t, w) ∈ (press s p).pend

/-- The check bits of the word that press `p` fetches fit (R75). -/
def CleanFetch (s : State) (p : Nat) : Prop := ∀ k, (fetch s p).key = some k → markOf (press s p) 2 k = none

/-- Instruction `i`, whose issue is `h`, is what its press fetches and can issue next, and no upset strikes it (R14, R68, R74, R75,
R130). -/
abbrev Issues (s : State) (i : Instr) (h : Issue) : Prop :=
  (∃ w, encode i = some w ∧ canIssue s h.p.val w = true) ∧ CleanFetch s h.p.val ∧ h.upsets = []

/-- The registers in which a difference of the check lanes and a bad memory word of press `p` show: `PRESS_STAT`, `MISM_INFO`,
`MISM_SCTR`, `MISM_CNT`, `ECC_CORR_CNT` and `ECC_UNC_INFO` (R74, R75). -/
def upsetReg (p o : Nat) : Bool :=
  o == R.PRESS_STAT p || o == R.MISM_INFO p || o == R.MISM_SCTR p || o == R.MISM_CNT p || o == R.ECC_CORR_CNT p ||
  o == R.ECC_UNC_INFO p

/-- Lane entry `j`, compute or check lane, takes part in the instruction (R71, R96). -/
abbrev Selects (s : State) (h : Issue) (j : Nat) : Prop :=
  j < 34 ∧ wbit (effMask (readyPress s h.p.val) h) (laneNo s h.p.val j) = true

/-- The instructions that deliver one word to VD in every selected lane entry, with the word that entry `j` of the state `r` read
in the slot gives (R81, R83, R85, R98, R104, R107, R109, R111, R118). -/
def vdOf (r : State) : Instr → Option (Issue × Fin 16 × (Nat → Word))
  | .vli h d imm => some (h, d, fun _ => imm)
  | .mov h d a => some (h, d, fun j => vreg r h.p.val j a)
  | .laneid h d => some (h, d, fun j => natF (laneNo r h.p.val j))
  | .rds h d index => some (h, d, fun j =>
      if index then natF (lane r h.p.val j).srchVis.index.toNat else (lane r h.p.val j).srchVis.value)
  | .fsel h d a b pd => some (h, d, fun j =>
      if wbit ((press r h.p.val).masks.getD pd.val 0) (laneNo r h.p.val j) then vreg r h.p.val j a else vreg r h.p.val j b)
  | .ard h d la => some (h, d, fun j => (accRead ((lane r h.p.val j).laVis.getD la.val Acc.reset)).1)
  | .norm h d la seg => some (h, d, fun j => accNorm ((lane r h.p.val j).laVis.getD la.val Acc.reset) seg.val)
  | .expx h d a => some (h, d, fun j => BitVec.ofInt 32 (expOf (vreg r h.p.val j a)))
  | .ld h d n disp _ => some (h, d, fun j =>
      readState r h.p.val (laneNo r h.p.val j) (stateAddr r h.p.val (laneNo r h.p.val j) n.val disp))
  | .ldc h d m disp _ => some (h, d, fun j =>
      readCoef r h.p.val r.dsp.issueBank (laneNo r h.p.val j) (coefAddr r h.p.val (laneNo r h.p.val j) m.val disp))
  | .ldx h d a => some (h, d, fun j =>
      (areaWord r h.p.val a.toNat (laneNo r h.p.val j)).getD (readExOf r h.p.val (press r h.p.val).slot a.toNat))
  | _ => none

/-- The float instructions, with what they compute from the vector registers of a lane entry (R80, R81, R104). -/
def floatOf : Instr → Option (Issue × Fin 16 × ((Fin 16 → Word) → FR))
  | .fadd h d a b => some (h, d, fun v => fadd (v a) (v b))
  | .fsub h d a b => some (h, d, fun v => fsub (v a) (v b))
  | .fmul h d a b => some (h, d, fun v => fmul (v a) (v b))
  | .fma h d a b c => some (h, d, fun v => ffma (v a) (v b) (v c))
  | .fabs h d a => some (h, d, fun v => fabs (v a))
  | .fneg h d a => some (h, d, fun v => fneg (v a))
  | .fmin h d a b => some (h, d, fun v => fminmax false (v a) (v b))
  | .fmax h d a b => some (h, d, fun v => fminmax true (v a) (v b))
  | .log2a h d a => some (h, d, fun v => log2a (v a))
  | .exp2a h d a => some (h, d, fun v => exp2a (v a))
  | .rcpa h d a => some (h, d, fun v => rcpa (v a))
  | .rsqa h d a => some (h, d, fun v => rsqa (v a))
  | _ => none

/-- The exact term that an accumulating instruction adds in lane entry `j` of the state `r` read in the slot (R83, R84, R105). -/
def termOf (r : State) : Instr → Option (Issue × Fin 4 × (Nat → Ex))
  | .mac h la x c => some (h, la, fun j =>
      mulX (cls (xValue r h (press r h.p.val).slot j (laneNo r h.p.val j) x)) (cls (cValue r h j (laneNo r h.p.val j) c)))
  | .xmac h la x m disp _ => some (h, la, fun j =>
      let w := coefAddr r h.p.val (laneNo r h.p.val j) m.val disp
      mulX (cls (xValue r h (press r h.p.val).slot j (laneNo r h.p.val j) x))
        (cls (crossGain r (readCoef r h.p.val 0 (laneNo r h.p.val j) w) (readCoef r h.p.val 1 (laneNo r h.p.val j) w)).w))
  | .aadd h la x => some (h, la, fun j => cls (xValue r h (press r h.p.val).slot j (laneNo r h.p.val j) x))
  | _ => none

end Sys2Proof.Machine
end

