-- ==== Sys2Proof/Certificates/Slice0/Obligations.lean ====
section
/-! DEFINITION. The statements for the provers. Each says in its docstring which part of the spec it formalises. -/

open Sys2Proof Sys2Proof.Machine

/-! ### The queue -/

/-- A step takes the command that has waited longest: the outcome is that of the command on the state with the queue's rest. With no
command waiting the block idles (the model's choice, log entry 2). -/
def Obligations.StepRunsFrontCommand : Prop :=
  (∀ (c : Instr) (s : State) (rest : List Instr),
    step { s with pending := c :: rest } = exec c { s with pending := rest }) ∧
  (∀ s : State, s.pending = [] → step s = .next s)

/-- No command's own effect adds, drops or reorders a waiting command, so a step leaves exactly the queue's rest; and a queue of
well-formed commands stays one (log entry 2). -/
def Obligations.QueueKeptByEveryStep : Prop :=
  (∀ (c : Instr) (s t : State), exec c s = .next t → t.pending = s.pending) ∧
  (∀ s t : State, (∀ c ∈ s.pending, c.wf = true) → step s = .next t → ∀ c ∈ t.pending, c.wf = true)

/-- After reset nothing waits and nothing was sent, every memory is in its canonical form, and no press holds a result. -/
def Obligations.ResetIsEmpty : Prop :=
  State.reset.pending = [] ∧ State.reset.out = [] ∧ memWf State.reset.regs = true ∧ memWf State.reset.cp.mbx = true ∧
  memWf State.reset.host.staging = true ∧ memWf State.reset.host.image = true ∧ memWf State.reset.dsp.exIn = true ∧
  memWf State.reset.dsp.exPress = true ∧ memWf State.reset.dsp.delay = true ∧ memWf State.reset.dsp.meter = true ∧
  (∀ p : Fin 4, memWf (press State.reset p.val).mem = true ∧ memWf (press State.reset p.val).coef = true ∧
    memWf (press State.reset p.val).prog = true ∧ (press State.reset p.val).pend = [])

/-! ### The time base and one-time-programmable memory, over all commands -/

/-- SCTR moves at an sp boundary only: every other command leaves it, or resets it to 0 (R30, R535). -/
def Obligations.SctrMovesOnlyAtBoundary : Prop :=
  ∀ (c : Instr) (s t : State), exec c s = .next t → (∀ hits, c ≠ .spBoundary hits) → t.sctr = s.sctr ∨ t.sctr = 0

/-- A key that is programmed stays as it is, and a revoked key stays revoked, whatever command comes, resets and power cycles too
(R562, R563, R568). -/
def Obligations.OtpIsWrittenOnce : Prop :=
  ∀ (c : Instr) (s t : State), exec c s = .next t →
    (∀ k, s.sec.otp.keyA = some k → t.sec.otp.keyA = some k) ∧ (∀ k, s.sec.otp.keyB = some k → t.sec.otp.keyB = some k) ∧
    (s.sec.otp.revokedA = true → t.sec.otp.revokedA = true) ∧ (s.sec.otp.revokedB = true → t.sec.otp.revokedB = true)

/-! ### Frames, over all commands -/

/-- A mailbox command changes no part of the block but those that its family names: its own unit, and the recorder, the host link and
the mailbox in which it reports. -/
def Obligations.CommandsKeepOtherParts : Prop :=
  ∀ (c : Instr) (s t : State), Part.cp ∈ mayChange c → exec c s = .next t → ∀ u, u ∉ mayChange c → sameIn u s t

/-- Neither does an instruction of a press, an access, a message, a frame, a timer or any other event that answers on no mailbox. -/
def Obligations.EventsKeepOtherParts : Prop :=
  ∀ (c : Instr) (s t : State), Part.cp ∉ mayChange c → exec c s = .next t → ∀ u, u ∉ mayChange c → sameIn u s t

/-! ### Clocks, references and PTP -/

/-- The reference monitor: a signal brings an ABSENT slot to MONITORING, where the slot can have one, a lost signal any slot back to
ABSENT, never selected, with its sticky fault; a window, which ends once at a boundary with SCTR mod 96,000 = 0, shows the fresh phase error while the loop is closed and the offset of a lone slot, and the fourth bad
window in a row disqualifies an AVAILABLE slot; a wait-to-restore of WTR good windows ends in AVAILABLE. -/
def Obligations.ReferenceMonitor : Prop :=
  ∀ (s : State) (i : Fin 8) (ph : List Int),
    (refState s i = refAbsent → canSignal s i = true → ∃ t, exec (.refSignalPresent i) s = .next t ∧ refState t i = refMonitoring ∧
      (refSlot t i).good = 0 ∧ (refSlot t i).bad = 0 ∧ ∀ j : Fin 8, j ≠ i → refState t j = refState s j ∧ refSlot t j = refSlot s j) ∧
    (refPresent s i = true → ∃ t, exec (.refLos i ph) s = .next t ∧ refState t i = refAbsent ∧ selIs t i = false ∧ Sticky t 5 2) ∧
    (refState s i = refWait → getF s F.WTR_CFG_WTR ≤ (refSlot s i).good → ∃ t, exec (.waitToRestoreExpiry i ph) s = .next t ∧ refState t i = refAvailable ∧
      (refSlot t i).ever = true) ∧
    (∀ (ofs : List (Option (BitVec 32))) (steer perr o : Word), s.sctr.toNat % 96000 = 0 → s.clock.winAt ≠ s.sctr.toNat →
      ∃ t, exec (.refWindowEnd ofs steer perr ph) s = .next t ∧
        (getF s F.DPLL_STAT_STAGE ≠ stFreerun → getF s F.DPLL_STAT_STAGE ≠ stHoldover → getR t R.PHASE_ERR = perr) ∧
        (refPresent s i = true → refType s i ≠ 1 → refType s i ≠ 2 → ofs.getD i.val none = some o →
          (∀ j, j ≠ i.val → ofs.getD j none = none) → getR t (R.REF_OFS i) = o ∧
          (refState s i = refAvailable → (refSlot s i).bad = 3 → hardLimit s < o.toInt.natAbs →
            refState t i = refDisqualified ∧ Sticky t 5 2)))

/-- The DPLL's stages: a phase error below 1 µs, then below 100 ns, brings the loop to SETTLE and to TRACK, one above 50 µs or 1 µs
back a stage; a slew that one sp completes ends. A fault of the oscillator in BOOT, READY or RUNNING faults the node with cause 1, and
the output guard acts. -/
def Obligations.DpllAndOscillator : Prop :=
  (∀ (s : State) (perr : Word) (ph : List Int),
      (getF s F.DPLL_STAT_STAGE = stAcquire → perr.toInt.natAbs < 1000000 →
        ∃ t, exec (.dpllStageAdvance perr ph) s = .next t ∧ getF t F.DPLL_STAT_STAGE = stSettle ∧ getR t R.PHASE_ERR = perr) ∧
      (getF s F.DPLL_STAT_STAGE = stSettle → perr.toInt.natAbs < 100000 → isF s F.DPLL_STAT_SWITCHING = false →
        ∃ t, exec (.dpllStageAdvance perr ph) s = .next t ∧ getF t F.DPLL_STAT_STAGE = stTrack ∧ t.clock.everTrack = true) ∧
      (getF s F.DPLL_STAT_STAGE = stSettle → 50000000 < perr.toInt.natAbs →
        ∃ t, exec (.dpllStageFallback perr) s = .next t ∧ getF t F.DPLL_STAT_STAGE = stAcquire) ∧
      (getF s F.DPLL_STAT_STAGE = stTrack → 1000000 < perr.toInt.natAbs →
        ∃ t, exec (.dpllStageFallback perr) s = .next t ∧ getF t F.DPLL_STAT_STAGE = stSettle) ∧
      (slewing s = true → (slewRemain s).natAbs ≤ (slewStep s (slewRemain s)).1 → isF s F.DPLL_STAT_SWITCHING = false →
        ∃ t, exec (.phaseStepDone ph) s = .next t ∧ slewing t = false ∧ getR t R.SLEW_REMAIN = 0)) ∧
  (∀ (s : State) (k : Fin 3), k.val ≠ 0 → nodeAlive s = true →
    ∃ t, exec (.xoFault k) s = .next t ∧ getF t F.NODE_STAT_STATE = 5 ∧ getF t F.NODE_STAT_FAULT_CAUSE = 1 ∧
      guarded t = true ∧ Sticky t 5 0 ∧ (∀ g : Fin 4, t.psc.en.getD g.val true = false) ∧ t.clock = s.clock)

/-- The clock commands. `PHASE_STEP` adds its amount to the build-out offset and to the slew, or to the hard step; `REALIGN` gives the
named outputs the offset within half a period that cancels the build-out at the next boundary; `TIME_SET` names the second of a
type 5 slot while edges come on `PPS_IN`; `PTP_DATASET_GET` answers 96 bytes. Each is refused in the cases the chapter gives. -/
def Obligations.ClockCommands : Prop :=
  ∀ (s : State) (c : Fin 8),
    (Served s c 0x0501 (· == 8) →
      let a := (BitVec.ofNat 32 (arg s c 0 4)).toInt
      let hard := arg s c 4 4 % 2 == 1
      ∃ t, exec (.phaseStep c) s = .next t ∧
        (∀ code, phaseStepRefusal s a hard = some code → AnsweredRefused s t c code 0 ∧ t.clock = s.clock) ∧
        (phaseStepRefusal s a hard = none → AnsweredOk s t c [] ∧
          (hard = true → t.clock.hardStep = some (s.clock.hardStep.getD 0 + a) ∧ t.clock.buildOut = s.clock.buildOut + a) ∧
          (hard = false → slewRemain s + a ≠ 0 →
            slewRemain t = slewRemain s + a ∧ slewing t = true ∧ t.clock.buildOut = s.clock.buildOut + a))) ∧
    (Served s c 0x0502 (· == 4) →
      ∃ t, exec (.realign c) s = .next t ∧
        (getF s F.DPLL_STAT_STAGE = stFreerun ∨ getF s F.DPLL_STAT_STAGE = stHoldover → AnsweredRefused s t c 0x052F 0) ∧
        (getF s F.DPLL_STAT_STAGE ≠ stFreerun → getF s F.DPLL_STAT_STAGE ≠ stHoldover → AnsweredOk s t c [] ∧
          ∀ k : Fin 3,
            (arg s c 0 4 / 2 ^ k.val % 2 = 0 → t.clock.nextOfs[k] = s.clock.nextOfs[k]) ∧
            (arg s c 0 4 / 2 ^ k.val % 2 = 1 → outPeriod s k ≠ 0 →
              let p : Int := outPeriod s k
              let b : Int := if selValid s && timeBearing s (selSlot s) then 0 else 3 * s.clock.buildOut
              ∃ o, t.clock.nextOfs[k] = some o ∧ 0 < 2 * o + p ∧ 2 * o ≤ p ∧ (o + b) % p = 0))) ∧
    (Served s c 0x0503 (· == 8) →
      (∀ i : Fin 8, refType s i = 5 →
        ∃ t, exec (.timeSet c true) s = .next t ∧ AnsweredOk s t c [] ∧ t.clock.timeSet = some (arg s c 0 8)) ∧
      (∃ t, exec (.timeSet c false) s = .next t ∧ AnsweredRefused s t c 0x052A 0 ∧ t.clock = s.clock) ∧
      (∀ pps, (∀ i : Fin 8, refType s i ≠ 5) →
        ∃ t, exec (.timeSet c pps) s = .next t ∧ AnsweredRefused s t c 0x052A 0 ∧ t.clock = s.clock)) ∧
    (Served s c 0x0504 (· == 1) →
      ∃ t, exec (.ptpDatasetGet c) s = .next t ∧ t.clock = s.clock ∧
        (arg s c 0 1 < 2 → ∃ data, data.length = 96 ∧ AnsweredOk s t c data) ∧
        (2 ≤ arg s c 0 1 → Answered t c 4 0x0124 (reqOf s c).tag 0 []))

/-- PTP: the best master's Announce makes it the leader, with its clockClass; without one a MODE 1 instance leads again; a leading
instance's Announce goes to 224.0.1.129 through queue 2 of its port, as its answer to a Delay_Req does; and a Sync of the leader
brings the phase error of the selected slot. -/
def Obligations.PtpMessages : Prop :=
  ∀ (s : State) (i : Fin 2) (dom : Byte) (h : RxHead) (c : Fin 10240) (gm : BitVec 64) (cls : Byte) (perr steer : Word) (p : Nat),
    (PtpReaches s i h dom →
      (∃ t, exec (.ptpMessageReceive i h c dom (.announce gm cls true)) s = .next t ∧ (ptpInst t i).leader = some gm ∧
        (ptpInst t i).cls = cls.toNat) ∧
      (getF s (F.PTP_CFG0_MODE (ptpFn i)) = 1 → (ptpInst s i).leader.isSome = true →
        ∃ t, exec (.ptpMessageReceive i h c dom (.announce gm cls false)) s = .next t ∧ (ptpInst t i).leader = none ∧
          ∀ k, ptpSlot s i = some k → fnOn s 0x20 = true → refPresent s k = true → refState t k = refAbsent) ∧
      (∀ k, ptpSlot s i = some k → selIs s k = true → (ptpInst s i).leader.isSome = true →
        getF s F.DPLL_STAT_STAGE ≠ stFreerun → getF s F.DPLL_STAT_STAGE ≠ stHoldover →
        ∃ t, exec (.ptpMessageReceive i h c dom (.sync perr steer)) s = .next t ∧ getR t R.PHASE_ERR = perr) ∧
      (ptpLeads s i = true → ptpPort s i = some p → ethUp s p = true → (ethQueue s p 2).length < 16 →
        ∃ t f, exec (.ptpMessageReceive i h c dom .delayReq) s = .next t ∧ ethQueue t p 2 = ethQueue s p 2 ++ [f] ∧
          f.bytes.take 6 = [0x01, 0x00, 0x5E, 0x00, 0x01, 0x81])) ∧
    (ptpServed s i = true → ptpLeads s i = true → ptpPort s i = some p → ethUp s p = true → (ethQueue s p 2).length < 16 →
      ∃ t f, exec (.ptpMessageSend i .announce) s = .next t ∧ ethQueue t p 2 = ethQueue s p 2 ++ [f] ∧
        f.bytes.take 6 = [0x01, 0x00, 0x5E, 0x00, 0x01, 0x81])
/-! ### Press instructions -/

/-- An instruction that delivers to VD takes one slot, and every selected lane entry delivers the word it computes from what it read
in that slot, visible four slots later. A result that is due by a slot is taken out of the waiting ones, and one that is due later
stays and changes nothing yet. -/
def Obligations.PressVectorResults : Prop :=
  (∀ (i : Instr) (s : State) (h : Issue) (d : Fin 16) (f : Nat → Word),
      vdOf (readyPress s h.p.val) i = some (h, d, f) → Issues s i h →
      ∃ t, exec i s = .next t ∧ (press t h.p.val).slot = (press s h.p.val).slot + 1 ∧
        ∀ j, Selects s h j → Delivers t h.p.val ((press s h.p.val).slot + 4) (.v j d.val (f j))) ∧
  (∀ (x : Press) (t : Nat),
      (∀ e, e ∈ (commitPend x t).pend ↔ e ∈ x.pend ∧ t < e.1) ∧
      ((∀ e ∈ x.pend, t < e.1) → commitPend x t = x) ∧
      (∀ j r w, j < 34 → r < 16 → x.pend = [(t, .v j r w)] →
        ((commitPend x t).lanes.getD j Lane.reset).v.getD r 0 = w))

/-- A float instruction delivers its result to VD in every selected lane entry, visible four slots later, and a compute lane whose
result carries NAN or INF has that sticky flag set. -/
def Obligations.PressFloatResults : Prop :=
  ∀ (i : Instr) (s : State) (h : Issue) (d : Fin 16) (f : (Fin 16 → Word) → FR),
    floatOf i = some (h, d, f) → Issues s i h →
    ∃ t, exec i s = .next t ∧ (press t h.p.val).slot = (press s h.p.val).slot + 1 ∧
      ∀ j, Selects s h j →
        let r := f (vreg (readyPress s h.p.val) h.p.val j)
        Delivers t h.p.val ((press s h.p.val).slot + 4) (.v j d.val r.w) ∧
        (j < 32 → r.nan = true → wbit (getR t (R.FLAG_NAN h.p.val)) j = true) ∧
        (j < 32 → r.inf = true → wbit (getR t (R.FLAG_INF h.p.val)) j = true)

/-- `LDD` delivers the sample at the tap of its compute lane in every selected lane of its group, a check lane the one its compute lane
reads; a selected lane outside the group gets nothing. -/
def Obligations.PressDelayRead : Prop :=
  ∀ (s : State) (h : Issue) (d tr : Fin 16) (lg : Fin 4) (pk : Bool) (rs : BitVec 5) (rb : BitVec 22),
    Issues s (.ldd h d tr lg pk rs rb) h →
    let r := readyPress s h.p.val
    let p := h.p.val
    ∃ t, exec (.ldd h d tr lg pk rs rb) s = .next t ∧
      (∀ j, Selects s h j → laneNo s p j / 8 = lg.val →
        Delivers t p ((press s p).slot + 4) (.v j d.val (delaySample r p (press s p).slot pk
          (delayAddr pk rs rb (laneNo s p j % 8) (delayPos r p rs (vreg r p (laneNo s p j) tr)))))) ∧
      (∀ j w, laneNo s p j / 8 ≠ lg.val → Delivers t p ((press s p).slot + 4) (.v j d.val w) →
        Delivers r p ((press s p).slot + 4) (.v j d.val w))

/-- The pointer instructions give a selected lane entry its new pointer, visible four slots later, and so does the post-modify of
`LD` and `ST`; `MSET`, `MLOG` and `FCMP` write a mask register the same way, `FCMP` only the bits of its effective mask, from the
comparison in each lane. -/
def Obligations.PressPointersAndMasks : Prop :=
  (∀ (s : State) (h : Issue) (a : Fin 16) (n : Fin 8) (m : Fin 4) (base v : BitVec 15) (len ofs : BitVec 16) (cptr : BitVec 11)
      (cofs : BitVec 12) (disp : BitVec 8),
      let r := readyPress s h.p.val
      let p := h.p.val
      let due := (press s p).slot + 4
      let moved := fun j =>
        let x := (lane r p j).ps.getD n.val PtrSet.reset
        Wr.ptr j n.val (BitVec.ofNat 15 (ringAddr x x.ofs.toInt))
      let gives := fun (i : Instr) (f : Nat → Wr) =>
        Issues s i h → ∃ t, exec i s = .next t ∧ ∀ j, Selects s h j → Delivers t p due (f j)
      gives (.pset h n base len ofs) (fun j => .pset j n.val ⟨base, base, len, ofs⟩) ∧
      gives (.ppos h n v) (fun j => .ptr j n.val v) ∧
      gives (.cset h m cptr cofs) (fun j => .cset j m.val ⟨cptr, cofs⟩) ∧
      gives (.ld h a n disp true) moved ∧ gives (.st h a n disp true) moved) ∧
  (∀ (s : State) (h : Issue) (pd pa pb : Fin 4) (a b : Fin 16) (imm : Word) (op : LogOp) (rel : Rel),
      let r := readyPress s h.p.val
      let p := h.p.val
      let due := (press s p).slot + 4
      (Issues s (.mset h pd imm) h → ∃ t, exec (.mset h pd imm) s = .next t ∧ Delivers t p due (.mask pd.val imm 0xFFFFFFFF)) ∧
      (Issues s (.mlog h pd pa pb op) h → ∃ t, exec (.mlog h pd pa pb op) s = .next t ∧
        Delivers t p due (.mask pd.val (logOp op ((press r p).masks.getD pa.val 0) ((press r p).masks.getD pb.val 0)) 0xFFFFFFFF)) ∧
      (Issues s (.fcmp h pd a b rel) h →
        ∃ t bits, exec (.fcmp h pd a b rel) s = .next t ∧ Delivers t p due (.mask pd.val bits (effMask r h)) ∧
          ∀ j, j < 32 → wbit bits j = (fcmp rel (vreg r p j a) (vreg r p j b)).1))

/-- `SRINIT`, `MINX` and `MAXX` in a selected lane entry: the search register takes the new extreme at once and its readers see it
four slots later; a value that is not better leaves it, and a NaN leaves it and sets the sticky flag. `XRED` gives the extreme of the
selected compute lanes to every selected lane entry: usable five slots later, readable nine. -/
def Obligations.PressSearch : Prop :=
  (∀ (s : State) (h : Issue) (minimum maximum : Bool) (x : XOp) (imm : BitVec 16) (istep lstep : BitVec 6) (j : Nat),
      Selects s h j →
      let r := readyPress s h.p.val
      let p := h.p.val
      let slot := (press s p).slot
      let v := xValue r h slot j (laneNo s p j) x
      let i := if maximum then Instr.maxx h x imm istep lstep else Instr.minx h x imm istep lstep
      let better := if maximum then orderKey (lane r p j).srch.value < orderKey (canon v)
        else orderKey (canon v) < orderKey (lane r p j).srch.value
      let found : Srch := ⟨canon v, BitVec.ofNat 16 (imm.toNat + iterNo s p * istep.toNat + laneNo s p j * lstep.toNat)⟩
      (Issues s (.srinit h minimum) h → ∃ t, exec (.srinit h minimum) s = .next t ∧
        (lane t p j).srch = ⟨if minimum then 0x7F800000 else 0xFF800000, 0xFFFF⟩ ∧
        Delivers t p (slot + 4) (.srchVis j ⟨if minimum then 0x7F800000 else 0xFF800000, 0xFFFF⟩)) ∧
      (Issues s i h → ∃ t, exec i s = .next t ∧
        (isNan v = false → better → (lane t p j).srch = found ∧ Delivers t p (slot + 4) (.srchVis j found)) ∧
        (isNan v = false → ¬ better → (lane t p j).srch = (lane r p j).srch) ∧
        (isNan v = true → (lane t p j).srch = (lane r p j).srch ∧ (j < 32 → wbit (getR t (R.FLAG_NAN p)) j = true)))) ∧
  (∀ (s : State) (h : Issue) (minimum : Bool) (x : Srch), Issues s (.xred h minimum) h →
      let r := readyPress s h.p.val
      let p := h.p.val
      reduceSearch r p (effMask r h) minimum = some x →
      ∃ t, exec (.xred h minimum) s = .next t ∧ ∀ j, Selects s h j →
        Delivers t p ((press s p).slot + 5) (.srch j x) ∧ Delivers t p ((press s p).slot + 9) (.srchVis j x))

/-- An accumulate adds its term to the accumulator of every selected lane entry at once, and `ARD` and `NORM` see the new value four
slots later; `ACLR` and `AINS` write the accumulator the same way. -/
def Obligations.PressAccumulators : Prop :=
  (∀ (i : Instr) (s : State) (h : Issue) (la : Fin 4) (f : Nat → Ex),
    termOf (readyPress s h.p.val) i = some (h, la, f) → Issues s i h →
    ∃ t, exec i s = .next t ∧ ∀ j, Selects s h j →
      let y := (accAdd (laNow (readyPress s h.p.val) h.p.val j la) (f j)).1
      laNow t h.p.val j la = y ∧ Delivers t h.p.val ((press s h.p.val).slot + 4) (.laVis j la.val y)) ∧
  (∀ (s : State) (h : Issue) (la seg : Fin 4) (a b : Fin 16),
    let r := readyPress s h.p.val
    let p := h.p.val
    let due := (press s p).slot + 4
    (Issues s (.aclr h la) h → ∃ t, exec (.aclr h la) s = .next t ∧ ∀ j, Selects s h j →
      laNow t p j la = Acc.reset ∧ Delivers t p due (.laVis j la.val Acc.reset)) ∧
    (Issues s (.ains h la seg a b) h → ∃ t, exec (.ains h la seg a b) s = .next t ∧ ∀ j, Selects s h j →
      let y := accIns (laNow r p j la) seg.val (vreg r p j a) (vreg r p j b)
      laNow t p j la = y ∧ Delivers t p due (.laVis j la.val y)))

/-- The stores: `ST` writes its own lane's state memory four slots later, `STX` the exchange forty-eight slots later, `STD` the delay
memory and `STM` the meter memory at the addresses their operands give. A press that is muted or under test stores nothing to the
exchange, a press under test nothing to delay and meter memory, and in a restrike window `STX`, `STD` and `STM` leave exchange, delay
and meter memory alone. -/
def Obligations.PressStores : Prop :=
  ∀ (s : State) (h : Issue) (a tr : Fin 16) (n : Fin 8) (disp : BitVec 8) (pm vec pk srch : Bool) (l : Fin 32) (xa ma : BitVec 14)
    (lg : Fin 4) (rs : BitVec 5) (rb : BitVec 22),
    let r := readyPress s h.p.val
    let p := h.p.val
    let slot := (press s p).slot
    let ls := storeLanes (effMask r h) vec l
    let open_ := inWindow s p = false ∧ pressTested s p = false
    let addr := fun (j : Nat) => (delayAddr pk rs rb (j % 8) (delayPos r p rs (vreg r p j tr))).1
    (Issues s (.st h a n disp pm) h → ∃ t, exec (.st h a n disp pm) s = .next t ∧ ∀ j, Selects s h j → j < 32 →
      Delivers t p (slot + 4) (.st j (stateAddr r p j n.val disp) (vreg r p j a))) ∧
    (Issues s (.stx h a vec l xa) h → ∃ t, exec (.stx h a vec l xa) s = .next t ∧
      (inWindow s p = false → silent s p = false → ∀ j ∈ ls,
        (slot + 48, xa.toNat + (if vec then j else 0), vreg r p j a) ∈ (press t p).stx) ∧
      (inWindow s p = true ∨ silent s p = true → (press t p).stx = (press s p).stx)) ∧
    (Issues s (.std h a tr lg pk rs rb) h → ∃ t, exec (.std h a tr lg pk rs rb) s = .next t ∧
      (open_ → pk = false → ∀ j ∈ groupLanes (effMask r h) lg, (⟨slot, p, addr j, 15, vreg r p j a⟩ : DWr) ∈ t.dsp.dly) ∧
      (open_ → ∀ j ∈ groupLanes (effMask r h) lg, ∃ x ∈ t.dsp.dly, x.slot = slot ∧ x.press = p ∧ x.addr = addr j) ∧
      (¬ open_ → t.dsp.dly = s.dsp.dly)) ∧
    (Issues s (.stm h a vec l srch ma) h → ∃ t, exec (.stm h a vec l srch ma) s = .next t ∧
      (open_ → srch = false → ∀ j ∈ ls,
        (⟨slot, p, (ma.toNat + (if vec then j else 0)) % 16384, vreg r p j a⟩ : MWr) ∈ t.dsp.mtr) ∧
      (open_ → srch = true → ∀ j ∈ ls,
        (⟨slot, p, (ma.toNat + 2 * (if vec then j else 0)) % 16384, (lane r p j).srchVis.value⟩ : MWr) ∈ t.dsp.mtr) ∧
      (¬ open_ → t.dsp.mtr = s.dsp.mtr))

/-- `NOP`, `REP` and `END` only take their slot. The program of a repeat block issues `REP`, its body COUNT times and `END`, a slot each,
and `NOP` after its end; the body's instructions know the iteration. An instruction that its press does not fetch next has no effect: a
gated press and a press whose sp has no slot left issue none. -/
def Obligations.PressControl : Prop :=
  (∀ (s : State) (h : Issue) (count : BitVec 16) (i : Instr), i = .nop h ∨ i = .rep h count ∨ i = .repEnd h → Issues s i h →
      let r := readyPress s h.p.val
      exec i s = .next (setPress r h.p.val { press r h.p.val with slot := (press r h.p.val).slot + 1 })) ∧
  (∀ (c : Nat) (b e : BitVec 64) (body : List (BitVec 64)) (k : Nat), c < 65536 → opOf b = 0x0B → ifld b 15 0 = c → opOf e = 0x0C →
      (∀ w ∈ body, opOf w ≠ 0x0B ∧ opOf w ≠ 0x0C) →
      let n := body.length
      programAt (b :: body ++ [e]) k =
        if k = 0 then ⟨0, b, 0⟩
        else if k ≤ c * n then ⟨1 + (k - 1) % n, body.getD ((k - 1) % n) 0, (k - 1) / n⟩
        else if k = c * n + 1 then ⟨n + 1, e, 0⟩
        else ⟨n + 2, 0, 0⟩) ∧
  (∀ (i : Instr) (s : State) (h : Issue), issueOf i = some h → (∀ w, encode i = some w → canIssue s h.p.val w = false) →
      exec i s = .next s) ∧
  (∀ (s : State) (p : Fin 4) (w : BitVec 64), 10240 ≤ (press s p.val).slot ∨ pressPowered s p.val = false → canIssue s p.val w = false)

/-- R119. `EXPX` delivers the exponent of its operand: e − 127 for a normal value, −127 for a zero or a subnormal, 128 for an infinity
or a NaN, as a signed integer in every selected lane entry, visible four slots later; it sets no flag. -/
def Obligations.ExponentInstruction : Prop :=
  ∀ (s : State) (h : Issue) (d a : Fin 16), Issues s (.expx h d a) h →
    ∃ t, exec (.expx h d a) s = .next t ∧
      (∀ f : LFlag, getR t (f.reg h.p.val) = getR s (f.reg h.p.val)) ∧ (press t h.p.val).checkFlags = (press s h.p.val).checkFlags ∧
      ∀ j, Selects s h j →
        let e : Nat := (vreg (readyPress s h.p.val) h.p.val j a).toNat / 2 ^ 23 % 256
        let gives := fun (x : Int) => Delivers t h.p.val ((press s h.p.val).slot + 4) (.v j d.val (BitVec.ofInt 32 x))
        (0 < e → e < 255 → gives ((e : Int) - 127)) ∧ (e = 0 → gives (-127)) ∧ (e = 255 → gives 128)

/-- What an instruction leaves alone: the other presses, the exchange, delay and meter memories themselves, every register but its
press's lane flags, its status, captures and counters of upsets, and the reporting ones, and every unit outside the presses; the delay
writes grow only with `STD`, the meter writes only with `STM`. -/
def Obligations.PressFrame : Prop :=
  ∀ (i : Instr) (s t : State) (h : Issue), issueOf i = some h → h.upsets = [] → exec i s = .next t →
    (∀ q : Fin 4, q ≠ h.p → press t q.val = press s q.val) ∧
    t.dsp.exIn = s.dsp.exIn ∧ t.dsp.exPrev = s.dsp.exPrev ∧ t.dsp.exPress = s.dsp.exPress ∧ t.dsp.staging = s.dsp.staging ∧
    t.dsp.delay = s.dsp.delay ∧ t.dsp.meter = s.dsp.meter ∧ t.dsp.issueBank = s.dsp.issueBank ∧
    (press t h.p.val).coef = (press s h.p.val).coef ∧ (press t h.p.val).prog = (press s h.p.val).prog ∧
    ((∀ h a tr lg pk rs rb, i ≠ .std h a tr lg pk rs rb) → t.dsp.dly = s.dsp.dly) ∧
    ((∀ h a v l sr m, i ≠ .stm h a v l sr m) → t.dsp.mtr = s.dsp.mtr) ∧
    (∀ o, reports o = false → upsetReg h.p.val o = false → (∀ f : LFlag, o ≠ f.reg h.p.val) → getR t o = getR s o) ∧
    t.sctr = s.sctr ∧ t.cp = s.cp ∧ t.clock = s.clock ∧ t.eng = s.eng ∧ t.net = s.net ∧ t.sec = s.sec ∧ t.pm = s.pm ∧
    t.sap = s.sap ∧ t.conv = s.conv ∧ t.paired = s.paired ∧ t.psc = s.psc ∧ t.pair = s.pair ∧ t.wit = s.wit ∧ t.tw = s.tw ∧
    { t.rs with acc := s.rs.acc, mismTotal := s.rs.mismTotal, eccAt := s.rs.eccAt } = s.rs

/-! ### Press arithmetic -/

/-- The classes and the delivery rule agree: a normal number, a zero or an infinity is delivered bit for bit, a subnormal as the zero
of its sign, and a NaN as the canonical NaN. A NaN operand gives the canonical NaN and the NAN flag; sums and products do not depend
on the order of their operands. -/
def Obligations.PressArithmetic : Prop :=
  (∀ w : Word,
      (isNan w = true → canon w = 0x7FC00000) ∧
      (w &&& 0x7F800000 = 0 → canon w = w &&& 0x80000000) ∧
      (isNan w = false → w &&& 0x7F800000 ≠ 0 → canon w = w)) ∧
  (∀ a b c : Word,
      (isNan a = true ∨ isNan b = true → fadd a b = ⟨0x7FC00000, true, false⟩ ∧ fsub a b = ⟨0x7FC00000, true, false⟩ ∧
        fmul a b = ⟨0x7FC00000, true, false⟩ ∧ ffma a b c = ⟨0x7FC00000, true, false⟩ ∧
        fminmax false a b = ⟨0x7FC00000, true, false⟩ ∧ fminmax true a b = ⟨0x7FC00000, true, false⟩) ∧
      fadd a b = fadd b a ∧ fmul a b = fmul b a ∧ ffma a b c = ffma b a c)

/-- The check lanes and the memory codes at an instruction's issue. Two lane entries that formed the same words and addresses give no
difference; where an element of a check lane differs, it is counted once, and the first of them shows in `PRESS_STAT` with its capture.
A word with one bad bit is read as stored and counted, and its mark goes; one with two bad bits is delivered as +0.0 and faults the
press; an instruction word that cannot be read has no effect of its own. -/
def Obligations.PressUpsets : Prop :=
  (∀ (s : State) (p : Fin 4) (t c e : Nat), c < 2 → e < 10 →
    let u := checkMismatch s p.val t c e
    getR u (R.MISM_CNT p.val) = satAdd (getR s (R.MISM_CNT p.val)) 1 ∧ getF u (F.PRESS_STAT_MISMATCH p.val) = 1 ∧
    getF u (F.PRESS_STAT_FAULTED p.val) = 1 ∧
    (getF s (F.PRESS_STAT_MISMATCH p.val) = 1 → getR u (R.MISM_INFO p.val) = getR s (R.MISM_INFO p.val)) ∧
    (getF s (F.PRESS_STAT_MISMATCH p.val) = 0 → getF u (F.MISM_INFO_ELEMENT p.val) = e)) ∧
  (∀ (s : State) (p t : Nat),
    (∀ c e, c < 2 → e < 10 → seenBy (press s p).trace (32 + c) e = seenBy (press s p).trace (laneNo s p (32 + c)) e) →
    compareLanes s p t = s) ∧
  (∀ (s : State) (f : BitVec 16) (p : Fin 4) (m : Fin 3) (k : Nat) (scrub : Bool),
    let t := eccCheck s f p.val m.val k scrub
    (markOf (press s p.val) m.val k = none → t = s) ∧
    (markOf (press s p.val) m.val k = some false → getR t (R.ECC_CORR_CNT p.val) = satAdd (getR s (R.ECC_CORR_CNT p.val)) 1 ∧
      markOf (press t p.val) m.val k = none) ∧
    (markOf (press s p.val) m.val k = some true →
      getF t (F.PRESS_STAT_ECC_UNC p.val) = 1 ∧ getF t (F.PRESS_STAT_FAULTED p.val) = 1 ∧
      ∀ w, delivered (press s p.val) m.val k w = 0)) ∧
  (∀ (i : Instr) (s : State) (h : Issue) (w : BitVec 64), issueOf i = some h → encode i = some w → canIssue s h.p.val w = true →
    h.upsets = [] → badFetch s h.p.val = true →
    ∃ t, exec i s = .next t ∧ (press t h.p.val).slot = (press s h.p.val).slot + 1 ∧
      (press t h.p.val).pend = (press (readyPress s h.p.val) h.p.val).pend ∧ getF t (F.PRESS_STAT_FAULTED h.p.val) = 1)

/-! ### Plates, the engine and live change -/

/-- The plate commands: `PLATE_LOAD` makes its bank LOADING and the loader busy, `PLATE_ARM` ARMING, `PLATE_DISARM` returns an armed
bank to LOADED, `PLATE_INFO` answers the bank's state and hash. Each is refused with the code and detail of its first failing check. -/
def Obligations.PlateCommands : Prop :=
  ∀ (s : State) (c : Fin 8),
    let b := arg s c 0 1
    (Served s c 0x0601 (· == 16) → ∃ t, exec (.plateLoad c) s = .next t ∧
      (∀ r, loadRefusal s (reqOf s c).payload = some r → AnsweredRefused s t c r.1 r.2 ∧ t.eng = s.eng) ∧
      (loadRefusal s (reqOf s c).payload = none → Waits t c ∧ bankState t b = bkLoading ∧ isF t F.ENG_BANK_STAT_BUSY = true ∧
        getR t (R.PLATE_HASH b) = 0 ∧ t.eng.load = some ⟨b, arg s c 1 1, arg s c 4 4, arg s c 8 8, c.val⟩)) ∧
    (Served s c 0x0602 (· == 2) → ∃ t, exec (.plateArm c) s = .next t ∧
      (1 < b → AnsweredRefused s t c 0x062C b) ∧
      (b ≤ 1 → bankState s b ≠ bkLoaded → AnsweredRefused s t c 0x0610 (bankState s b) ∧ t.eng = s.eng) ∧
      (b ≤ 1 → bankState s b = bkLoaded → isF s F.ENG_BANK_STAT_BUSY = true → AnsweredRefused s t c 0x062A 0 ∧ t.eng = s.eng) ∧
      (b ≤ 1 → bankState s b = bkLoaded → isF s F.ENG_BANK_STAT_BUSY = false → Waits t c ∧ bankState t b = bkArming ∧
        isF t F.ENG_BANK_STAT_BUSY = true ∧ t.eng.arm = some ⟨b, arg s c 1 1 % 2 == 1, c.val⟩)) ∧
    (Served s c 0x0603 (· == 1) → ∃ t, exec (.plateDisarm c) s = .next t ∧ t.eng = s.eng ∧
      let busy := (swapState s = 1 ∧ swapBank s = b) ∨ s.eng.starting = true
      (1 < b → AnsweredRefused s t c 0x062C b) ∧
      (b ≤ 1 → bankState s b ≠ bkArmed → AnsweredRefused s t c 0x0610 (bankState s b)) ∧
      (b ≤ 1 → bankState s b = bkArmed → busy → AnsweredRefused s t c 0x0637 0 ∧ bankState t b = bkArmed) ∧
      (b ≤ 1 → bankState s b = bkArmed → ¬ busy → AnsweredOk s t c [] ∧ bankState t b = bkLoaded)) ∧
    (Served s c 0x0604 (· == 1) → ∃ t, exec (.plateInfo c) s = .next t ∧ t.eng = s.eng ∧
      (1 < b → AnsweredRefused s t c 0x062C b) ∧
      (b ≤ 1 → ∃ data, AnsweredOk s t c data ∧ data.take 1 = le 1 (bankState s b) ∧
        (data.drop 4).take 4 = le 4 (getR s (R.PLATE_HASH b)).toNat))

/-- The end of a load and of an arm: a plate that passes every check fills its bank and shows its hash; one that fails leaves it EMPTY
with a sticky fault; an arm ends ARMED, or LOADED with the failing check. The waiting channel gets its answer. -/
def Obligations.LoadsAndArmsEnd : Prop :=
  ∀ (s : State) (data : List Byte),
    (∀ j, s.eng.load = some j → j.bank < 2 →
      let d := loadBytes s j data
      (plateFault d j.len none = none → ∃ t, exec (.plateLoaded data) s = .next t ∧ bankState t j.bank = bkLoaded ∧
        isF t F.ENG_BANK_STAT_BUSY = false ∧ getR t (R.PLATE_HASH j.bank) = BitVec.ofNat 32 (leAt d (j.len - 4) 4) ∧
        bankRec t j.bank = bankOf d ∧ t.eng.load = none ∧ AnswersWaiting s t j.ch 0 0 0 []) ∧
      (∀ err r, plateFault d j.len err = some r → ∃ t, exec (.plateLoadFailed data err) s = .next t ∧
        bankState t j.bank = bkEmpty ∧ isF t F.ENG_BANK_STAT_BUSY = false ∧ bankRec t j.bank = Bank.reset ∧ t.eng.load = none ∧
        Sticky t 6 9 ∧ AnswersWaiting s t j.ch 1 r.1 r.2 [])) ∧
    (∀ j, s.eng.arm = some j → j.bank < 2 → ∃ t, exec .plateArmed s = .next t ∧ t.eng.arm = none ∧
      isF t F.ENG_BANK_STAT_BUSY = false ∧
      (armFault s j.bank j.force = none → bankState t j.bank = bkArmed ∧ AnswersWaiting s t j.ch 0 0 0 []) ∧
      (∀ r, armFault s j.bank j.force = some r → bankState t j.bank = bkLoaded ∧ AnswersWaiting s t j.ch 1 r.1 r.2 []))

/-- Start, stop and swap at their boundary, where nothing earlier in its order is due: the armed bank runs; a stop drops ramps, sets and
swap and disables the engine; the armed bank of a swap enters while the other leaves, and at the end of the crossfade it runs alone. -/
def Obligations.EngineBoundaries : Prop :=
  ∀ s : State,
    let b := comingBoundary s
    (upStop b = b → startDue b false = true → s.eng.startBank < 2 →
      ∃ t, exec .engineStarted s = .next t ∧ t.eng.running = true ∧ t.eng.starting = false ∧
        bankState t s.eng.startBank = bkRunning ∧
        t.eng.startBy = b.sctr.toNat ∧ t.sctr = s.sctr) ∧
    (applyChunk b = b → stopDue s = true → roleOf s ≠ roleActive →
      ∃ t, exec .engineStopped s = .next t ∧ fnState t 0x40 = fnDisabled ∧ t.eng.running = false ∧ t.eng.ramps = [] ∧
        t.eng.atomics = [] ∧ swapState t = 0 ∧ ∀ k : Fin 2, bankState t k ≤ bkLoaded ∨ bankState t k = bankState s k) ∧
    (upStop b = b → swapBeginDue b = true →
      ∃ t, exec .swapBegin s = .next t ∧ bankState t (swapBank s) = bkEntering ∧ bankState t (1 - swapBank s) = bkLeaving ∧
        swapState t = 2 ∧ getF t F.XFADE_POS_J = 0) ∧
    (upStop b = b → swapDoneDue b = true →
      ∃ t, exec .swapDone s = .next t ∧ bankState t (swapBank s) = bkRunning ∧ bankState t (1 - swapBank s) = bkLoaded ∧
        swapState t = 0 ∧
        (bankRec t (swapBank s)).edges = (clearGhosts (bankRec s (swapBank s))).edges ∧
        ∀ c ∈ (bankRec t (swapBank s)).edges, edgeGhost c.2 = false)

/-- Live change at its boundary, where nothing earlier in the order of R18 is due: one atomic set, one direct write and one restrike
chunk put their words into the issuing bank; the paired quantities due are applied; a cancelled ramp goes, a ramp starts from its word,
its last step writes its value, and a restrike's ramp set replaces the ramps. -/
def Obligations.LiveUpdates : Prop :=
  ∀ s : State,
    let b := comingBoundary s
    (∀ i x, upBanks b = b → nextAtomic b = some i → s.eng.atomics[i]? = some x →
      ∃ t, exec .atomicSetApply s = .next t ∧ t.eng.atomics = s.eng.atomics.eraseIdx i ∧
        (∀ (p : Fin 4) a w k, x.words = [(.word p.val a, w)] → issuingBank s = some k → coefAt t k p.val a = w)) ∧
    (∀ i x, upPaired b = b → nextDirect b = some i → s.eng.dws[i]? = some x → x.edge = false →
      ∃ t, exec .directWriteApply s = .next t ∧ t.eng.dws = s.eng.dws.eraseIdx i ∧
        coefAt t (x.id / 65536 % 2) (x.id / 131072 % 4) (x.id % 65536) = x.w ∧
        getR t R.DW_APPLIED = satAdd (getR s R.DW_APPLIED) 1 ∧ getR t R.DW_LAST_SCTR = b.sctr.setWidth 32) ∧
    (upAtomics b = b → pqDue b = true →
      ∃ t, exec .pairedQuantityApply s = .next t ∧ t.paired.doneTo = b.sctr.toNat ∧ (∀ x ∈ t.paired.own, setAt b < x.1) ∧
        (roleOf s = roleStandby → (∀ g ∈ s.paired.got, g.n ≠ setAt b) →
          getR t R.PQ_LATE = satAdd (getR s R.PQ_LATE) 1 ∧ getR t R.PAIR_AGREE = 0 ∧ Sticky t 8 3) ∧
        (∀ o w k, s.paired.own = [(setAt b, .direct false o w k)] → s.paired.got = [] →
          t.eng.dws = s.eng.dws ++ [⟨false, o.toNat / 4, w, b.sctr.toNat⟩])) ∧
    (upDirects b = b → s.eng.ramps.any (cancelDue b) = true →
      ∃ t, exec .rampCancelApply s = .next t ∧ t.eng.ramps = s.eng.ramps.filter (fun r => !cancelDue b r)) ∧
    (∀ d, upCancels b = b → rampSetDue b = some d →
      ∃ t, exec .rampSetApply s = .next t ∧ t.rs.ramps = none ∧ rsState t = (if issuingGroups s = [] then 5 else 4) ∧
        t.eng.ramps = ((List.range (d.length / 24)).map (fun i => rampOf ((d.drop (24 * i)).take 24) b.sctr.toNat)).filter
          (fun r => r.start.isNone || decide (r.k < r.n))) ∧
    (∀ r, upRampSet b = b → s.eng.ramps = [r] → installDue b r = true →
      ∃ t v, exec .rampInstall s = .next t ∧ t.eng.ramps = [{ r with start := some v, k := 0 }] ∧
        (r.edge = true → v = (edgeRead s r.id).2) ∧
        (∀ k, r.edge = false → issuingBank s = some k → v = (coefRead s k r.press r.id).2)) ∧
    (∀ r v k, upRamps b = b → s.eng.ramps = [r] → r.start = some v → r.n ≤ r.k + 1 → r.edge = false → issuingBank s = some k →
      r.press < 4 →
      ∃ t, exec (.rampDone 0) s = .next t ∧ t.eng.ramps = [] ∧
        coefAt t k r.press r.id = rampValue r.db v r.target (r.k + 1) r.n) ∧
    (∀ d k, chunkDue b = some d → issuingBank s = some k →
      let p := (chunkPlace s s.rs.q).1
      let a := (chunkPlace s s.rs.q).2
      ∃ t, exec .coefficientChunkApply s = .next t ∧ t.rs.q = s.rs.q + 1 ∧
        ∀ i, i < 256 → wroteSince b (k * 262144 + p * 65536 + a + i) (s.rs.c0 + s.rs.q) = false →
          coefAt t k p (a + i) = BitVec.ofNat 32 (leAt d (4 * i) 4))

/-- The commands of live change. A `SWAP` accepted is pending for its boundary with its length; `RAMP_START` appends the last entry on
each word, `RAMP_CANCEL` marks the ramps it names, `PARAM_SET_ATOMIC` holds its words; each is refused with its check's code and
detail. -/
def Obligations.LiveCommands : Prop :=
  ∀ (s : State) (c : Fin 8),
    let q := reqOf s c
    let next := arg s c 1 1 % 2 == 1
    (Served s c 0x0605 (· == 12) → ∃ t, exec (.swap c) s = .next t ∧
      (∀ r, swapRefusal s q = some r → AnsweredRefused s t c r.1 r.2 ∧ swapState t = swapState s) ∧
      (∀ b, swapRefusal s q = none → timedOrNext s q next = some b → AnsweredOk s t c (le 8 b) ∧ swapState t = 1 ∧
        swapBank t = arg s c 0 1 ∧ swapAt t = b % 2 ^ 64 ∧ (arg s c 4 2 ≠ 0 → getF t F.SWAP_STAT_L = arg s c 4 2))) ∧
    (Served s c 0x0607 (fun n => n == 16 + 16 * arg s c 0 1) → ∃ t, exec (.rampStart c) s = .next t ∧
      (∀ r, rampRefusal s q = some r → AnsweredRefused s t c r.1 r.2 ∧ t.eng = s.eng) ∧
      (∀ b, rampRefusal s q = none → timedOrNext s q next = some b →
        let l := lastOnWord s ((List.range (arg s c 0 1)).map (fun i => rampEntry q.payload i b))
        t.eng.ramps = s.eng.ramps ++ l ∧ ∃ data, AnsweredOk s t c data ∧ data.take 2 = le 2 l.length ∧ data.drop 4 = le 8 b)) ∧
    (Served s c 0x0608 (fun n => n == 4 + 2 * arg s c 0 1) → ∃ t, exec (.rampCancel c) s = .next t ∧
      (∀ i, cancelRefusal q.payload = some i → AnsweredRefused s t c 0x063C i ∧ t.eng = s.eng) ∧
      (cancelRefusal q.payload = none →
        let hit := fun (r : Ramp) => cancelNames q.payload r && r.cancelAt.isNone
        AnsweredOk s t c (le 2 (s.eng.ramps.filter hit).length) ∧ t.eng.ramps.length = s.eng.ramps.length ∧
          ∀ (i : Nat) (r : Ramp), s.eng.ramps[i]? = some r →
            t.eng.ramps[i]? = some (if hit r then { r with cancelAt := some (s.sctr.toNat + 2) } else r))) ∧
    (Served s c 0x0609 (fun n => n == 4 + 6 * arg s c 0 1) → ∃ t, exec (.paramSetAtomic c) s = .next t ∧
      (∀ r, atomicRefusal s q = some r → AnsweredRefused s t c r.1 r.2 ∧ t.eng = s.eng) ∧
      (∀ b, atomicRefusal s q = none → timedAt s q = some b → AnsweredOk s t c [] ∧
        t.eng.atomics = s.eng.atomics ++ [⟨b, atomicWords q.payload⟩]))

/-- R173. `SWAP_CANCEL` returns a PENDING swap to IDLE while at least 2 sp remain, and the banks stay as they are; it is refused when no
swap is pending, and when its boundary is less than 2 sp away. -/
def Obligations.SwapCancel : Prop :=
  ∀ (s : State) (c : Fin 8), Served s c 0x0606 (· == 0) →
    ∃ t, exec (.swapCancel c) s = .next t ∧ t.eng = s.eng ∧ t.dsp = s.dsp ∧ (∀ k, bankState t k = bankState s k) ∧
      (swapState s ≠ 1 → (∃ d, AnsweredRefused s t c 0x0638 d) ∧ swapState t = swapState s) ∧
      (swapState s = 1 → swapAt s < s.sctr.toNat + 2 → (∃ d, AnsweredRefused s t c 0x0639 d) ∧ swapState t = 1) ∧
      (swapState s = 1 → s.sctr.toNat + 2 ≤ swapAt s → AnsweredOk s t c [] ∧ swapState t = 0)

/-- Writes to the coefficient windows: locked they are dropped and counted; in an unpaired role an idle bank takes the word at once and
an issuing bank, like an edge, at the boundary that R187 gives; on an ACTIVE the pair decides it; on a STANDBY it is dropped. -/
def Obligations.WindowWrites : Prop :=
  ∀ (s : State) (bank : Fin 2) (p : Fin 4) (a : BitVec 16) (e : BitVec 14) (w : Word) (cyc : Fin 10240),
    let drop := fun (t : State) (o : Nat) => getR t o = satAdd (getR s o) 1 ∧ t.eng = s.eng ∧ t.dsp = s.dsp ∧ t.paired = s.paired
    let id := p.val * 131072 + bank.val * 65536 + a.toNat
    (∃ t, exec (.rawWindowWrite bank p a w cyc) s = .next t ∧
      (isF s F.DW_CTL_RAW_EN = false → drop t R.DW_LOCK_DROP) ∧
      (isF s F.DW_CTL_RAW_EN = true →
        (bankState s bank = bkLoaded ∨ bankState s bank = bkArmed → unpaired s = true → coefAt t bank p a.toNat = w) ∧
        (bankState s bank < bkRunning → unpaired s = false → drop t R.RAW_IDLE_DROP) ∧
        (bkRunning ≤ bankState s bank →
          (unpaired s = true → t.eng.dws = s.eng.dws ++ [⟨false, id, w, directDue s cyc 1⟩]) ∧
          (roleOf s = roleStandby → drop t R.DW_STBY_DROP ∧ Sticky t 6 12)))) ∧
    (∃ t, exec (.edgeWindowWrite e w cyc) s = .next t ∧
      (isF s F.DW_CTL_EDGE_EN = false → drop t R.DW_LOCK_DROP) ∧
      (isF s F.DW_CTL_EDGE_EN = true →
        (unpaired s = true → t.eng.dws = s.eng.dws ++ [⟨true, e.toNat, w, directDue s cyc 2⟩]) ∧
        (roleOf s = roleStandby → drop t R.DW_STBY_DROP ∧ Sticky t 6 12) ∧
        (roleOf s = roleActive → ∃ k, t.paired.own = s.paired.own ++
          [(directDue s cyc 2, .direct true (BitVec.ofNat 24 (0x400000 + 4 * e.toNat)) w k)])))

/-! ### Ethernet ports and media flows -/

/-- Links and pause. A link comes up with the configured speed and no fault shown; it goes down with its queues flushed, its drops
counted, no pause and a sticky fault. A pause frame that passes the checks of its length and coding pauses the port for its quanta, one
of 0 ends the pause; one that is too short, too long or bad is counted by its check and pauses nothing; when the timer runs out none is
left.
The commands set a wake pattern and restart auto-negotiation. -/
def Obligations.EthernetLinks : Prop :=
  ∀ (s : State) (p : Fin 4) (c : Fin 8),
    let f := p.val + 1
    (ethOn s p = true → isF s (F.ETH_STAT_LINK p) = false →
      ∃ t, exec (.ethLinkUp p) s = .next t ∧ isF t (F.ETH_STAT_LINK p) = true ∧
        getF t (F.ETH_STAT_SPEED_ACT p) = getF s (F.ETH_CFG_SPEED f) % 4 ∧ isF t (F.ETH_STAT_FEC_ACT p) = isF s (F.ETH_CFG_RS_FEC f) ∧
        isF t (F.ETH_STAT_AN_DONE p) = isF s (F.ETH_CFG_AN f) ∧ isF t (F.ETH_STAT_REMOTE_FAULT p) = false ∧
        isF t (F.ETH_STAT_LOCAL_FAULT p) = false ∧ t.net = s.net) ∧
    (ethUp s p = true → ∀ (r : Fin 5) (remote restart : Bool), r.val ≠ 0 →
      ∃ t, exec (.ethLinkDown p r remote restart) s = .next t ∧ isF t (F.ETH_STAT_LINK p) = false ∧ isF t (F.ETH_STAT_PAUSED p) = false ∧
        (∀ q : Fin 4, ethQueue t p q = []) ∧ getR t (R.ETH_CNT p 29) = satAdd (getR s (R.ETH_CNT p 29)) 1 ∧
        ((∀ g ∈ s.net.tx, g.held = []) →
          getR t (R.ETH_CNT p 42) = satAdd (getR s (R.ETH_CNT p 42)) (ethQueue s p 1).length) ∧
        isF t (F.ETH_STAT_REMOTE_FAULT p) = (r == 3 && remote) ∧ isF t (F.ETH_STAT_LOCAL_FAULT p) = (r == 3 && !remote) ∧
        Sticky t 2 p) ∧
    (ethUp s p = true → nodeState s ≠ nsDormant → ∀ (time : BitVec 16) (len : BitVec 14) (own bad : Bool) (cyc : Fin 10240),
      let passes := 64 ≤ len.toNat ∧ len.toNat ≤ getF s (F.ETH_CFG_MAX_FRAME f) ∧ bad = false
      ∃ t, exec (.pauseFrame p time len own bad cyc) s = .next t ∧
        (passes → getR t (R.ETH_CNT p 23) = satAdd (getR s (R.ETH_CNT p 23)) 1 ∧
          (time ≠ 0 → isF t (F.ETH_STAT_PAUSED p) = true ∧ getF t (F.ETH_PAUSE_REM_QUANTA p) = time.toNat) ∧
          (time = 0 → isF t (F.ETH_STAT_PAUSED p) = false ∧ getR t (R.ETH_CNT p 24) = satAdd (getR s (R.ETH_CNT p 24)) 1)) ∧
        (¬ passes → isF t (F.ETH_STAT_PAUSED p) = isF s (F.ETH_STAT_PAUSED p) ∧ t.net = s.net ∧
          ∀ k, 8 ≤ k → k < 48 → getR t (R.ETH_CNT p k) = getR s (R.ETH_CNT p k))) ∧
    (pauseExpires s p = true →
      ∃ t, exec (.pauseEnd p) s = .next t ∧ isF t (F.ETH_STAT_PAUSED p) = false ∧ getF t (F.ETH_PAUSE_REM_QUANTA p) = 0) ∧
    (Served s c 0x0201 (· == 148) →
      ∃ t, exec (.ethWakePattern c) s = .next t ∧
        (7 < arg s c 0 1 → AnsweredRefused s t c 0x022F 0 ∧ t.net = s.net) ∧
        (∀ k : Fin 8, arg s c 0 1 = k.val → AnsweredOk s t c [] ∧ ∀ w,
          t.net.wake.getD k w = ⟨arg s c 1 1 % 2 == 1, BitVec.ofNat 128 (arg s c 4 16), ((reqOf s c).payload.drop 20).take 128⟩ ∧
          ∀ j : Fin 8, j ≠ k → t.net.wake.getD j w = s.net.wake.getD j w)) ∧
    (Served s c 0x0202 (· == 1) →
      ∃ t, exec (.ethLinkRestart c) s = .next t ∧
        (3 < arg s c 0 1 → AnsweredRefused s t c 0x022F 0) ∧
        (arg s c 0 1 = p.val → AnsweredOk s t c [] ∧ (ethOn s p = true → isF s (F.ETH_CFG_AN f) = true →
          isF t (F.ETH_STAT_AN_DONE p) = false ∧ getR t (R.ETH_CNT p 30) = satAdd (getR s (R.ETH_CNT p 30)) 1)))

/-- Frames. A received frame is counted by the first check it fails, or as a good frame; the next frame of the highest queue leaves
complete, byte for byte but for the egress time that a Sync takes in flight, or cut where its data ran out, with a raised start threshold
and a sticky fault; a media packet past its deadline is dropped and counted. -/
def Obligations.EthernetFrames : Prop :=
  ∀ (s : State) (p : Fin 4),
    let n := fun (t : State) (k : Nat) => getR t (R.ETH_CNT p k) = satAdd (getR s (R.ETH_CNT p k)) 1
    (∀ rx : RxFrame, nodeState s ≠ nsDormant → ethUp s p = true →
      let len := rx.bytes.length + 4
      let x := rxParts rx.bytes
      let top := getF s (F.ETH_CFG_MAX_FRAME (p.val + 1)) + x.tag
      ∃ t, exec (.frameReceive p rx) s = .next t ∧
        (len < 64 → n t 5) ∧
        (64 ≤ len → rx.fifoFull = true → n t 9 ∧ Sticky t 2 (16 + p.val)) ∧
        (64 ≤ len → rx.fifoFull = false → top < len → n t 7) ∧
        (64 ≤ len → rx.fifoFull = false → len ≤ top → rx.bad = true → n t 6) ∧
        (64 ≤ len → rx.fifoFull = false → len ≤ top → rx.bad = false → n t 0 ∧
          (x.etype ≠ 0x8808 → dstAccepted s p x.dst = false → n t 10))) ∧
    (∀ (q : Nat) (f : TxFrame) (rest : List TxFrame) (cyc : Fin 10240), ethUp s p = true → nodeState s ≠ nsDormant →
      isF s (F.ETH_STAT_PAUSED p) = false →
      (∀ g ∈ ethQueue s p 1, s.sctr.toNat ≤ g.due) → sendQueue s p = some q → ethQueue s p q = f :: rest →
      (∃ t b, exec (.txFrameStart p none cyc) s = .next t ∧ t.out = s.out ++ [.frame p q b] ∧ n t 32 ∧
        (q ≠ 1 → ethQueue t p q = rest) ∧ ((∀ i, f.ptp ≠ some (i, true)) → b = f.bytes) ∧ (∀ i, f.ptp = some (i, true) → n t 39)) ∧
      (∀ k : BitVec 14, 256 * getF s (F.ETH_STAT_TX_START_CUR p) ≤ k.toNat → k.toNat < f.bytes.length + 4 →
        (∀ i, f.ptp ≠ some (i, true)) →
        ∃ t, exec (.txFrameStart p (some k) cyc) s = .next t ∧ Out.cutFrame p q (f.bytes.take k.toNat) ∈ t.out ∧ n t 40 ∧
          getF t (F.ETH_STAT_TX_START_CUR p) = min 36 (getF s (F.ETH_STAT_TX_START_CUR p) + 1) ∧ Sticky t 2 (4 + p.val))) ∧
    ((∃ f ∈ ethQueue s p 1, f.due ≤ s.sctr.toNat) →
      ∃ t, exec (.mediaLateDrop p) s = .next t ∧ n t 41 ∧ Sticky t 2 (8 + p.val))

/-- The flow commands. An accepted entry joins its table in index order and takes its pages; a removal starts its fade and answers at
its end; counters are read and cleared; the list shows the indices in use. Each is refused with the code and detail of its check. -/
def Obligations.FlowCommands : Prop :=
  ∀ (s : State) (c : Fin 8),
    let e := (reqOf s c).payload
    let i := arg s c 0 2
    (Served s c 0x0301 (· == 64) → ∃ t, exec (.rxfAdd c) s = .next t ∧
      (∀ code d, rxRefusal s e = some (code, d) → AnsweredRefused s t c code d ∧ t.net = s.net) ∧
      (rxRefusal s e = none →
        let f := { rxEntry e with pages := (rxEntry e).need }
        AnsweredOk s t c (le 2 f.pages) ∧ t.net.rx = insRx f s.net.rx ∧ t.net.tx = s.net.tx ∧
        getF t F.POOL_STAT_FREE_PAGES = getF s F.POOL_STAT_FREE_PAGES - f.pages)) ∧
    (∀ macP macS, Served s c 0x0303 (· == 64) → ∃ t, exec (.txfAdd c macP macS) s = .next t ∧
      (∀ code d, txRefusal s e (fun l => if l = 0 then macP else macS) = some (code, d) →
        AnsweredRefused s t c code d ∧ t.net.rx = s.net.rx ∧ t.net.tx = s.net.tx) ∧
      (txRefusal s e (fun l => if l = 0 then macP else macS) = none →
        let n := firstAt (s.sctr.toNat + 2) (txEntry e).p (txEntry e).ofs
        AnsweredOk s t c (le 8 n) ∧ s.sctr.toNat + 2 ≤ n ∧ n < s.sctr.toNat + 2 + (txEntry e).p ∧ n % (txEntry e).p = (txEntry e).ofs ∧
        t.net.rx = s.net.rx ∧ ∃ f, t.net.tx = insTx f s.net.tx ∧ f.idx = i ∧ f.first = n)) ∧
    (Served s c 0x0302 (· == 2) → ∃ t, exec (.rxfRemove c) s = .next t ∧
      (∀ f, i < 512 → rxFlow s i = some f → f.rm = none → Waits t c ∧
        (∃ g, rxFlow t i = some g ∧ g.rm = some (s.sctr.toNat + 2) ∧ g.rmk = 0 ∧ g.rmCh = some c.val ∧ g.due = 0) ∧
        (f.due = 0 → rxFlow t i = some { f with rm := some (s.sctr.toNat + 2), rmk := 0, rmCh := some c.val, due := 0 })) ∧
      ((∀ f, rxFlow s i = some f → f.rm.isSome = true) → AnsweredRefused s t c 0x0321 0 ∧ t.net = s.net)) ∧
    (Served s c 0x0304 (· == 2) → ∃ t, exec (.txfRemove c) s = .next t ∧
      (∀ f, i < 512 → txFlow s i = some f → f.rm = none → Waits t c ∧
        txFlow t i = some { f with rm := some ((txLast s f).getD 0), rmCh := some c.val }) ∧
      ((∀ f, txFlow s i = some f → f.rm.isSome = true) → AnsweredRefused s t c 0x0321 0 ∧ t.net = s.net)) ∧
    (Served s c 0x0305 (· == 2) → ∃ t, exec (.rxfStats c) s = .next t ∧
      (∀ f, i < 512 → rxFlow s i = some f → ∃ data, AnsweredOk s t c data ∧ data.take 16 =
        le 4 f.heldSp.toNat ++ le 4 f.holds.toNat ++ le 4 f.fades.toNat ++ le 4 f.missing.toNat ∧
        ∃ g, rxFlow t i = some g ∧ g.heldSp = 0 ∧ g.holds = 0 ∧ g.fades = 0 ∧ g.missing = 0 ∧ g.st = f.st ∧ g.buf = f.buf ∧
          ∀ l ∈ g.leg, l.received = 0 ∧ l.duplicate = 0 ∧ l.late = 0 ∧ l.early = 0) ∧
      (rxFlow s i = none → AnsweredRefused s t c 0x0321 0)) ∧
    (Served s c 0x0306 (· == 1) → ∃ t, exec (.flowList c) s = .next t ∧ t.net = s.net ∧
      (∀ tx : Bool, arg s c 0 1 = tx.toNat → ∃ data, AnsweredOk s t c data ∧ data.length = 64 ∧ ∀ k, k < 512 →
        (data.getD (k / 8) 0).getLsbD (k % 8) =
          (if tx then s.net.tx.any (fun f => f.idx == k) else s.net.rx.any (fun f => f.idx == k))) ∧
      (1 < arg s c 0 1 → AnsweredRefused s t c 0x0322 0))

/-- Receive flows at work. A packet ahead of its time, too late, or of another source is counted and not placed; one in time joins the
buffer. The staging transitions: a spent hold starts the fade, a fade ends in silence, a fade-in in playing. A silent leg goes down,
and a loss window takes its marks. -/
def Obligations.FlowReception : Prop :=
  ∀ (s : State) (i : Fin 512) (f : RxFlow), rxFlow s i = some f →
    (∀ (l : Fin 2) (p : Nat) (src : Word) (rtp : List Byte), portOfRole s l = some p → hasLeg f.legs l = true → ethUp s p = true →
      l.val < f.leg.length → (f.legOf l).vid < 4096 → 64 ≤ getF s (F.ETH_CFG_MAX_FRAME (p + 1)) →
      46 + rtp.length ≤ getF s (F.ETH_CFG_MAX_FRAME (p + 1)) →
      let x := f.legOf l
      let a : Int := s.sctr.toNat
      let n := mediaSp f.r96 (rtpOf rtp).ts f.tsOfs s.sctr.toNat
      ∃ t g, exec (.mediaPacketReceive i l src rtp) s = .next t ∧ rxFlow t i = some g ∧
        getR t (R.ETH_CNT p 17) = satAdd (getR s (R.ETH_CNT p 17)) 1 ∧
        (x.src ≠ 0 → x.src ≠ src.toNat → (g.legOf l).srcMismatch = satAdd x.srcMismatch 1 ∧ g.buf = f.buf) ∧
        (x.src = 0 ∨ x.src = src.toNat →
          (∀ why, formatReason f (rtpOf rtp) = some why →
            (g.legOf l).formatErr = satAdd x.formatErr 1 ∧ g.buf = f.buf ∧ Sticky t 3 3) ∧
          (formatReason f (rtpOf rtp) = none →
            (a < n → (g.legOf l).early = satAdd x.early 1 ∧ g.buf = f.buf ∧ Sticky t 3 2) ∧
            (n ≤ a → n + f.d - 1 ≤ a → (g.legOf l).late = satAdd x.late 1 ∧ g.buf = f.buf ∧ Sticky t 3 1) ∧
            (n ≤ a → a < n + f.d - 1 → (∀ q ∈ f.buf, q.n ≠ n) → (g.legOf l).received = satAdd x.received 1 ∧
              g.buf = f.buf ++ [⟨n, pcmWords f.bps ((rtpOf rtp).payload.getD [])⟩])))) ∧
    (f.due = 1 → f.st = fwHolding → f.hold ≤ f.h → packetOf f (stagedSp f (s.sctr.toNat + 1)) = none →
      ∃ t g, exec (.holdLimitExpiry i) s = .next t ∧ rxFlow t i = some g ∧ g.st = fwFading ∧ g.v = f.last ∧
        g.fades = satAdd f.fades 1 ∧ Sticky t 3 0) ∧
    (f.due = 2 → f.st = fwFading → f.k = 32 →
      ∃ t g, exec (.fadeComplete i) s = .next t ∧ rxFlow t i = some g ∧ g.st = fwSilent ∧ g.last = f.v.map (fun _ => 0)) ∧
    (f.due = 3 → f.st = fwFadeIn → f.k = 32 → ∀ q, packetOf f (stagedSp f (s.sctr.toNat + 1)) = some q →
      ∃ t g, exec (.fadeInComplete i) s = .next t ∧ rxFlow t i = some g ∧ g.st = fwPlaying ∧
        g.last = rowOf f q (stagedSp f (s.sctr.toNat + 1))) ∧
    (∀ l : Fin 2, legSilent s f l = true →
      ∃ t g, exec (.legTimeout i l) s = .next t ∧ rxFlow t i = some g ∧ (g.legOf l).up = false ∧ Sticky t 3 4) ∧
    (s.sctr.toNat % 960 = 0 →
      ∃ t, exec .lossWindowEnd s = .next t ∧ t.net.marks = s.net.marks.filter (fun m => decide (s.sctr.toNat ≤ m.at_)) ∧
        t.net.rx = s.net.rx)

/-- Transmit flows at work: a gathered packet is formed at its boundary and joins the media queue of its leg's port, a packet held
too long is dropped and counted; and a flow whose removal is done leaves its table. -/
def Obligations.FlowTransmission : Prop :=
  ∀ (s : State) (i : Fin 512),
    (∀ (g : TxFlow) (p : Nat), txFlow s i = some g → g.acc.length = g.p → g.formed = false → (s.sctr.toNat + g.p - g.ofs) % g.p = 0 →
      g.legs = 1 → portOfRole s 0 = some p → ethUp s p = true → mayNotDrive s = false → (ethQueue s p 1).length < 64 →
      ∃ t, exec (.txPacketForm i) s = .next t ∧ ethQueue t p 1 = ethQueue s p 1 ++ [mediaFrame s g 0 p (s.sctr.toNat - g.p)] ∧
        (txFlow t i).map (·.formed) = some true) ∧
    (∀ (g : TxFlow) (l : Fin 2) (x : Nat × Nat × TxFrame), txFlow s i = some g → heldTooLong s g l = some x →
      ∃ t, exec (.txfHeldDrop i l) s = .next t ∧ getR t (R.TXF_HELD_DROP i) = satAdd (getR s (R.TXF_HELD_DROP i)) 1 ∧
        (txFlow t i).map (·.held) = some (g.held.filter (· != x)) ∧ Sticky t 3 5) ∧
    (∀ g, txFlow s i = some g → txDone s g = true →
      ∃ t, exec (.flowRemoved true i) s = .next t ∧ t.net.tx = s.net.tx.filter (fun f => f.idx != g.idx) ∧ t.net.rx = s.net.rx ∧
        txFlow t i = none) ∧
    (∀ g, rxFlow s i = some g → rxDone s g = true →
      ∃ t, exec (.flowRemoved false i) s = .next t ∧ t.net.rx = s.net.rx.filter (fun f => f.idx != g.idx) ∧ t.net.tx = s.net.tx ∧
        rxFlow t i = none)

/-! ### Rate conversion, Drypoint, meters, taps, and serial ports -/

/-- The Drypoint path. A frame of a group whose one output has live, steady inputs gives that output's port the sum of its inputs
under their gains, for the slot and frame that R209 gives; `DRYPOINT_GAIN` accepts the gains it names, refuses a bad count, a bad length
and a crosspoint that the routing does not permit; an accepted gain waits for an output frame that begins at least 2 µs later, and sets
its crosspoint then, by a ramp from the current step where it asks for one, and no other. -/
def Obligations.DrypointPath : Prop :=
  (∀ (s : State) (g : Fin 18) (o : Fin 32), fnOn s 0x29 = true → s.conv.dpAt.contains (g.val, dpFrameNo s g) = false →
    isF s (F.DP_OUT_USED o) = true → dpGroup s o = g.val → (∀ m : Fin 32, m ≠ o → isF s (F.DP_OUT_USED m) = false) →
    dpPscOut s o = false → dpDestRuns s o = true → s.conv.dpRamps = [] → s.conv.dpSets = [] →
    (∀ i ∈ dpInputs s o, xpLive s o i = true ∧ s.conv.dpLive.contains (xpOf o i) = true) →
    ∃ t, exec (.drypointFrame g) s = .next t ∧ t.conv.dpAt.contains (g.val, dpFrameNo s g) = true ∧
      (sapPort t (dpTarget s o)).dp = (sapPort s (dpTarget s o)).dp ++
        [((sapPort s (dpTarget s o)).num + dpDelay s o, dpOutSlot s o, dpSum s o)]) ∧
  (∀ (s : State) (g : Fin 18), fnOn s 0x29 = true → s.conv.dpAt.contains (g.val, dpFrameNo s g) = false →
    ∃ t, exec (.drypointFrame g) s = .next t ∧ t.conv.dpAt.contains (g.val, dpFrameNo s g) = true) ∧
  (∀ (s : State) (c : Fin 8), Served s c 0x0E01 (fun n => decide (4 ≤ n) && decide ((n - 4) % 6 = 0)) →
    let n := arg s c 0 1
    let ramp := arg s c 2 2
    let e := dpEntry (reqOf s c).payload
    let good := 0 < n ∧ n ≤ 64 ∧ ramp ≤ 1024 ∧ fnOn s 0x29 = true
    let routed := fun (j : Nat) => (e j).1 < 32 ∧ (e j).2.1 < 64 ∧ dpPermits s (e j).1 (e j).2.1 = true
    (good → (reqOf s c).len = 4 + 6 * n → (∀ j, j < n → routed j) →
      ∃ t, exec (.drypointGain c) s = .next t ∧ AnsweredOk s t c [] ∧
        t.conv.dpSets = s.conv.dpSets ++ (List.range n).map (fun j => ⟨xpOf (e j).1 (e j).2.1, (e j).2.2, ramp, gainFrom s⟩) ∧
        t.conv.gains = s.conv.gains ∧ t.conv.dpRamps = s.conv.dpRamps) ∧
    (¬ good → ∃ t, exec (.drypointGain c) s = .next t ∧ AnsweredRefused s t c 0x0E29 0 ∧ t.conv = s.conv) ∧
    (good → (reqOf s c).len ≠ 4 + 6 * n →
      ∃ t, exec (.drypointGain c) s = .next t ∧ Answered t c 3 0x0120 (reqOf s c).tag 4 [] ∧ t.conv = s.conv) ∧
    (good → (reqOf s c).len = 4 + 6 * n → (∃ j, j < n ∧ ¬ routed j) →
      ∃ t, exec (.drypointGain c) s = .next t ∧ AnsweredRefused s t c 0x0E28 0 ∧ t.conv = s.conv)) ∧
  (∀ (s : State) (o : Fin 32) (i : Fin 64) (gt : Word) (n start : Nat), xpLive s o i = true →
    s.conv.dpSets = [⟨xpOf o i, gt, n, gainFrom s⟩] → gainFrom s ≤ start →
    let t := xpBegin s o i start
    t.conv.dpSets = [] ∧ memGet t.conv.gains (xpOf o i) = gt ∧
    (∀ xp, xp ≠ xpOf o i → memGet t.conv.gains xp = memGet s.conv.gains xp) ∧
    (0 < n → (⟨xpOf o i, xpGain s (xpOf o i), gt, n, 0⟩ : DpRamp) ∈ t.conv.dpRamps))

/-- Trackers: a tracker whose error has stayed small for 250 ms tracks, a condition that still holds takes it to HOLD with a sticky
fault, and while it tracks each 96th sp decides a ratio, of its source side for the pair and of its sink side for itself. Meters and taps. A snapshot and a capture block go to the buffer at TAIL, whole, or are dropped and
counted where no buffer is posted; a playback fetch takes the block of its sp from the first posted buffer, and underruns where
there is none. -/
def Obligations.TrackersMetersAndTaps : Prop :=
  (∀ (s : State) (n : Fin 16) (back : Fin 64),
      (∀ g, trkState s n = trkAcquire → (trk s n).goodFrom = some g → g + 24000 ≤ s.sctr.toNat →
        ∃ t, exec (.convLocked n) s = .next t ∧ trkState t n = trkTrack ∧ (trk t n).first = true ∧
          (trk t n).trackAt = s.sctr.toNat) ∧
      (∀ r : Fin 5, trkState s n = trkTrack → unlockHolds s n r = true →
        ∃ t, exec (.convUnlocked n r) s = .next t ∧ trkState t n = trkHold ∧ (trk t n).nextRatio = none ∧ Sticky t 14 0) ∧
      (trkState s n = trkTrack → s.sctr.toNat % 96 = 0 → (trk s n).trackAt < s.sctr.toNat → (trk s n).decidedAt ≠ some s.sctr.toNat →
        (trk s n).first = false →
        ∃ t, exec (.convRatioUpdate n back) s = .next t ∧ (trk t n).decidedAt = some s.sctr.toNat ∧
          t.paired.own = s.paired.own ++
            (if (convChans s n false).isEmpty then [] else [(s.sctr.toNat, .ratio n (ratioOf (trk s n).rho) none)]) ∧
          (trk t n).sinkNext = (trk s n).sinkNext ++
            (if (convChans s n true).isEmpty then [] else [(s.sctr.toNat, ratioOf (trk s n).rho)]))) ∧
  (∀ (s : State) (buf : Desc),
      (∀ x, s.conv.snap = some x → cpIsRunning s = true → s.sctr.toNat ≤ x.at_ + 96 →
        ∃ t, exec (.meterWindowEnd buf) s = .next t ∧ t.conv.snap = none ∧
          (bufPosted s 1 = true → (snapBytes x s.conv.mSeq).length ≤ buf.len.toNat →
            getR t R.METER_SEQ = BitVec.ofNat 32 s.conv.mSeq ∧ t.conv.mGap = false ∧
            Out.host buf.addr.toNat (snapBytes x s.conv.mSeq) ∈ t.out) ∧
          (bufPosted s 1 = false → getR t R.METER_DROP_CNT = satAdd (getR s R.METER_DROP_CNT) 1 ∧ Sticky t 14 3)) ∧
      (∀ b rows, s.conv.capBlock = some (b, rows) →
        let data := tapBytes b s.conv.capSeq (getF s F.TAP_CFG_CAP_COUNT) (if s.conv.capGap then 1 else 0) rows
        ∃ t, exec (.tapCaptureBlock buf) s = .next t ∧ t.conv.capBlock = none ∧
          (bufPosted s 2 = true → data.length ≤ buf.len.toNat → t.conv.capGap = false ∧ Out.host buf.addr.toNat data ∈ t.out) ∧
          (bufPosted s 2 = false → t.conv.capGap = true ∧ getR t R.TAP_CAPDROP_CNT = satAdd (getR s R.TAP_CAPDROP_CNT) 1 ∧
            Sticky t 14 2)) ∧
      (∀ b, s.conv.fetchDue = some b →
        (∃ t, exec (.tapPlaybackFetch []) s = .next t ∧ t.conv.fetchDue = none ∧
          getR t R.TAP_UNDERRUN_CNT = satAdd (getR s R.TAP_UNDERRUN_CNT) 1 ∧ Sticky t 14 1) ∧
        (∀ x rest, bufPosted s 3 = true → 32 + 64 * getF s F.TAP_CFG_PLAY_COUNT ≤ x.desc.len.toNat →
          leAt x.data 12 2 = getF s F.TAP_CFG_PLAY_COUNT → leAt x.data 0 8 = b → x.late = false →
          ∃ t, exec (.tapPlaybackFetch (x :: rest)) s = .next t ∧ t.conv.fetchDue = none ∧
            t.conv.play = s.conv.play ++ [(b, playRows (getF s F.TAP_CFG_PLAY_COUNT) x.data)])))

/-- A serial port's life: it starts at its boundary or with its clock, in quiet frames numbered from 0; its frames count on its grid,
the first data frame opens RUN, and each edge records what was sent; an upset of the slot-word FIFO is counted and shows; a clock
fault faults the function; a stop ends OFF and disabled, or waits again where a restart is due. -/
def Obligations.SapPhases : Prop :=
  ∀ (s : State) (n : Fin 16) (cyc : Fin 10240) (wire : List Word) (late : Bool),
    let x := sapPort s n
    let k := frameNo s n
    let starts := fun (t : State) => sapPhase t n = phQuiet ∧ (sapPort t n).num = 0 ∧ (sapPort t n).edge0 = s.sctr.toNat ∧
      (sapPort t n).frames = [] ∧ (sapPort t n).stampAt = s.sctr.toNat ∧ isF t (F.SAP_STAT_SLOT_ALIGN_LOST n) = false
    (sapFollower s n = false → sapPhase s n = phWait → x.startAt = s.sctr.toNat → ∃ t, exec (.sapStart n) s = .next t ∧ starts t) ∧
    (∀ (hz : Word) (r : Nat), acceptRate s n hz.toNat = some r →
      (sapFollower s n = true → sapPhase s n = phWait →
        ∃ t, exec (.sapFollowerStart n hz cyc) s = .next t ∧ starts t ∧ (sapPort t n).rate = r) ∧
      (sapPhase s n = phFault → isF s (F.SAP_CFG_AUTO_RESTART (sapFn n)) = true →
        ∃ t, exec (.sapFollowerStart n hz cyc) s = .next t ∧ starts t ∧ fnState t (sapFn n) = fnEnabled)) ∧
    (edgeNow s n cyc = true →
      (sapPhase s n = phQuiet → sapQuiet s n ≤ k →
        ∃ t, exec (.sapFirstDataFrame n wire cyc none) s = .next t ∧ sapPhase t n = phRun ∧ (sapPort t n).num = k ∧
          (sapPort t n).frames.getLast?.map (fun f => (f.num, f.slots.isSome)) = some (k, true)) ∧
      (sapPhase s n = phQuiet → k < sapQuiet s n →
        ∃ t, exec (.sapFrame n wire cyc none late) s = .next t ∧ sapPhase t n = phQuiet ∧ (sapPort t n).num = k ∧
          (sapPort t n).frames.getLast?.map (fun f => (f.num, f.slots.isSome)) = some (k, false)) ∧
      (sapPhase s n = phRun →
        (∃ t, exec (.sapFrame n wire cyc none late) s = .next t ∧ sapPhase t n = phRun ∧ (sapPort t n).num = k ∧
          (sapPort t n).frames.getLast?.map (fun f => (f.num, f.slots.isSome)) = some (k, true) ∧
          (∀ row, x.cur = some row → serialOut s n x row ∈ t.out)) ∧
        (∀ u, ∃ t, exec (.sapFrame n wire cyc (some u) late) s = .next t ∧
          getR t (R.SAP_ALIGN_CNT n) = satAdd (getR s (R.SAP_ALIGN_CNT n)) 1 ∧ Sticky t 4 (16 + n.val) ∧
          isF t (F.SAP_STAT_SLOT_ALIGN_LOST n) = true))) ∧
    (∀ r : Fin 4, r.val ≠ 0 → sapMonitors s n = true → (sapPhase s n = phQuiet ∨ sapPhase s n = phRun) →
      ∃ t, exec (.sapClockFault n r) s = .next t ∧ sapPhase t n = phFault ∧ getF t (F.SAP_STAT_FAULT n) = r.val ∧
        fnState t (sapFn n) = fnFaulted ∧ getR t (R.SAP_FAULT_CNT n) = satAdd (getR s (R.SAP_FAULT_CNT n)) 1 ∧ Sticky t 4 n ∧
        Sticky t 1 2) ∧
    (sapPhase s n = phStop → stopOver s n k = true →
      ∃ t, exec (.sapStopped n false) s = .next t ∧
        (x.restart = 0 → sapPhase t n = phOff ∧ fnState t (sapFn n) = fnDisabled) ∧
        (x.restart ≠ 0 → fnState s (sapFn n) = fnEnabled →
          sapPhase t n = phWait ∧ (sapPort t n).startAt = edgeFrom x.rate (s.sctr.toNat + 1)))

/-- Masks, slips and the port commands. A mask write waits for its frame edge, or is counted where it is ignored; a slip is decided
with its frame's stamp; `SLOTMASK_UPDATE` holds its masks for their boundary, and `SAP_RESTART` stops the port for a restart; each is
refused in the order of its checks. -/
def Obligations.SapCommands : Prop :=
  (∀ (s : State) (n : Fin 16) (tx : Bool) (w : Word),
    ∃ t, exec (.sapMaskWrite n tx w) s = .next t ∧
      (maskIgnored s n tx = true → getR t (R.SAP_MASK_DROP n) = satAdd (getR s (R.SAP_MASK_DROP n)) 1 ∧ t.sap = s.sap) ∧
      (maskIgnored s n tx = false → t.regs = s.regs ∧
        (if tx then (sapPort t n).maskTx else (sapPort t n).maskRx) = some (w, true) ∧
        ∀ m : Fin 16, m ≠ n → sapPort t m = sapPort s m)) ∧
  (∀ (s : State) (n : Fin 16) (k : Fin 4), slipKind s n = some k →
    ∃ t, exec (.slipDecision n) s = .next t ∧ isF t (F.SAP_STAT_SLIP_PEND n) = true ∧ t.paired.own = s.paired.own ++
      [(s.sctr.toNat, .sync n k (BitVec.ofNat 64 (sapPort s n).edgeAt) (sapPort s n).edgeFrac)]) ∧
  (∀ (s : State) (c : Fin 8),
    let n := arg s c 0 1
    (Served s c 0x0401 (· == 12) → ∃ t, exec (.slotmaskUpdate c) s = .next t ∧
      (15 < n → AnsweredRefused s t c 0x0425 0) ∧
      (n ≤ 15 → sapEnabled s n = false → AnsweredRefused s t c 0x0426 0) ∧
      (n ≤ 15 → sapEnabled s n = true → (sapPort s n).timed.isSome = true → AnsweredRefused s t c 0x0428 0) ∧
      (n ≤ 15 → sapEnabled s n = true → (sapPort s n).timed = none →
        (timedAt s (reqOf s c) = none → AnsweredRefused s t c 0x0429 (s.sctr.toNat % 2 ^ 32) ∧ t.sap = s.sap) ∧
        (∀ b, timedAt s (reqOf s c) = some b → AnsweredOk s t c (le 8 b) ∧ (sapPort t n).timed = some (b,
          if arg s c 1 1 % 2 = 1 then some (BitVec.ofNat 32 (arg s c 4 4)) else none,
          if arg s c 1 1 / 2 % 2 = 1 then some (BitVec.ofNat 32 (arg s c 8 4)) else none)))) ∧
    (Served s c 0x0402 (· == 1) → ∃ t, exec (.sapRestart c) s = .next t ∧
      (15 < n → AnsweredRefused s t c 0x0425 0) ∧
      (n ≤ 15 → sapEnabled s n = false → AnsweredRefused s t c 0x0426 0) ∧
      (n ≤ 15 → sapEnabled s n = true → AnsweredOk s t c [] ∧ sapPhase t n = phStop ∧ (sapPort t n).restart = 3 ∧
        fnState t (sapFn n) = fnEnabled)))

/-! ### Power stage control -/

/-- Switching periods: the loop takes its error in every channel that drives or observes, its supply within limits; a channel that
drives its bridge sends its pulse, or a limited period that is counted, and any other sends no pulse; one whose node does not drive its
balls sends nothing. -/
def Obligations.SwitchingPeriods : Prop :=
  ∀ (s : State) (n : Fin 16),
    (∀ (k : Fin 8) (x : PwmSense), pscLooping s n = true → (pscRunsFast s n = true ∨ k.val < 4) → x.track = none →
      (∀ m, s.psc.pvddOut.getD m false = false) →
      let drives := pscDrives s = true ∧ (legsPlay s n = true ∨ (pscState s n = psStopping ∧ (pscCh s n).dark = false))
      ∃ t, exec (.pwmPeriod n k x) s = .next t ∧
        (pscCh t n).e1 = subF (pscRef (pscRunsFast s n) k (pscCh s n).hist) (senseOf s n x.v x.i x.p).1 ∧
        (pscCh t n).e2 = (pscCh s n).e1 ∧ pscState t n = pscState s n ∧
        (drives → x.oc = false → (∃ a h, t.out.getLast? = some (.pwm n (some (a, h)))) ∧
          getR t (R.PSC_LIMIT_CNT n) = getR s (R.PSC_LIMIT_CNT n)) ∧
        (drives → x.oc = true → t.out.getLast? = some (.pwm n none) ∧
          getR t (R.PSC_LIMIT_CNT n) = satAdd (getR s (R.PSC_LIMIT_CNT n)) 1) ∧
        (¬ drives → ∀ m a h, Out.pwm m (some (a, h)) ∈ t.out → Out.pwm m (some (a, h)) ∈ s.out) ∧
        (pscDrives s = false → ∀ m y, Out.pwm m y ∈ t.out → Out.pwm m y ∈ s.out)) ∧
    (legsSwitch s n = true →
      ∃ t, exec (.overCurrent n) s = .next t ∧ (pscCh t n).limNow = true ∧ t.out.getLast? = some (.pwm n none) ∧
        pscState t n = pscState s n ∧
        ((pscCh s n).limNow = false → getR t (R.PSC_LIMIT_CNT n) = satAdd (getR s (R.PSC_LIMIT_CNT n)) 1))

/-- Protection. Too many limited periods shut a channel down, counted, with its group where it is configured, and eight failed retries
in the window latch it; a retry queues it and the members it held; a supply out of its limits holds the channels that play on it, and
one that has been back for 10 ms fades them in, their group enable as it is; a completed fade-in runs, and a completed stop is OFF and disabled, its readback zero. -/
def Obligations.PowerStageProtection : Prop :=
  ∀ (s : State) (n : Fin 16) (m : Fin 2) (volts : Word),
    let st := pscState s
    (st n = psFadeIn ∨ st n = psRunning → getF s (F.PSC_OC_OC_THR (pscFn n)) ≤ limitedCount (pscCh s n) → (pscCh s n).passedAt = none →
      ∃ t, exec (.pscShutdown n) s = .next t ∧ getR t (R.PSC_SHUT_CNT n) = satAdd (getR s (R.PSC_SHUT_CNT n)) 1 ∧ Sticky t 7 n ∧
        Out.pwm n none ∈ t.out ∧ (pscCh t n).waitFrom = s.sctr.toNat ∧
        ((recentFails s n).length < 8 → pscState t n = psShutdown) ∧
        (8 ≤ (recentFails s n).length → pscState t n = psLatched ∧ Sticky t 7 19) ∧
        (isF s (F.PSC_CFG_SHUT_GROUP (pscFn n)) = true → t.psc.en.getD (n.val / 4) true = false ∧
          ∀ k : Fin 16, k ≠ n → k.val / 4 = n.val / 4 → (st k = psFadeIn ∨ st k = psRunning) → pscState t k = psGroupHold)) ∧
    (st n = psShutdown → pscDrives s = true →
      (pscCh s n).waitFrom + 96 * getF s (F.PSC_RETRY_RETRY_MS (pscFn n)) ≤ s.sctr.toNat →
      ∃ t, exec (.pscRetry n) s = .next t ∧ ∀ k : Fin 16, k.val / 4 = n.val / 4 → (k = n ∨ st k = psGroupHold) →
        pscState t k = psQueued ∧ k.val ∈ t.psc.queue) ∧
    (pscOn s m n = true → pvddSide s n volts ≠ 0 →
      ∃ t, exec (.pscPvddFault m volts) s = .next t ∧ (s.psc.pvddOut.getD m true = false → Sticky t 7 (16 + m.val)) ∧ ∀ k : Fin 16,
        (pscOn s m k = true → pvddSide s k volts ≠ 0 → (st k = psFadeIn ∨ st k = psRunning) → pscState t k = psPvddHold) ∧
        (pvddSide s k volts = 0 → pscState t k = st k)) ∧
    (pscOn s m n = true → st n = psPvddHold → pvddSide s n volts = 0 → pvddSettled s n = true →
      ∃ t, exec (.pscPvddOk m volts) s = .next t ∧ pscState t n = psFadeIn ∧ t.psc.en = s.psc.en ∧
        ((∀ k : Fin 16, pscOn s m k = true → pvddSide s k volts = 0 ∧ pvddSettled s k = true) → t.psc.pvddOut.getD m false = false)) ∧
    (st n = psFadeIn → 32 ≤ (pscCh s n).fade →
      ∃ t, exec (.pscFadeInDone n) s = .next t ∧ pscState t n = psRunning ∧ t.psc = s.psc) ∧
    (st n = psStopping → 32 ≤ (pscCh s n).fade →
      ∃ t, exec (.pscStopDone n) s = .next t ∧ pscState t n = psOff ∧ fnState t (pscFn n) = fnDisabled ∧
        ∀ j, j < 4 → memGet t.dsp.staging (0xC00 + 4 * n.val + j) = 0)

/-- Load tests, each at its time: the channel at the head of the queue is tested with its unit; a pass fades in, a failure waits for a retry or
latches, a queued diagnostic returns the channel to its state, and the result shows; a calibration returns the channel to its state and
is applied within its limits only. -/
def Obligations.PowerStageTests : Prop :=
  ∀ (s : State) (n : Fin 16),
    (∀ rest, s.psc.test = none → s.psc.queue = n.val :: rest →
      let unit := if pscDrives s then diagUnit s n else [n.val]
      ∃ t, exec .diagTestStart s = .next t ∧ t.psc.test = some (unit, !pscDrives s) ∧
        ∀ k ∈ unit, pscState t k = psDiag ∧ k ∉ t.psc.queue) ∧
    (∀ (o : DiagObs) (passive : Bool), s.psc.test = some ([n.val], passive) → s.psc.testAt + testSpan passive ≤ s.sctr.toNat →
      let code := (diagResult s n o passive).1
      ∃ t, exec (.diagTestEnd ((List.range 16).map (fun _ => o))) s = .next t ∧ t.psc.test = none ∧
        getF t (F.PSC_STAT_DIAG_RESULT n) = code ∧
        (∀ b, (pscCh s n).back = some b → b < 16 → pscState t n = b ∧ (pscCh t n).back = none) ∧
        ((pscCh s n).back = none → code = 1 → pscState t n = psFadeIn ∧ 
          ((pscCh s n).retrying = true → (pscCh t n).passedAt = some s.sctr.toNat)) ∧
        ((pscCh s n).back = none → code ≠ 1 → pscState t n = psShutdown ∨ pscState t n = psLatched) ∧
        (code ≠ 1 → code ≠ 0 → Sticky t 7 n)) ∧
    (∀ r : CalResult, pscState s n = psCal → (pscCh s n).calBack < 16 →
      (pscCh s n).calAt + calSpan (pscCh s n).calMode ≤ s.sctr.toNat →
      ∃ t, exec (.pscCalDone n r) s = .next t ∧ pscState t n = (pscCh s n).calBack ∧
        (calFault (pscCh s n).calMode r = none → getR t (R.PSC_CAL_V_GAIN n) = r.vGain ∧ getR t (R.PSC_CAL_V_OFS n) = r.vOfs ∧
          getR t (R.PSC_CAL_I_GAIN n) = r.iGain ∧ getR t (R.PSC_CAL_I_OFS n) = r.iOfs) ∧
        (calFault (pscCh s n).calMode r ≠ none → getR t (R.PSC_CAL_V_GAIN n) = getR s (R.PSC_CAL_V_GAIN n) ∧
          getR t (R.PSC_LOOP_TRIM n) = getR s (R.PSC_LOOP_TRIM n) ∧ Sticky t 7 20))

/-- The power-stage commands act on exactly the channels of their mask: `PSC_DIAG` queues them, `PSC_CAL` calibrates them, and
`PSC_CLEAR` queues latched ones, or has them observe where the node does not drive, with their retries forgotten. Each completes where
no check fails, and is refused in the order of its checks. -/
def Obligations.PowerStageCommands : Prop :=
  ∀ (s : State) (c : Fin 8),
    let m := arg s c 0 2
    let mode := arg s c 2 1
    let hit := fun (n : Fin 16) => m / 2 ^ n.val % 2 = 1
    let badMode := mode == 0 || decide (2 < mode)
    (Served s c 0x0701 (· == 2) → intrusiveRefusal s m false = none →
      ∃ t, exec (.pscDiag c) s = .next t ∧ AnsweredOk s t c [] ∧ ∀ n : Fin 16,
        (hit n → pscState t n = psQueued ∧ n.val ∈ t.psc.queue ∧ (pscCh t n).back = some (pscState s n)) ∧
        (¬ hit n → pscState t n = pscState s n ∧ pscCh t n = pscCh s n)) ∧
    (∀ r, Served s c 0x0701 (· == 2) → intrusiveRefusal s m false = some r →
      ∃ t, exec (.pscDiag c) s = .next t ∧ Answered t c r.status r.code (reqOf s c).tag r.detail r.payload ∧ t.psc = s.psc) ∧
    (Served s c 0x0702 (· == 3) → intrusiveRefusal s m badMode = none →
      ∃ t, exec (.pscCal c) s = .next t ∧ AnsweredOk s t c [] ∧ ∀ n : Fin 16,
        (hit n → pscState t n = psCal ∧ (pscCh t n).calBack = pscState s n ∧ (pscCh t n).calMode = mode ∧
          (pscCh t n).calAt = s.sctr.toNat) ∧
        (¬ hit n → pscState t n = pscState s n ∧ pscCh t n = pscCh s n)) ∧
    (∀ r, Served s c 0x0702 (· == 3) → intrusiveRefusal s m badMode = some r →
      ∃ t, exec (.pscCal c) s = .next t ∧ Answered t c r.status r.code (reqOf s c).tag r.detail r.payload ∧ t.psc = s.psc) ∧
    (Served s c 0x0703 (· == 2) → modelA s = true → (∃ n, hit n) → (∀ n, hit n → pscState s n = psLatched) →
      ∃ t, exec (.pscClear c) s = .next t ∧ AnsweredOk s t c [] ∧ ∀ n, hit n →
        (pscCh t n).fails = [] ∧ getF t (F.PSC_STAT_RETRIES n) = 0 ∧
        (pscDrives s = true → pscState t n = psQueued ∧ n.val ∈ t.psc.queue) ∧
        (pscDrives s = false → pscState t n = psObserving)) ∧
    (Served s c 0x0703 (· == 2) → ∃ t, exec (.pscClear c) s = .next t ∧
      (modelA s = false → Answered t c 4 0x0124 (reqOf s c).tag 0 []) ∧
      (modelA s = true → (∀ n, ¬ hit n) → AnsweredRefused s t c 0x072B 0) ∧
      (modelA s = true → (∃ n, hit n ∧ pscState s n ≠ psLatched) → AnsweredRefused s t c 0x072A 0 ∧ t.psc = s.psc))

/-! ### The pair, the witness and the restrike -/

/-- Roles. A commanded role waits for the boundary, or is refused by the first check that fails; an ACTIVE yields on a self-detected
fault, on another party's pulse and on command, with its outputs withdrawn; a promotable STANDBY takes over on a pulse, to be
ratified where `ROLE_IN` does not ratify it already, and a node that has lost its oscillator keeps its outputs withdrawn; a grant on
`ROLE_IN` drives from two boundaries later; without ratification the role is UNRATIFIED, and withdraws where
RATIFY_ACTION says so. -/
def Obligations.PairRoles : Prop :=
  ∀ (s : State) (c : Fin 8),
    let n := (nextSctr s).toNat
    let role := arg s c 0 1
    let fit := s.pair.peer.any (fun p => p.flags / 2 % 2 == 1) && !isF s F.PAIR_STAT_PEER_LOST
    (Served s c 0x0801 (· == 1) →
      ∃ t, exec (.pairRoleSet c) s = .next t ∧
        (3 < role → AnsweredRefused s t c 0x0820 0 ∧ t.pair = s.pair) ∧
        (role < 3 → Waits t c ∧ t.pair.setTo = s.pair.setTo ++ [(some c.val, role, 1)]) ∧
        (role = 3 → ∀ code, memberRefusal s = some code → AnsweredRefused s t c code 0 ∧ t.pair = s.pair) ∧
        (role = 3 → memberRefusal s = none → unpaired s = true → Waits t c ∧ t.pair.setTo = s.pair.setTo ++ [(some c.val, 3, 1)]) ∧
        (role = 3 → memberRefusal s = none → unpaired s = false → AnsweredOk s t c [] ∧ t.pair = s.pair)) ∧
    (Served s c 0x0802 (· == 1) →
      ∃ t, exec (.pairYield c) s = .next t ∧
        (roleOf s ≠ roleActive → AnsweredRefused s t c 0x0826 0 ∧ t.pair = s.pair) ∧
        (roleOf s = roleActive → role % 2 = 0 → fit = false → AnsweredRefused s t c 0x0827 0 ∧ t.pair = s.pair) ∧
        (roleOf s = roleActive → (role % 2 = 1 ∨ fit = true) →
          Waits t c ∧ t.pair.setTo = s.pair.setTo ++ [(some c.val, 5, 1)])) ∧
    (∀ r, faultReason s = some r → roleOf s = roleActive →
      ∃ t, exec .selfFaultYield s = .next t ∧ roleOf t = roleStandby ∧ guarded t = true ∧ isF t F.PAIR_STAT_YIELD_IN = true ∧
        Sticky t 8 0 ∧ isF t F.RS_STAT_PROVEN = (r != 1)) ∧
    (roleOf s = roleActive → ∃ t, exec .yieldPulse s = .next t ∧ roleOf t = roleStandby ∧ guarded t = true) ∧
    (roleOf s = roleStandby → ∃ t, exec .yieldPulse s = .next t ∧
      (isF s F.PAIR_STAT_PROMOTABLE = true → ownFault s = false → roleOf t = roleActive ∧
        (getF s F.NODE_STAT_STATE ≠ 5 → guarded t = false) ∧ (getF s F.NODE_STAT_STATE = 5 → guarded t = guarded s) ∧
        ((isF s F.PAIR_CFG_ROLE_SOURCE && s.pair.roleIn) = false →
          t.pair.ratifyBy = some (n + 96 * getF s F.PAIR_CFG_RATIFY_MS))) ∧
      (isF s F.PAIR_STAT_PROMOTABLE = false ∨ ownFault s = true → roleOf t = roleStandby)) ∧
    (∀ high : Bool, s.pair.roleIn ≠ high → isF s F.PAIR_CFG_ROLE_SOURCE = true → fnOn s 0x48 = true →
      ∃ t, exec (.roleInChange high) s = .next t ∧ t.pair.roleIn = high ∧
        (high = false → roleOf s = roleActive → s.pair.ratifyBy = none → isF s F.PAIR_STAT_UNRATIFIED = false → roleOf t = roleStandby ∧ guarded t = true) ∧
        (high = true → roleOf s = roleActive → t.pair.ratifyBy = none ∧ roleOf t = roleActive) ∧
        (high = true → roleOf s = roleStandby → ownFault s = false → promoteOk (comingBoundary s) false = true →
          t.pair.grant = some (n + 2, 5) ∧ roleOf t = roleStandby)) ∧
    (∀ e, s.pair.promoteTo = some e → e ≤ s.sctr.toNat →
      ∃ t, exec .promoteWindowEnd s = .next t ∧ isF t F.PAIR_STAT_PROMOTABLE = false ∧ t.pair.promoteTo = none ∧ roleOf t = roleOf s) ∧
    (∀ e, s.pair.ratifyBy = some e → e ≤ s.sctr.toNat → roleOf s = roleActive →
      ∃ t, exec .pairUnratified s = .next t ∧ t.pair.ratifyBy = none ∧
        ((isF s F.PAIR_CFG_ROLE_SOURCE && s.pair.roleIn) = true → isF t F.PAIR_STAT_UNRATIFIED = false) ∧
        ((isF s F.PAIR_CFG_ROLE_SOURCE && s.pair.roleIn) = false → isF t F.PAIR_STAT_UNRATIFIED = true ∧ Sticky t 8 7 ∧
          t.pair.setTo = s.pair.setTo ++ (if getF s F.PAIR_CFG_RATIFY_ACTION = 1 then [(none, 3, 9)] else [])))

/-- The pair link. A heartbeat sent is remembered with its time; one received brings the peer's role, flags and plate, and counts in its time only where it comes by the boundary after its own; a frame that
fails a check is counted and changes nothing of the pair; the fourth missed heartbeat loses the peer. A STANDBY keeps the sets it is
sent; digests are held, compared once and, overdue, counted, and a mismatch ends the agreement run and, outside a restrike, makes the
node DIVERGED. -/
def Obligations.PairFrames : Prop :=
  ∀ (s : State) (f : PairFrame) (cyc : Fin 10240) (g : Fin 531),
    let b := extendSctr s f.sctrLo.toNat
    (heartbeatDue s = true →
      ∃ t, exec (.pairHeartbeatSend cyc) s = .next t ∧
        t.pair.sent.head? = some (seqOf t.pair.ses.txSeq 1, s.sctr.toNat, fracOf cyc.val) ∧
        ((portOfRole s 2).isSome = true → seqOf t.pair.ses.txSeq 1 = seqOf s.pair.ses.txSeq 1 + 1)) ∧
    (FrameOk s f 1 →
      ∃ t, exec (.pairHeartbeatReceive f cyc) s = .next t ∧
        t.pair.peer = some ⟨leAt f.payload 0 1, leAt f.payload 1 1, BitVec.ofNat 32 (leAt f.payload 4 4)⟩ ∧
        (s.sctr.toNat ≤ b → t.pair.miss = 0 ∧ t.pair.got = s.pair.got + 1 ∧ t.pair.hbFor = some b) ∧
        (b < s.sctr.toNat → t.pair.miss = s.pair.miss ∧ t.pair.got = s.pair.got) ∧ seqOf t.pair.ses.rxSeq 1 = f.seq.toNat ∧
        isF t F.PAIR_STAT_LINK_UP = true ∧ isF t F.PAIR_STAT_PEER_ACTIVE = (leAt f.payload 0 1 == roleActive) ∧
        (isF s F.PAIR_STAT_PEER_LOST = true → 3 ≤ s.pair.got → s.sctr.toNat ≤ b → isF t F.PAIR_STAT_PEER_LOST = false)) ∧
    (FrameBad s f 1 →
      ∃ t, exec (.pairHeartbeatReceive f cyc) s = .next t ∧ t.pair = s.pair ∧
        getR t R.PAIR_TAG_FAIL = satAdd (getR s R.PAIR_TAG_FAIL) 1 ∧ Sticky t 8 4) ∧
    (heartbeatGone s = true →
      ∃ t, exec .heartbeatMissed s = .next t ∧ getR t R.HB_MISSED = satAdd (getR s R.HB_MISSED) 1 ∧ t.pair.miss = s.pair.miss + 1 ∧
        (3 ≤ s.pair.miss → isF s F.PAIR_STAT_PEER_LOST = false →
          isF t F.PAIR_STAT_PEER_LOST = true ∧ isF t F.PAIR_STAT_LINK_UP = false ∧ getR t R.PAIR_AGREE = 0 ∧ Sticky t 8 2) ∧
        (s.pair.miss < 3 → isF t F.PAIR_STAT_PEER_LOST = isF s F.PAIR_STAT_PEER_LOST)) ∧
    (FrameOk s f 2 →
      ∃ t, exec (.pairedQuantitySetReceive f) s = .next t ∧ t.paired.own = s.paired.own ∧
        (keepsSet s b = true → s.sctr.toNat ≤ b + 8 →
          ∃ x ∈ t.paired.got, x.n = b ∧ (leAt f.payload 2 1, pqParse f.payload (leAt f.payload 0 2) 4) ∈ x.parts) ∧
        (keepsSet s b = false ∨ b + 8 < s.sctr.toNat → t.paired = s.paired)) ∧
    (∃ t, exec (.digestPeriodEnd g) s = .next t ∧ (∀ d ∈ t.pair.digDue, d.group ≠ g.val) ∧
      (roleOf s ≠ roleActive → t.pair.digOwn = s.pair.digOwn ++ s.pair.digDue.filter (fun d => d.group == g.val))) ∧
    (FrameOk s f 3 → roleOf s = roleStandby → leAt f.payload 0 2 = 1 → ∀ d,
      (s.pair.digOwn ++ s.pair.digDue).find? (fun d => d.group == leAt f.payload 4 2 && d.end_ % 2 ^ 32 == leAt f.payload 8 4) = some d →
      ∃ t, exec (.digestReceive f) s = .next t ∧ d ∉ t.pair.digOwn ∧ d ∉ t.pair.digDue ∧
        (d.crc = BitVec.ofNat 32 (leAt f.payload 12 4) → getR t R.PAIR_AGREE = getR s R.PAIR_AGREE ∧
          getR t R.DIGEST_MISMATCH = getR s R.DIGEST_MISMATCH) ∧
        (d.crc ≠ BitVec.ofNat 32 (leAt f.payload 12 4) → getR t R.PAIR_AGREE = 0 ∧
          (rsState s = 0 → isF t F.PAIR_STAT_DIVERGED = true ∧ isF t F.RS_STAT_PROVEN = false ∧ Sticky t 8 1 ∧
            getR t R.DIGEST_MISMATCH = satAdd (getR s R.DIGEST_MISMATCH) 1))) ∧
    (digOverdue s (some g.val) ≠ [] →
      ∃ t, exec (.digestMissing g) s = .next t ∧ getR t R.PAIR_AGREE = 0 ∧
        getR t R.DIGEST_MISSING = satAdd (getR s R.DIGEST_MISSING) (digOverdue s (some g.val)).length ∧
        ∀ d ∈ digOverdue s (some g.val), d ∉ t.pair.digOwn)

/-- R395. While a restrike runs, in any of its states, a digest difference on the STANDBY returns `PAIR_AGREE` to 0 and does nothing
else, beside what the frame's reception counts: nothing is logged, no sticky fault, DIVERGED as it was, and no report waits for the
witness. -/
def Obligations.DigestInRestrike : Prop :=
  ∀ (s : State) (f : PairFrame) (d : Digest), FrameOk s f 3 → roleOf s = roleStandby → rsState s ≠ 0 → leAt f.payload 0 2 = 1 →
    (s.pair.digOwn ++ s.pair.digDue).find? (fun d => d.group == leAt f.payload 4 2 && d.end_ % 2 ^ 32 == leAt f.payload 8 4) = some d →
    d.crc ≠ BitVec.ofNat 32 (leAt f.payload 12 4) →
    ∃ t, exec (.digestReceive f) s = .next t ∧ getR t R.PAIR_AGREE = 0 ∧ t.log = s.log ∧ t.out = s.out ∧ t.pair.omQ = s.pair.omQ ∧
      isF t F.PAIR_STAT_DIVERGED = isF s F.PAIR_STAT_DIVERGED ∧
      ∀ o, o ≠ R.PAIR_AGREE → getR t o = getR (rxHead s f.head 0x88B5 3).1 o

/-- Omzor on a pair node. A valid message keeps the witness; a bad one is dropped and counted; HEARTBEAT, HEALTH and source-loss
reports go out when due; a ROLE_COMMAND is scheduled unless roles come from pins, and executes at its boundary with its result in a
HEALTH at once; after 1 s of silence the witness is lost. -/
def Obligations.OmzorMessages : Prop :=
  ∀ (s : State) (j : Fin 64) (m : OmMsg),
    let n := (nextSctr s).toNat
    let key := (keyAt s.pair.om s.sctr.toNat).isSome = true
    let sends := fun (t : State) => ∀ p : Fin 4, omzorPort s = some p.val → ethUp s p = true → (ethQueue s p 3).length < 64 →
      ∃ x, ethQueue t p 3 = ethQueue s p 3 ++ [x]
    (beatDue s none = true → ∃ t, exec (.omzorHeartbeatSend none) s = .next t ∧ t.pair.omBeat = s.sctr.toNat + 9600 ∧
      sends t) ∧
    (beatDue s (some j) = true → ∃ t, exec (.omzorHeartbeatSend (some j)) s = .next t ∧ (witNode t j).beat = s.sctr.toNat + 9600 ∧
      sends t) ∧
    (OmzorOk s 1 m → ∃ t, exec (.omzorHeartbeatReceive none m) s = .next t ∧ t.pair.omAt = s.sctr.toNat ∧ t.pair.omLost = false ∧
      seqOf t.pair.om.rxSeq 0 = m.seq.toNat ∧ getR t R.OMZOR_DROP = getR s R.OMZOR_DROP) ∧
    ((omzorArrives s m.head false).2 = true → fnOn s 0x48 = true → ∀ tag, omFault s s.pair.om 1 m = some tag →
      ∃ t, exec (.omzorHeartbeatReceive none m) s = .next t ∧ t.pair = s.pair ∧
        getR t R.OMZOR_DROP = satAdd (getR s R.OMZOR_DROP) 1 ∧ (tag = true → Sticky t 8 4)) ∧
    (WitnessOk s j 1 m → ∃ t, exec (.omzorHeartbeatReceive (some j) m) s = .next t ∧
      getR t R.OMZOR_DROP = getR s R.OMZOR_DROP ∧
      seqOf (witNode t j).ses.rxSeq 0 = m.seq.toNat) ∧
    (healthDue s = true → ∃ t, exec .healthSend s = .next t ∧ t.pair.omHealth = s.sctr.toNat + 960 ∧ sends t) ∧
    (OmzorOk s 5 m → ∃ t, exec (.roleCommand m) s = .next t ∧
      (isF s F.PAIR_CFG_ROLE_SOURCE = true → t.pair.cmds = s.pair.cmds ∧ getR t R.OMZOR_DROP = satAdd (getR s R.OMZOR_DROP) 1) ∧
      (isF s F.PAIR_CFG_ROLE_SOURCE = false → t.pair.cmds = s.pair.cmds ++
        [⟨max (leAt m.payload 8 8) (s.sctr.toNat + 1), leAt m.payload 0 1, leAt m.payload 1 1 % 2 == 1,
          BitVec.ofNat 32 (leAt m.payload 4 4)⟩])) ∧
    (∀ (i : Nat) (x : RoleCmd), nextCommand (comingBoundary s) = some i → s.pair.cmds[i]? = some x →
      ∃ t, exec .roleCommandExecute s = .next t ∧ t.pair.cmds = s.pair.cmds.eraseIdx i ∧ t.pair.omCmd = x.id ∧ t.pair.omHealth = n ∧
        (x.cmd = 1 → roleOf s = roleStandby → ownFault s = false → promoteOk (comingBoundary s) x.force = true →
          t.pair.grant = some (n + 2, 3) ∧ t.pair.omResult = 1) ∧
        (x.cmd = 1 → roleOf s = roleStandby → ownFault s = true → t.pair.omResult = 2 ∧ t.pair.grant = s.pair.grant) ∧
        (x.cmd = 2 → roleOf s = roleActive → roleOf t = roleStandby ∧ guarded t = true ∧ t.pair.omResult = 1) ∧
        (x.cmd = 3 → restrikeRefusal s = none → rsState t = 1 ∧ t.pair.omResult = 1) ∧
        (x.cmd = 3 → restrikeRefusal s ≠ none → rsState t = rsState s ∧ t.pair.omResult = 4) ∧
        (x.cmd = 4 → inPairRole s = true → roleOf t = roleOff ∧ t.pair.omResult = 1) ∧
        (x.cmd = 4 → inPairRole s = false → roleOf t = roleOf s ∧ t.pair.omResult = 4)) ∧
    (∀ x, s.net.lostQ.find? (fun x => decide (x.2.2 ≤ s.sctr.toNat)) = some x → cpIsRunning s = true →
      ∃ t, exec .peerLossSourceSend s = .next t ∧ t.net.lostQ = s.net.lostQ.erase x ∧
        (key → (∀ a ∈ s.net.lostAt, a.1 = x.1 → a.2 + 9600 ≤ s.sctr.toNat) → sends t)) ∧
    (witnessGone s = true → ∃ t, exec .pairWitnessLost s = .next t ∧ t.pair.omLost = true ∧ t.pair.om = Session.reset ∧
      isF t F.PAIR_STAT_WITNESS_UP = false ∧ Sticky t 8 5)

/-- The witness service decides by its table: each report and timeout records what it says, and orders a PROMOTE or RESTRIKE, waits
for a fault to end, or raises the alarm of its row. Its commands send an order, report a pair, and clear its count and alarm. -/
def Obligations.WitnessService : Prop :=
  ∀ (s : State) (j : Fin 64) (m : OmMsg) (k : Fin 32) (c : Fin 8),
    let p := m.payload
    let a := witNode s j
    let b := witNode s (mate j)
    let pr := witPair s (j.val / 2)
    let orders := fun (t : State) => t.wit.cmdId = s.wit.cmdId + 1
    let alarms := fun (t : State) (r : Nat) => (witPair t (j.val / 2)).alarm = r
    let pn := arg s c 0 1
    let nn := 2 * pn + arg s c 1 1
    (WitnessOk s j 2 m → ∃ t, exec (.healthReceive j m) s = .next t ∧ (witNode t j).role = leAt p 0 1 ∧
      (witNode t j).flags = leAt p 1 1 ∧ (witNode t j).result = leAt p 2 1 ∧ (witNode t j).at_ = some s.sctr.toNat ∧
      (witNode t j).lost = false ∧ (witNode t j).silent = false) ∧
    (WitnessOk s j 3 m → leAt p 0 1 = 2 → ∃ t, exec (.yieldNotice j m) s = .next t ∧
      (a.promotable = true → orders t) ∧ (a.promotable = false → alarms t 1 ∧ t.wit.cmdId = s.wit.cmdId)) ∧
    (WitnessOk s j 3 m → leAt p 0 1 = 1 → wbit (witWord s (j.val / 2) 0x1C) 1 = true → ∃ t, exec (.yieldNotice j m) s = .next t ∧
      (a.faulty = true → (witPair t (j.val / 2)).wait = some (j.val, 13)) ∧ (a.faulty = false → pr.barred = false → orders t)) ∧
    (WitnessOk s j 4 m → ∃ t, exec (.digestReport j m) s = .next t ∧
      (a.faulty = true → b.faulty = true → alarms t 3) ∧
      (a.faulty = false → b.faulty = true → t.wit.pairs = s.wit.pairs ∧ t.wit.cmdId = s.wit.cmdId) ∧
      (a.faulty = true → b.faulty = false → (witPair t (j.val / 2)).wait = some (j.val, 7)) ∧
      (a.faulty = false → b.faulty = false → 2 ≤ pr.count → a.done ≠ pr.base → alarms t 5 ∧ (witPair t (j.val / 2)).barred = true) ∧
      (a.faulty = false → b.faulty = false → (pr.count < 2 ∨ a.done = pr.base) →
        (witPair t (j.val / 2)).count = pr.count + 1 ∧ (pr.barred = false → orders t))) ∧
    (WitnessOk s j 6 m → ∃ t, exec (.peerLoss j m) s = .next t ∧
      (leAt p 0 1 = 2 → ∃ l, (leAt p 4 4, l) ∈ t.wit.src ∧ j.val ∈ l) ∧
      (leAt p 0 1 = 1 → a.role = roleStandby → a.promotable = true → orders t) ∧
      (leAt p 0 1 = 1 → a.role = roleStandby → a.promotable = false → alarms t 2) ∧
      (leAt p 0 1 = 1 → a.role = roleActive → (witNode t (mate j)).lost = true)) ∧
    (healthGone s j = true → ∃ t, exec (.witHealthTimeout j) s = .next t ∧ (witNode t j).silent = true ∧
      (a.role = roleActive → b.role = roleStandby → b.promotable = true → b.silent = false → orders t) ∧
      (a.role = roleStandby → alarms t 4 ∧ (witNode t j).promotable = false)) ∧
    (bothStandby s k = true → ∃ t, exec (.witBothStandby k) s = .next t ∧ (witPair t k).force = 1 ∧ orders t ∧
      (witPair t k).forceCmd = BitVec.ofNat 32 t.wit.cmdId) ∧
    (longMatched s k = true → ∃ t, exec (.witRestrikeCountClear k) s = .next t ∧ (witPair t k).count = 0 ∧ t.wit.nodes = s.wit.nodes) ∧
    (witOn s = true → s.wit.srcFrom + 960 ≤ s.sctr.toNat → ∃ t, exec .witSourceWindowEnd s = .next t ∧ t.wit.src = [] ∧
      t.wit.srcFrom = s.sctr.toNat) ∧
    (Served s c 0x0803 (· == 12) → ∃ t, exec (.witCommand c) s = .next t ∧
      (∀ code, witRefusal s pn = some code → AnsweredRefused s t c code pn ∧ t.wit = s.wit) ∧
      (witRefusal s pn = none → 1 < arg s c 1 1 → AnsweredRefused s t c 0x082A pn ∧ t.wit = s.wit) ∧
      (witRefusal s pn = none → arg s c 1 1 ≤ 1 → keyAt (witNode s nn).ses s.sctr.toNat = none →
        AnsweredRefused s t c 0x082C nn ∧ t.wit = s.wit) ∧
      (witRefusal s pn = none → arg s c 1 1 ≤ 1 → keyAt (witNode s nn).ses s.sctr.toNat ≠ none →
        AnsweredOk s t c [] ∧ orders t ∧ (nn, BitVec.ofNat 32 t.wit.cmdId) ∈ t.wit.asked)) ∧
    (Served s c 0x0804 (· == 1) → ∃ t, exec (.witPairStatus c) s = .next t ∧ t.wit = s.wit ∧
      (∀ code, witRefusal s pn = some code → AnsweredRefused s t c code pn) ∧
      (witRefusal s pn = none → AnsweredOk s t c (witStatus s (2 * pn) ++ witStatus (nextFree s) (2 * pn + 1) ++
        le 1 (witPair s pn).count ++ le 1 (witPair s pn).alarm ++ le 2 0))) ∧
    (Served s c 0x0805 (· == 1) → ∃ t, exec (.witAlarmClear c) s = .next t ∧
      (∀ code, witRefusal s pn = some code → AnsweredRefused s t c code pn ∧ t.wit = s.wit) ∧
      (witRefusal s pn = none → pn = k.val → AnsweredOk s t c [] ∧ (witPair t k).count = 0 ∧ (witPair t k).alarm = 0 ∧
        (witPair t k).barred = false))

/-- The restrike's states. It starts on a matching peer or is refused; the ACTIVE accepts or refuses; an abort from either side, a
refusal and the two timeouts end it with their reasons, counted; a frame that changes nothing of it still counts as received; the fill time ends it with the node state-proven. A state digest is
sent or kept at its window's end, and a differing press makes the STANDBY DIVERGED. -/
def Obligations.RestrikeCommands : Prop :=
  ∀ (s : State) (c : Fin 8) (f : PairFrame),
    let p := f.payload
    let received := (rxHead s f.head 0x88B5 5).1.regs
    let aborted := fun (t : State) (why : Nat) => rsState t = 0 ∧ getF t F.RS_STAT_LAST_ABORT = why ∧
      getR t R.RS_ABORT_CNT = satAdd (getR s R.RS_ABORT_CNT) 1
    (Served s c 0x0806 (· == 0) → ∃ t, exec (.restrikeStart c) s = .next t ∧
      (∀ code, restrikeRefusal s = some code → AnsweredRefused s t c code 0 ∧ t.rs = s.rs) ∧
      (restrikeRefusal s = none → AnsweredOk s t c [] ∧ rsState t = 1 ∧ t.rs.startAt = s.sctr.toNat ∧
        isF t F.PAIR_STAT_MATCHED = false ∧ isF t F.PAIR_STAT_PROMOTABLE = false)) ∧
    (Served s c 0x0807 (· == 0) → ∃ t, exec (.restrikeAbort c) s = .next t ∧
      (rsState s = 0 → s.rs.serve = none → AnsweredRefused s t c 0x0832 0 ∧ t.rs = s.rs) ∧
      (rsState s ≠ 0 → AnsweredOk s t c [] ∧ aborted t 8) ∧
      (rsState s = 0 → s.rs.serve ≠ none → AnsweredOk s t c [] ∧ t.rs.serve = none)) ∧
    (ChunkOk s f 1 → ∃ t, exec (.restrikeStartReceive f) s = .next t ∧
      (canServeRs s = true → t.rs.serve = some ⟨s.sctr.toNat + 4, 0, false, 0, 0, false, false, 0, leAt p 3 1⟩) ∧
      (canServeRs s = false → t.rs = s.rs)) ∧
    (ChunkOk s f 2 → ∃ t, exec (.restrikeAccept f) s = .next t ∧
      (rsState s = 1 → rsState t = 2 ∧ t.rs.c0 = leAt p 8 8 ∧ t.rs.q = 0) ∧ (rsState s ≠ 1 → t.rs = s.rs ∧ t.regs = received)) ∧
    (ChunkOk s f 3 → ∃ t, exec (.restrikeRefuse f) s = .next t ∧
      (rsState s = 1 → aborted t 11) ∧ (rsState s ≠ 1 → t.rs = s.rs ∧ t.regs = received)) ∧
    (ChunkOk s f 4 → ∃ t, exec (.restrikeAbortReceive f) s = .next t ∧
      (rsState s ≠ 0 → aborted t (leAt p 4 2 % 16)) ∧ (rsState s = 0 → t.rs.serve = none)) ∧
    (rsState s = 1 → s.rs.startAt + 96 ≤ s.sctr.toNat → ∃ t, exec .restrikeRequestTimeout s = .next t ∧ aborted t 1) ∧
    (chunksGone s = true → ∃ t, exec .restrikeChunkTimeout s = .next t ∧ aborted t 10) ∧
    (ChunkOk s f 8 → ∃ t, exec (.unitAck f) s = .next t ∧ t.regs = received ∧
      (∀ x, s.rs.serve = some x → x.unit = leAt p 4 2 → x.out = true → t.rs.serve = some { x with acked := true }) ∧
      (∀ x, s.rs.serve = some x → (x.unit ≠ leAt p 4 2 ∨ x.out = false) → t.rs.serve = some x)) ∧
    (ChunkOk s f 9 → ∃ t, exec (.unitNack f) s = .next t ∧ t.rs = s.rs ∧ t.regs = received) ∧
    (fillOver s = true → ∃ t, exec .restrikeDone s = .next t ∧ rsState t = 0 ∧ isF t F.RS_STAT_PROVEN = true ∧
      isF t F.PAIR_STAT_DIVERGED = false ∧ isF t F.DIGEST_MISM_INFO_VALID = false ∧
      getR t R.RS_DONE_CNT = satAdd (getR s R.RS_DONE_CNT) 1 ∧ t.rs.doneTotal = s.rs.doneTotal + 1) ∧
    (∀ x, s.rs.sdDue = some x → ∃ t, exec .stateDigestWindowEnd s = .next t ∧ t.rs.sdDue = none ∧
      (roleOf s = roleStandby → fillTime s ≤ (getR s R.RS_FILL).toNat → t.rs.sdOwn = some x) ∧
      (roleOf s = roleActive → t.rs.sdOwn = s.rs.sdOwn)) ∧
    (∀ l : List Word, FrameOk s f 4 → roleOf s = roleStandby → s.rs.sdDue = none → s.rs.sdOwn = some (leAt p 0 8, l) →
      let bad := fun (i : Fin 4) => BitVec.ofNat 32 (leAt p (12 + 4 * i.val) 4) ≠ l.getD i.val 0
      ∃ t, exec (.stateDigestReceive f) s = .next t ∧ t.rs.sdOwn = none ∧ getR t R.SD_LAST = BitVec.ofNat 32 (leAt p 0 8) ∧
        ((∃ i, bad i) → isF t F.PAIR_STAT_DIVERGED = true ∧ isF t F.RS_STAT_PROVEN = false ∧
          isF t F.SD_MISM_VALID = true ∧ ∀ i, wbit (getR t R.SD_MISM) i.val = true ↔ bad i) ∧
        ((∀ i, ¬ bad i) → isF t F.PAIR_STAT_DIVERGED = isF s F.PAIR_STAT_DIVERGED ∧
          (s.rs.provenNext = true → isF t F.RS_STAT_PROVEN = true)))

/-- The restrike's data. The ACTIVE copies the chunk of each boundary, the ramp snapshot and the unit at its copy point, once each; the
STANDBY keeps the parts that belong to its state, and replays the unit that is due exactly in its sp, with its parts in before it and its
inputs at hand: any other unit is counted as a failure, and too many abort. -/
def Obligations.RestrikeData : Prop :=
  ∀ (s : State) (f : PairFrame),
    let p := f.payload
    let n := extendSctr s f.sctrLo.toNat
    let now := s.sctr.toNat
    let received := (rxHead s f.head 0x88B5 5).1.regs
    (∀ x b, copyDue s = some x → issuingBank s = some b →
      ∃ t, exec .coefficientChunkCopy s = .next t ∧ t.rs = { s.rs with serve := some { x with q := x.q + 1 } }) ∧
    (ChunkOk s f 5 → ∃ t, exec (.coefficientChunkReceive f) s = .next t ∧ t.regs = received ∧
      (rsState s = 2 → t.rs = { s.rs with coef := keepPart s.rs.coef p n now, chunkAt := s.sctr.toNat }) ∧
      (rsState s ≠ 2 → t.rs = s.rs)) ∧
    (∀ x, snapshotDue s = some x →
      ∃ t, exec .rampSnapshot s = .next t ∧ t.eng = s.eng ∧
        t.rs = { s.rs with serve := some { x with ramps := true, unit := 0, copyAt := s.sctr.toNat + 5 } }) ∧
    (ChunkOk s f 6 → ∃ t, exec (.rampPartReceive f) s = .next t ∧ t.regs = received ∧
      (rsState s = 2 ∨ rsState s = 3 → t.rs = { s.rs with ramps := some (addPart s.rs.ramps p n now), chunkAt := s.sctr.toNat }) ∧
      (rsState s ≠ 2 → rsState s ≠ 3 → t.rs = s.rs)) ∧
    (∀ x q, s.rs.serve = some x → s.rs.copying = some q → x.out = false → copyReady s q.1 x.unit = true →
      ∃ t, exec .copyPoint s = .next t ∧ t.rs = { s.rs with serve := some { x with out := true } }) ∧
    (ChunkOk s f 7 → ∃ t, exec (.unitPartReceive f) s = .next t ∧ t.regs = received ∧
      (rsState s = 4 → t.rs = { s.rs with units := keepPart s.rs.units p n now, chunkAt := s.sctr.toNat }) ∧
      (rsState s ≠ 4 → t.rs = s.rs)) ∧
    (∀ u, unitDue s = some u →
      let d := getF s F.RS_CFG_D
      let l := unitOf s u.index
      let exact := (chunkData u).isSome = true ∧ u.at_ + d = now ∧ u.cameAt < now ∧ ringHolds s l u.at_ d = true
      ∃ t, exec .unitReplay s = .next t ∧
        (exact → (press s ((l.map (·.press)).headD 0)).slot ≤ 144 → getF t F.RS_STAT_FAILS = 0 ∧ t.rs.unit = u.index + l.length ∧
          t.rs.replay = some ⟨(l.map (·.press)).headD 0, u.at_, d, l.map (fun g => ⟨g.replayAt, g.loadSlots, g.passSlots, g.inputs⟩)⟩ ∧
          (t.rs.unit < (issuingGroups s).length → rsState t = 4) ∧
          ((issuingGroups s).length ≤ t.rs.unit → rsState t = 5 ∧ t.rs.fillFrom = some s.sctr.toNat)) ∧
        (¬ exact → t.rs.replay = s.rs.replay ∨ getF s F.RS_CFG_RETRIES ≤ getF s F.RS_STAT_FAILS + 1) ∧
        (¬ exact → getR t R.RS_RETRY_CNT = satAdd (getR s R.RS_RETRY_CNT) 1) ∧
        (¬ exact → getF s F.RS_CFG_RETRIES ≤ getF s F.RS_STAT_FAILS + 1 → rsState t = 0 ∧ getF t F.RS_STAT_LAST_ABORT = 7) ∧
        (¬ exact → getF s F.RS_STAT_FAILS + 1 < getF s F.RS_CFG_RETRIES →
          rsState t = 4 ∧ t.rs.unit = s.rs.unit ∧ getF t F.RS_STAT_FAILS = getF s F.RS_STAT_FAILS + 1))

/-- Self-tests. A BIST pass begins the next, its wrong signature shown but no own fault; a sense cross-check runs on the next enabled
channel and is judged by its limits; `PRESS_SELFTEST` is refused or tests the named presses in turn, a failing one FAULTED. -/
def Obligations.SelfTests : Prop :=
  ∀ (s : State) (c : Fin 8) (p : Fin 4) (bad : Bool),
    let m := arg s c 0 1
    (bistOver s p = true →
      ∃ t, exec (.bistPassEnd p bad) s = .next t ∧ (p.val, s.sctr.toNat) ∈ t.rs.bist ∧
        getF t F.SELFTEST_STAT_BIST_FAIL = (if bad then getF s F.SELFTEST_STAT_BIST_FAIL ||| 2 ^ p.val else
          getF s F.SELFTEST_STAT_BIST_FAIL) ∧
        getF t F.SELFTEST_STAT_BIST_RUN = getF s F.SELFTEST_STAT_BIST_RUN) ∧
    (∀ n, senseDue s = some n → ∃ t, exec .senseCheckStart s = .next t ∧ t.rs.sense = some ⟨n, s.sctr.toNat, 0, 0, 0, false⟩ ∧
      t.rs.senseAt = s.sctr.toNat ∧ t.rs.senseLast = n) ∧
    (∀ k, senseOver s = some k → k.ch < 16 → ∃ t, exec .senseCheckEnd s = .next t ∧ t.rs.sense = none ∧
      (k.n = 0 ∨ roleOf s ≠ roleStandby → t.regs = s.regs) ∧
      (k.n ≠ 0 → roleOf s = roleStandby → (getF t F.SELFTEST_STAT_SENSE_FAIL / 2 ^ k.ch % 2 = 1 ↔ senseFault s k ≠ none) ∧
        (senseFault s k ≠ none → isF t F.PAIR_STAT_OWN_FAULT = true))) ∧
    (Served s c 0x06F1 (· == 1) → ∃ t, exec (.pressSelftest c) s = .next t ∧
      (∀ code, selftestRefusal s m = some code → AnsweredRefused s t c code 0 ∧ t.rs = s.rs) ∧
      (selftestRefusal s m = none → AnsweredOk s t c [] ∧ isF t F.SELFTEST_STAT_TEST_RUN = true ∧
        ∃ q : Fin 4, t.rs.testing = some (q.val, s.sctr.toNat) ∧ m / 2 ^ q.val % 2 = 1 ∧ (∀ r : Fin 4, r < q → m / 2 ^ r.val % 2 = 0) ∧
          getF t F.SELFTEST_STAT_BIST_RUN / 2 ^ q.val % 2 = 0 ∧ isF t (F.PRESS_STAT_GATED q.val) = false)) ∧
    (∀ since, s.rs.testing = some (p.val, since) → since + 960 ≤ s.sctr.toNat →
      ∃ t, exec (.pressSelftestDone bad) s = .next t ∧ (press t p).mem = [] ∧
        (bad = true → isF t (F.PRESS_STAT_FAULTED p) = true ∧ Sticky t 6 p) ∧
        (bad = false → isF t (F.PRESS_STAT_FAULTED p) = isF s (F.PRESS_STAT_FAULTED p)) ∧
        (∀ q rest, s.rs.tests = q :: rest → t.rs.testing = some (q, s.sctr.toNat) ∧ t.rs.tests = rest) ∧
        (s.rs.tests = [] → t.rs.testing = none))

/-- R93, R94. `PRESS_FAULT_CLEAR` clears the fault state of the presses of its mask and of no other, in every pair role and whatever
apply-at holds; a mask that is zero or has a bit in [7:4] is refused, and changes nothing but the reports of its channel. -/
def Obligations.PressFaultClear : Prop :=
  ∀ (s : State) (c : Fin 8) (p : Fin 4), Served s c 0x06F0 (· == 1) →
    let m := arg s c 0 1
    ∃ t, exec (.pressFaultClear c) s = .next t ∧ AudioKept s t ∧ ControlKept s t ∧
      (m = 0 ∨ 16 ≤ m → (∃ d, AnsweredRefused s t c 0x06F8 d) ∧ RegsKept s t (channelReg c)) ∧
      (0 < m → m < 16 → AnsweredOk s t c [] ∧
        (m / 2 ^ p.val % 2 = 1 → isF t (F.PRESS_STAT_FAULTED p) = false ∧ isF t (F.PRESS_STAT_MISMATCH p) = false ∧
          isF t (F.PRESS_STAT_ECC_UNC p) = false ∧ isF t (F.PRESS_STAT_MUTED p) = false ∧ getR t (R.MISM_INFO p) = 0 ∧
          getR t (R.ECC_UNC_INFO p) = 0) ∧
        (m / 2 ^ p.val % 2 = 0 → getR t (R.PRESS_STAT p) = getR s (R.PRESS_STAT p) ∧ getR t (R.MISM_INFO p) = getR s (R.MISM_INFO p)))

/-! ### Mailboxes and functions -/

/-- Mailboxes, functions and CP restarts. A doorbell makes an unlocked channel PENDING with its response area zero, or answers at once
while the CP cannot; a locked channel drops it. A function's check is awaited, refused with its code and field, or passed; its stop
ends DISABLED. Blocks are written, read and restored within their bounds. A restart answers BUSY to what is pending, and halts at the
fourth expiry in 60 s. -/
def Obligations.MailboxAndFunctions : Prop :=
  ∀ (s : State) (c : Fin 8) (f : Fin 256),
    let q := reqOf s c
    let p := q.payload
    let o := leAt p 0 2
    let n := leAt p 2 2
    let st := fun (t : State) => getF t (F.MB_STAT_STATE c.val)
    let busy := fun (t : State) (d : Nat) => Answered t c 2 0 q.tag d [] ∧ isF t (F.MB_STAT_HW_ANSWER c.val) = true
    (hostReaches s = true → ∃ t, exec (.mbDoorbell c true) s = .next t ∧ AudioKept s t ∧ ControlKept s t ∧
      (mbUnlocked s c = true → cpIsRunning s = true → opcodes.contains q.opcode = true →
        st t = mbPending ∧ ∀ i, i < 512 → memGet t.cp.mbx (mbRspArea c + i) = 0) ∧
      (mbUnlocked s c = true → cpIsRunning s = true → opcodes.contains q.opcode = false → Answered t c 4 0x0122 q.tag 0 []) ∧
      (mbUnlocked s c = true → cpRestarting s = true → busy t 0) ∧
      (mbUnlocked s c = true → cpIsHalted s = true → busy t 2) ∧
      (mbUnlocked s c = false → st t = st s ∧ isF t (F.MB_STAT_RING_DROP c.val) = true ∧ Sticky t 1 4 ∧ t.cp.mbx = s.cp.mbx)) ∧
    (∀ (off : Fin 512) (data : List Byte), hostReaches s = true → ∃ t, exec (.mbRequestWrite c off data) s = .next t ∧
      (mbUnlocked s c = true → t.regs = s.regs ∧
        ∀ i, i < data.length → off.val + i < 512 → memGet t.cp.mbx (mbReqArea c + off + i) = data.getD i 0) ∧
      (mbUnlocked s c = false → t.cp.mbx = s.cp.mbx ∧ isF t (F.MB_STAT_WR_DROP c.val) = true ∧ Sticky t 1 4)) ∧
    (Served s c 0x0101 (· == 0) → ∃ t, exec (.sysInfo c) s = .next t ∧ AnsweredOk s t c (sysInfoBytes s)) ∧
    (Served s c 0x0107 (fun _ => true) → ∃ t, exec (.mbEcho c) s = .next t ∧ AnsweredOk s t c p) ∧
    (ServedFn s c 0x0105 (· == 0) → ∃ t, exec (.fnQuery c) s = .next t ∧ AnsweredOk s t c (queryBytes s q.fn)) ∧
    (ServedFn s c 0x0102 (cfgLenOk p) → ∃ t, exec (.fnCfgWrite c) s = .next t ∧ AudioKept s t ∧ ControlKept s t ∧
      let ws := leWords ((p.drop 4).take (4 * n))
      let wdt := (ws.getD 0 0).toNat % 32
      (∀ code, cfgLocked s q.fn = some code → AnsweredRefused s t c code 0) ∧
      (cfgLocked s q.fn = none → cfgInRange q.fn o n = false → AnsweredRefused s t c 0x0126 0) ∧
      (q.fn = 0 → cfgInRange 0 o n = true → (wdt < 10 ∨ 30 < wdt) → AnsweredRefused s t c 0x0128 0) ∧
      (cfgLocked s q.fn = none → cfgInRange q.fn o n = true → (q.fn = 0 → 10 ≤ wdt ∧ wdt ≤ 30) → AnsweredOk s t c [] ∧
        ∀ i, i < n → getR t (cfgKey q.fn (o + 4 * i)) = ws.getD i 0 &&& cfgMask q.fn (o + 4 * i))) ∧
    (ServedFn s c 0x0103 (· == 4) → ∃ t, exec (.fnCfgRead c) s = .next t ∧
      (cfgInRange q.fn o n = false → AnsweredRefused s t c 0x0126 0) ∧
      (cfgInRange q.fn o n = true →
        AnsweredOk s t c ((List.range n).flatMap (fun i => le 4 (getR s (cfgKey q.fn (o + 4 * i))).toNat)))) ∧
    (ServedFn s c 0x0104 (· == 0) → ∃ t, exec (.fnCfgDefault c) s = .next t ∧
      (∀ code, cfgLocked s q.fn = some code → AnsweredRefused s t c code 0) ∧
      (cfgLocked s q.fn = none → AnsweredOk s t c [] ∧ ∀ i, i < cfgLen q.fn / 4 →
        getR t (cfgKey q.fn (4 * i)) = (((cfgReset q.fn).find? (fun x => x.1 == 4 * i)).map (·.2)).getD 0 &&& cfgMask q.fn (4 * i))) ∧
    (Served s c 0x0106 (· == 0) → ∃ t, exec (.cpRestart c) s = .next t ∧
      (longWork s = true → AnsweredRefused s t c 0x0129 0 ∧ cpIsRunning t = true) ∧
      (longWork s = false → AnsweredOk s t c [] ∧ cpRestarting t = true ∧ getF t F.CP_STAT_LAST_CAUSE = 3 ∧
        getR t R.CP_RESTARTS = getR s R.CP_RESTARTS + 1)) ∧
    (hostReaches s = true → fnPresent s f = true → cpIsRunning s = true → fnBusy s f = false →
      (fnState s f = fnDisabled → ∃ t, exec (.fnEnable f) s = .next t ∧ fnBusy t f = true ∧ fnState t f = fnDisabled) ∧
      (f.val ≠ 0x00 → f.val ≠ 0x68 → (fnState s f = fnEnabled ∨ fnState s f = fnFaulted) →
        ∃ t, exec (.fnDisable f) s = .next t ∧ fnState t f = fnStopping ∧ isF t (F.FN_CTL_ENABLE f.val) = false)) ∧
    (hostReaches s = true → fnPresent s f = true → cpIsRunning s = false →
      (∃ t, exec (.fnEnable f) s = .next t ∧ fnBusy t f = true ∧ ∃ b, (f.val, true, b) ∈ t.cp.held) ∧
      (∃ t, exec (.fnDisable f) s = .next t ∧ fnBusy t f = true ∧ ∃ b, (f.val, false, b) ∈ t.cp.held)) ∧
    (∀ ext : Option Byte, fnChecking s f = true → ∃ t, exec (.fnEnabled f ext) s = .next t ∧ fnBusy t f = false ∧
      (∀ code field, fnCheck s f ext = some (code, field) → fnState t f = fnDisabled ∧
        getF t (F.FN_CTL_REFUSAL f.val) = code % 65536 ∧ getF t (F.FN_STAT_FIELD f.val) = field % 65536 ∧
        AudioKept s t ∧ ControlKept s t) ∧
      (fnCheck s f ext = none → fnState t f = fnEnabled ∧ isF t (F.FN_CTL_ENABLE f.val) = true ∧
        getF t (F.FN_CTL_REFUSAL f.val) = 0 ∧ getF t (F.FN_STAT_FIELD f.val) = 0xFFFF)) ∧
    (fnStopOver s f = true → ∃ t, exec (.fnStopped f) s = .next t ∧ fnState t f = fnDisabled ∧ AudioKept s t ∧ ControlKept s t) ∧
    (cpIsRunning s = true → ∃ t, exec .cpWatchdog s = .next t ∧ Sticky t 1 0 ∧
      ((recentExpiries s).length < 4 → cpRestarting t = true ∧ getF t F.CP_STAT_LAST_CAUSE = 1 ∧
        getR t R.CP_RESTARTS = getR s R.CP_RESTARTS + 1 ∧ (st s = mbPending → busy t 0)) ∧
      (4 ≤ (recentExpiries s).length → cpIsHalted t = true ∧ Sticky t 1 1 ∧ (st s = mbPending ∨ st s = mbRunning → busy t 2))) ∧
    (cpRestarting s = true → ∃ t, exec .cpRestarted s = .next t ∧ cpIsRunning t = true ∧ t.cp.held = [] ∧ t.cp.late = [] ∧
      t.cp.interrupted = [])

/-! ### The host link and the buses -/

/-- The host link. Link, endpoint resets, failed transfers, interrupt enables, semaphores and rings act on their own registers, and
leave every unit that carries audio as it was, but for the conversion services' transfers in flight. -/
def Obligations.HostLink : Prop :=
  ∀ (s : State) (c : Fin 8) (a : Fin 4) (k : Fin 32) (r : Fin 4),
    let lo := arg s c 0 4
    let len := arg s c 4 4
    (∀ (sp : Fin 4) (wd : Fin 3) (bme msix pme : Bool) (mps mrrs : BitVec 16), pciePowered s = true →
      isF s F.HL_STAT_LINK_UP = false → sp.val ≠ 0 → wd.val ≠ 0 →
      ∃ t, exec (.hlLinkUp sp wd bme msix pme mps mrrs) s = .next t ∧ AudioKept s t ∧ ControlKept s t ∧
        isF t F.HL_STAT_LINK_UP = true ∧ getF t F.HL_STAT_SPEED = sp.val ∧ getF t F.HL_STAT_WIDTH = wd.val ∧
        isF t F.HL_STAT_BME = bme ∧ isF t F.HL_STAT_MSIX = msix ∧ isF t F.HL_STAT_D3HOT = false ∧ t.host.pme = pme ∧
        t.host.mps = mps.toNat ∧ t.host.mrrs = mrrs.toNat ∧ t.host.pcieWake = false) ∧
    (∀ cause : Fin 6, pciePowered s = true → epCause s cause.val = true →
      ∃ t, exec (.endpointReset cause) s = .next t ∧ ControlKept s t ∧ isF t F.HL_STAT_LINK_UP = false ∧ isF t F.HL_STAT_BME = false ∧
        isF t F.HL_STAT_D3HOT = (cause.val == 5) ∧ getR t R.IRQ_ENABLE = 0 ∧ isF t (F.RING_CTL_EN r.val) = false ∧
        Sticky t 13 0 ∧ t.host.epResets = s.host.epResets + 1 ∧ (∀ x ∈ t.host.sem, x.2 ≠ 0) ∧
        (∀ x ∈ s.host.sem, x.2 ≠ 0 → x ∈ t.host.sem) ∧ t.host.pme = false) ∧
    (∀ (err : Fin 5) (d : Option Desc), r.val ≠ 0 → err.val ≠ 0 → bufPosted s r.val = true →
      ∃ t, exec (.dmaError r err d) s = .next t ∧ isF t (F.RING_CTL_EN r.val) = false ∧ getF t (F.RING_CTL_ERR r.val) = err.val ∧
        Sticky t 13 1 ∧ wbit (getR t R.IRQ_STATUS) 14 = true ∧ t.dsp = s.dsp ∧ t.eng = s.eng ∧ ControlKept s t) ∧
    (∀ w : Word, hostReaches s = true →
      ∃ t, exec (.irqEnableWrite w) s = .next t ∧ AudioKept s t ∧ ControlKept s t ∧ getR t R.IRQ_ENABLE = w &&& 0x7FFF ∧
        getR t R.IRQ_STATUS = getR s R.IRQ_STATUS ∧
        ∀ b, b < 15 → isF s F.HL_STAT_MSIX = false → wbit w b = true → wbit (getR s R.IRQ_ENABLE) b = false →
          wbit (getR s R.IRQ_STATUS) b = true → Out.irq b ∈ t.out) ∧
    (agentHere s a = true →
      (∃ t, exec (.semaphoreRead a k) s = .next t ∧ t.out = s.out ++ [.read [semWord s k a]] ∧ t.regs = s.regs ∧
        AudioKept s t ∧ ControlKept s t ∧ semOwner t k = some ((semOwner s k).getD a.val) ∧
        ∀ j : Fin 32, j ≠ k → semOwner t j = semOwner s j) ∧
      (∃ t, exec (.semaphoreWrite a k) s = .next t ∧ AudioKept s t ∧ ControlKept s t ∧
        (semOwner s k = some a.val → semOwner t k = none ∧ t.regs = s.regs) ∧
        (semOwner s k ≠ some a.val → t.host = s.host ∧ getR t R.HL_RO_DROP = satAdd (getR s R.HL_RO_DROP) 1) ∧
        ∀ j : Fin 32, j ≠ k → semOwner t j = semOwner s j)) ∧
    (hostReaches s = true → isF s (F.RING_CTL_EN r.val) = false →
      let u := ringSize s r
      ∃ t, exec (.ringEnable r) s = .next t ∧ AudioKept s t ∧ ControlKept s t ∧
        (∀ code, ringCheck u r = some code → getF t (F.RING_CTL_REFUSAL r.val) = code ∧ isF t (F.RING_CTL_EN r.val) = false) ∧
        (ringCheck u r = none → getF t (F.RING_CTL_REFUSAL r.val) = 0 ∧ isF t (F.RING_CTL_EN r.val) = true ∧
          getR t (R.RING_TAIL r.val) = 0)) ∧
    (∀ head : BitVec 17, hostReaches s = true →
      ∃ t, exec (.ringHeadWrite r head) s = .next t ∧ AudioKept s t ∧ ControlKept s t ∧
        ((isF s (F.RING_CTL_EN r.val) && headBad s r head.toNat) = true → isF t (F.RING_CTL_HEAD_ERR r.val) = true ∧
          getR t (R.RING_HEAD r.val) = getR s (R.RING_HEAD r.val)) ∧
        ((isF s (F.RING_CTL_EN r.val) && headBad s r head.toNat) = false → getR t (R.RING_HEAD r.val) = head.setWidth 32)) ∧
    (Served s c 0x0D01 (· == 0) → ∃ t, exec (.hlLinkInfo c) s = .next t ∧ AnsweredOk s t c (linkInfoBytes s)) ∧
    (Served s c 0x0D02 (· == 8) → ∃ t, exec (.stagingCrc c) s = .next t ∧
      (len % 4 ≠ 0 ∨ 0x200000 < lo + len → AnsweredRefused s t c 0x0D24 0) ∧
      (len % 4 = 0 → lo + len ≤ 0x200000 → AnsweredOk s t c (le 4 (crc32c (memGetList s.host.staging lo len)).toNat)))

/-- Reads and writes. A sticky fault register takes a write of ones, and a plain register its writable bits; a reserved offset is
counted for a host; the staging area takes bytes where no image holds it; a read returns its dword and clears its RC bits. The time
and stamp readouts latch whole. The SPI target's transactions do the same, and a bad one is a frame error. -/
def Obligations.RegisterAccesses : Prop :=
  ∀ (s : State) (a : Fin 4) (off : BitVec 24) (be : BitVec 4) (w : Word) (cyc : Fin 10240),
    let o := off.toNat
    let at_ := o - 0x800000
    let window := 0x800000 ≤ o ∧ o < 0xA00000
    let held := isF s F.FW_STAT_HOLD = true ∧ at_ < 1572864
    let normal := nodeState s ≠ nsBoot ∧ agentReaches s a = true ∧ o % 4 = 0
    let bad := fun (t : State) => t.host.frameErr = true ∧ t.host.spiDone = false ∧ Sticky t 13 5 ∧
      getR t R.SPIT_ERR_CNT = satAdd (getR s R.SPIT_ERR_CNT) 1 ∧ t.host.staging = s.host.staging
    (∀ (f : Fin 14) (x : RegRow), normal → o = R.SFAULT (f.val + 1) → regAccess o = some x →
      ∃ t, exec (.registerWrite a .bar0 off 0xF w cyc) s = .next t ∧ AudioKept s t ∧ ControlKept s t ∧
        getR t o = (((getR s o &&& ~~~x.rw) ||| (w &&& x.rw)) &&& ~~~(w &&& x.w1c)) ∧ getR t R.SFAULT_SUM = faultSum t) ∧
    (normal → a.val < 2 → regAccess o = none → inMbx o = false → inBank o = false →
      ∃ t, exec (.registerWrite a .bar0 off be w cyc) s = .next t ∧ AudioKept s t ∧ ControlKept s t ∧
        getR t R.HL_UNMAPPED = satAdd (getR s R.HL_UNMAPPED) 1 ∧ Sticky t 13 3) ∧
    (agentReaches s a = true → o % 4 = 0 → window →
      ∃ t, exec (.registerWrite a .bar2 off be w cyc) s = .next t ∧ AudioKept s t ∧ ControlKept s t ∧
        (held → t.host = s.host ∧ getR t R.HL_RO_DROP = satAdd (getR s R.HL_RO_DROP) 1) ∧
        (¬ held → t.regs = s.regs ∧ ∀ i, memGet t.host.staging i =
          if at_ ≤ i ∧ i < at_ + 4 ∧ wbit (be.setWidth 32) (i - at_) = true then (w >>> (8 * (i - at_))).setWidth 8
          else memGet s.host.staging i)) ∧
    (∀ x : RegRow, normal → regAccess o = some x → inMbx o = false → inBank o = false → ¬ (0x400 ≤ o ∧ o < 0xC00) →
      ¬ (0x3200 ≤ o ∧ o < 0x3280) → o ≠ R.SCTR_LO → ¬ (0x8000 ≤ o ∧ o < 0x8400 ∧ o % 0x40 = 4) →
      ∃ t, exec (.readClearCounter a .bar0 off cyc) s = .next t ∧ AudioKept s t ∧ ControlKept s t ∧
        t.out = s.out ++ [.read [getR s o]] ∧ getR t o = getR s o &&& ~~~x.rc ∧ ∀ o', o' ≠ o → getR t o' = getR s o') ∧
    (hostReaches s = true → ∃ t, exec (.sctrLoRead cyc) s = .next t ∧ AudioKept s t ∧ ControlKept s t ∧
      t.out = s.out ++ [.read [s.sctr.setWidth 32]] ∧ getR t R.SCTR_LO = s.sctr.setWidth 32 ∧
      getR t R.SCTR_HI = (s.sctr >>> 32).setWidth 32 ∧ getR t R.SCTR_FRAC = (fracOf cyc.val).setWidth 32 ∧
      (getF s F.TIME_STAT_SCTR_STATE ≠ timeUnset → getR t R.TAI_NS = BitVec.ofNat 32 (taiNs s cyc.val % 10 ^ 9) ∧
        getR t R.TAI_SEC_LO = BitVec.ofNat 32 (taiNs s cyc.val / 10 ^ 9))) ∧
    (∀ n : Fin 16, hostReaches s = true → ∃ t, exec (.sapStampLoRead n) s = .next t ∧ AudioKept s t ∧ ControlKept s t ∧
      t.out = s.out ++ [.read [BitVec.ofNat 32 (sapPort s n.val).stampAt]] ∧
      getR t (R.SAP_STAMP_FRAC n) = (sapPort s n.val).stampFrac.setWidth 32) ∧
    (∀ (cmd space : Byte) (data : List Byte) (cycles : List (Fin 10240)), agentReaches s 1 = true →
      cmd ≠ 0x0B → cmd ≠ 0x05 → cmd ≠ 0x9F → ∃ t, exec (.spiWrite cmd space off data cycles) s = .next t ∧
      (cmd ≠ 0x02 ∨ (space ≠ 0 ∧ space ≠ 2) ∨ o % 4 ≠ 0 → bad t) ∧
      (cmd = 0x02 → space = 2 → o % 4 = 0 → 0x800000 ≤ o → o + data.length ≤ 0xA00000 → data.length % 4 = 0 →
        isF s F.FW_STAT_HOLD = false → t.host.spiDone = true ∧ memGetList t.host.staging at_ data.length = data ∧ t.regs = s.regs)) ∧
    (∀ (space : Byte) (n : BitVec 16), agentReaches s 1 = true → ∃ t, exec (.spiRead space off n [] cyc) s = .next t ∧
      ((space ≠ 0 ∧ space ≠ 2) ∨ o % 4 ≠ 0 → bad t) ∧
      (space = 2 → o % 4 = 0 → 0x800000 ≤ o → o + n.toNat ≤ 0xA00000 → n.toNat % 4 = 0 →
        t.out = s.out ++ [.target (memGetList s.host.staging at_ n.toNat)] ∧ t.host.spiDone = true ∧ t.regs = s.regs)) ∧
    (agentReaches s 1 = true →
      (∃ t, exec .spiStatus s = .next t ∧ t.out = s.out ++ [.target [spitStat s]] ∧ t.host.frameErr = false ∧
        t.host.readLate = false ∧ t.host.spiDone = true ∧ t.regs = s.regs) ∧
      (∃ t, exec .spiIdentity s = .next t ∧ t.out = s.out ++ [.target (le 4 (getR s R.ID_DEVICE).toNat)] ∧ t.host.spiDone = true ∧
        t.regs = s.regs))

/-! ### The event recorder -/

/-- The recorder. The writer takes a rewrite that is due, else the head of the FIFO under the next sequence number, else the drop
summary; a read latches its slot and returns its dwords; an uncorrectable error makes the log memory DEGRADED; a repair maps segments
out and ends RUNNING or DEGRADED; the clears empty what they name; and the event ring's timers act. -/
def Obligations.RecorderCommands : Prop :=
  ∀ (s : State) (c : Fin 8) (slot : Fin 4096),
    let state := getF s F.LOG_STAT_STATE
    let seq := getR s R.LOG_SEQ_NEXT
    let next := if seq = 0xFFFFFFFF then 1 else seq + 1
    let at_ := fun (t : State) (k : Nat) => (t.log.slots.find? (fun x => x.1 == k)).map (·.2)
    let none_due := s.log.rewrites.find? (fun w => w.ahead == 0) = none
    (∀ w, s.log.rewrites.find? (fun w => w.ahead == 0) = some w → w.bank = false →
      ∃ t, exec (.logRecordWrite false) s = .next t ∧ AudioKept s t ∧ ControlKept s t ∧ at_ t w.slot = some w.content ∧
        t.log.fifo = s.log.fifo ∧ getR t R.LOG_SEQ_NEXT = seq) ∧
    (∀ e rest, none_due → s.log.fifo = e :: rest → e.sev < 8 →
      ∃ t, exec (.logRecordWrite false) s = .next t ∧ AudioKept s t ∧ ControlKept s t ∧ t.log.fifo = rest ∧
        isF t F.LOG_STAT_FIFO_FULL = false ∧
        (∀ k, state = 0 → placeFor s e.sev = some k → at_ t k = some { e with seq := seq } ∧ getR t R.LOG_SEQ_NEXT = next ∧
          (logGaspSev s ≤ e.sev → ∃ b ∈ t.log.bank, b.2 = { e with seq := seq, gasp := true })) ∧
        (state = 0 → placeFor s e.sev = none → t.log.slots = s.log.slots ∧ getR t R.LOG_SEQ_NEXT = seq ∧ Sticky t 9 2 ∧
          getR t (R.LOG_DROP e.sev) = satAdd (getR s (R.LOG_DROP e.sev)) 1) ∧
        (state ≠ 0 → e.sev < sevWarning → t.log.bank = s.log.bank ∧ getR t R.LOG_SEQ_NEXT = seq) ∧
        (state ≠ 0 → sevWarning ≤ e.sev → getR t R.LOG_SEQ_NEXT = next ∧
          ∃ b ∈ t.log.bank, b.2 = { e with seq := seq, gasp := true })) ∧
    (∀ d k, none_due → s.log.fifo = [] → s.log.summary = some d → state = 0 → placeFor s sevWarning = some k →
      ∃ t, exec (.logRecordWrite false) s = .next t ∧ t.log.summary = none ∧ getR t R.LOG_SEQ_NEXT = next ∧
        ∃ r, at_ t k = some r ∧ r.seq = seq ∧ r.code = 0x0961 ∧ r.source = 0x50 ∧ r.sev = sevWarning ∧ r.rep = 1 ∧
          r.first = s.sctr.setWidth 48 ∧
          r.args = packArgs (le 2 d.count ++ le 1 d.lowest ++ le 1 d.highest ++ le 4 d.first.toNat)) ∧
    (∀ (bank : Bool) (dw : Fin 8) (n : Fin 9), (bank = true → slot.val < 8) →
      ∃ t, exec (.logSlotRead bank slot dw n false) s = .next t ∧ t.regs = s.regs ∧
        t.out = s.out ++ [.read (((leWords (slotBytes s bank slot)).drop dw.val).take n.val)] ∧ t.log.slots = s.log.slots ∧
        t.log.latch = some ⟨bank, slot.val, slotBytes s bank slot⟩) ∧
    (∀ n : Fin 9, ∃ t, exec (.logSlotRead false slot 0 n true) s = .next t ∧
      t.log.latch = some ⟨false, slot.val, List.replicate 32 0⟩ ∧ slot.val ∈ t.log.bad ∧
      (state = 0 → getF t F.LOG_STAT_STATE = 1 ∧ Sticky t 9 0)) ∧
    (∀ n : BitVec 16, ∃ t, exec (.logScrub n none) s = .next t ∧ t.log = s.log ∧
      getR t R.LOG_ECC_CORR = satAdd (getR s R.LOG_ECC_CORR) n.toNat) ∧
    (∀ n : BitVec 16, state = 0 → ∃ t, exec (.logScrub n (some slot)) s = .next t ∧ getF t F.LOG_STAT_STATE = 1 ∧ Sticky t 9 0 ∧
      isF t F.LOG_GASP_STAT_PINNED = true ∧ getF t F.LOG_GASP_STAT_PIN_SLOT = getF s F.LOG_GASP_STAT_NEXT ∧
      getR t R.LOG_SEQ_NEXT = next ∧ ∃ b ∈ t.log.bank, b.1 = getF s F.LOG_GASP_STAT_NEXT ∧ b.2.code = 0x0960 ∧ b.2.seq = seq ∧
        b.2.args = packArgs (le 2 slot.val ++ le 1 (slot.val / 32))) ∧
    (Served s c 0x0901 (· == 0) → ∃ t, exec (.logRepair c) s = .next t ∧
      (state = 2 → AnsweredRefused s t c 0x0921 0) ∧ (state = 0 ∨ state = 3 → AnsweredRefused s t c 0x0920 0) ∧
      (state = 1 → Waits t c ∧ getF t F.LOG_STAT_STATE = 2 ∧ t.log.repairChannel = some c.val)) ∧
    (∀ failed : List (Fin 128), state = 2 → ∃ t, exec (.logRepaired failed) s = .next t ∧ t.log.repairChannel = none ∧ t.log.bad = [] ∧
      (∀ g ∈ failed, segOut t g = true) ∧ (∀ g : Fin 128, segOut s g = true → segOut t g = true) ∧
      getF t F.LOG_STAT_CAPACITY = 32 * (128 - segsOut t) ∧
      (2 ≤ 128 - segsOut t → getF t F.LOG_STAT_STATE = 0 ∧ isF t F.LOG_GASP_STAT_PINNED = false) ∧
      (128 - segsOut t < 2 → getF t F.LOG_STAT_STATE = 1) ∧
      (s.log.repairChannel = some c.val → AnswersWaiting s t c 0 0 0
        (le 1 (segsOut t) ++ le 1 (if 2 ≤ 128 - segsOut t then 0 else 1) ++ le 2 (32 * (128 - segsOut t))))) ∧
    (Served s c 0x0902 (· == 0) → ∃ t, exec (.logClear c) s = .next t ∧ t.log.bank = s.log.bank ∧
      (state = 2 → AnsweredRefused s t c 0x0921 0 ∧ t.log.slots = s.log.slots) ∧
      (state = 1 ∨ state = 3 → AnsweredRefused s t c 0x0920 0 ∧ t.log.slots = s.log.slots) ∧
      (state = 0 → AnsweredOk s t c [] ∧ t.log.slots = [] ∧ getR t R.LOG_SEQ_OLDEST = 0 ∧ getR t R.LOG_SEQ_NEXT = seq)) ∧
    (Served s c 0x0903 (· == 0) → ∃ t, exec (.logGaspClear c) s = .next t ∧ t.log.slots = s.log.slots ∧
      (state = 2 → AnsweredRefused s t c 0x0921 0 ∧ t.log.bank = s.log.bank) ∧
      (state ≠ 2 → AnsweredOk s t c [] ∧ getF t F.LOG_GASP_STAT_WRAPS = 0 ∧
        (isF s F.LOG_GASP_STAT_PINNED = false → t.log.bank = [] ∧ getF t F.LOG_GASP_STAT_USED = 0 ∧ getF t F.LOG_GASP_STAT_NEXT = 0) ∧
        (isF s F.LOG_GASP_STAT_PINNED = true →
          t.log.bank = s.log.bank.filter (fun x => x.1 == getF s F.LOG_GASP_STAT_PIN_SLOT)))) ∧
    (s.log.holdoff = true → ∃ t, exec .evtHoldoffExpiry s = .next t ∧ t.log.holdoffCopy = false ∧
      (s.log.holdoffCopy = true → wbit (getR t R.IRQ_STATUS) 8 = true ∧ t.log.holdoff = true) ∧
      (s.log.holdoffCopy = false → t.regs = s.regs ∧ t.log.holdoff = false)) ∧
    (∀ q : BitVec 32, s.log.recopy.contains q.toNat = true → ∃ t, exec (.eventRingRecopy q) s = .next t ∧ q.toNat ∉ t.log.recopy ∧
      ∀ x, s.log.slots.find? (fun x => x.2.seq == q) = some x → getF s F.SYS_CFG_EVT_MIN_SEV ≤ x.2.sev →
        (evtRoom s = true → Out.host (ringBase s 0 + 32 * ((getR s (R.RING_TAIL 0)).toNat % (getR s (R.RING_SIZE 0)).toNat))
          (recBytes x.2) ∈ t.out) ∧
        (evtRoom s = false → getR t R.EVT_RING_DROP = satAdd (getR s R.EVT_RING_DROP) 1))

/-! ### The two-wire interfaces -/

/-- The two-wire controllers and target. A transfer is refused, or waits its turn and ends with a result of its table, answered to its
channel; a bus clear frees the bus or ends all that waits; timeouts are counted and clear the bus; attentions go to the CP; the target
moves its pointer, serves its page, answers an alert and times out. -/
def Obligations.TwoWireCommands : Prop :=
  ∀ (s : State) (c : Fin 8) (k : Fin 2) (freed : Option (Fin 9)),
    let q := reqOf s c
    let x0 := twRequest s q
    let kept := fun (t : State) => AudioKept s t ∧ t.clock = s.clock ∧ t.sec = s.sec ∧ t.pair = s.pair ∧ t.rs = s.rs ∧ t.wit = s.wit
    let w := arg s c 3 1
    let on := fnOn s (twFn k) = true
    let me := twc s k
    let arb := le 1 (getF s (F.TWC_STAT_ARB_BYTE k.val)) ++ le 1 (getF s (F.TWC_STAT_ARB_BIT k.val))
    let result := fun (t : State) => getF t (F.TWC_STAT_LAST_RESULT k.val)
    let up := fun (t : State) (o : Nat) => getR t o = satAdd (getR s o) 1
    let cleared := fun (t : State) =>
      (∀ n, freed = some n → isF t (F.TWC_STAT_SDA_STUCK k.val) = false ∧ up t (R.TWC_CLEAR_CNT k)) ∧
      (freed = none → isF t (F.TWC_STAT_SDA_STUCK k.val) = true ∧ Sticky t 10 (2 + k.val) ∧ (twc t k).queue = [])
    (Served s c 0x0A01 (fun n => n == 8 + w || (decide (32 < w) && decide (8 ≤ n))) → ∃ t, exec (.twXfer c) s = .next t ∧ kept t ∧
      (twBadFormat q.payload = true → AnsweredRefused s t c 0x0A25 0) ∧
      (twBadFormat q.payload = false → arg s c 0 1 = k.val →
        (¬ on → AnsweredRefused s t c 0x0A24 0) ∧
        (on → twReserved s k x0.addr = true → AnsweredRefused s t c 0x0A26 x0.addr) ∧
        (on → twReserved s k x0.addr = false → twStuck s k = true →
          AnsweredOk s t c (le 1 6 ++ le 1 0 ++ arb ++ le 1 0 ++ le 3 0)) ∧
        (on → twReserved s k x0.addr = false → twStuck s k = false → Waits t c ∧ (twc t k).queue = me.queue ++ [x0]))) ∧
    (Served s c 0x0A02 (· == 1) → ∃ t, exec (.busClear c freed) s = .next t ∧ kept t ∧
      (1 < arg s c 0 1 → AnsweredRefused s t c 0x0A25 0) ∧
      (arg s c 0 1 = k.val → ¬ on → AnsweredRefused s t c 0x0A24 0) ∧
      (arg s c 0 1 = k.val → on → me.cur.isSome = true → Waits t c ∧ (twc t k).clears = me.clears ++ [c.val]) ∧
      (arg s c 0 1 = k.val → on → me.cur.isSome = false → cleared t ∧
        AnsweredOk s t c (match freed with
          | some n => le 1 (n.val + 1) ++ le 1 0
          | none => le 1 9 ++ le 1 1))) ∧
    (∀ x rest, twMayStart s k = true → me.queue = x :: rest → ∃ t, exec (.twTransferStart k) s = .next t ∧ kept t ∧
      (twc t k).cur = some { x with attempts := x.attempts + 1 } ∧ (twc t k).queue = rest ∧
      isF t (F.TWC_STAT_BUS_BUSY k.val) = true ∧ isF t (F.TWC_STAT_XFER k.val) = true ∧
      t.out = s.out ++ [.twoWire k (twWritten x) x.rstart (twReads x) (twTaken x)] ∧ (x.attempts = 0 → up t (R.TWC_XFER_CNT k))) ∧
    (∀ (x : TwXfer), me.cur = some x →
      (∀ rd pec, rd.length = x.rd → ∃ t, exec (.twTransferEnd k (.ok rd pec)) s = .next t ∧ (twc t k).cur = none ∧
        isF t (F.TWC_STAT_BUS_BUSY k.val) = false ∧
        let bad := x.pec && x.rd != 0 && pec != twPec x rd
        (bad = true → result t = 7 ∧ Sticky t 10 (8 + k.val)) ∧ (bad = false → result t = 0) ∧
        (x.ch = some c.val → AnswersWaiting s t c 0 0 0 (le 1 (if bad then 7 else 0) ++ le 1 (twSent x).length ++ arb ++
          le 1 x.attempts ++ le 3 0 ++ rd))) ∧
      (∀ b, ∃ t, exec (.twTransferEnd k (.nackAddr b)) s = .next t ∧ (twc t k).cur = none ∧ result t = 1 ∧ up t (R.TWC_NACK_CNT k)) ∧
      (∀ n, ∃ t, exec (.twTransferEnd k (.nackData n)) s = .next t ∧ (twc t k).cur = none ∧ result t = 2 ∧ up t (R.TWC_NACK_CNT k)) ∧
      (∀ by_ bit, let retry := isF s (F.TWC_CFG_MULTI (twFn k)) && decide (x.attempts ≤ getF s (F.TWC_CFG_RETRY (twFn k))) && fnOn s (twFn k)
        ∃ t, exec (.twTransferEnd k (.arbLost by_ bit)) s = .next t ∧ (twc t k).cur = none ∧ up t (R.TWC_ARB_CNT k) ∧
        (retry = true → (twc t k).queue = requeue { x with at_ := s.sctr.toNat } me.queue) ∧
        (retry = false → result t = 3 ∧ Sticky t 10 (4 + k.val))) ∧
      (∀ by_, ∃ t, exec (.twTransferEnd k (.arbCond by_)) s = .next t ∧ (twc t k).cur = none ∧ up t (R.TWC_ARB_CNT k) ∧
        result t = 4 ∧ Sticky t 10 (4 + k.val))) ∧
    (∀ x rest, me.cur = none → me.queue = x :: rest → twBusy s k = true → x.at_ + 9600 ≤ s.sctr.toNat →
      ∃ t, exec (.twTransferEnd k .notFree) s = .next t ∧ (twc t k).queue = rest ∧ result t = 6) ∧
    (on → ∀ acked : Fin 68, ∃ t, exec (.sclLowTimeout k acked freed) s = .next t ∧ (twc t k).cur = none ∧ up t (R.TWC_TIMEOUT_CNT k) ∧
      Sticky t 10 k ∧ (me.cur ≠ none → freed ≠ none → result t = 5) ∧ (twStuck s k = false → cleared t)) ∧
    (on → getF s (F.TWC_CFG_ATTN (twFn k)) ≠ 2 → me.cur = none → ∃ t, exec (.sdaLowTimeout k freed) s = .next t ∧ kept t ∧
      (twStuck s k = true → t = s) ∧ (twStuck s k = false → cleared t)) ∧
    (on → me.cur = none → ∃ t, exec (.twBusFree k freed) s = .next t ∧ kept t ∧ isF t (F.TWC_STAT_BUS_BUSY k.val) = false ∧
      (twc t k).clears = [] ∧ (me.clears = [] → isF t (F.TWC_STAT_SDA_STUCK k.val) = false ∧ t.tw = s.tw) ∧
      (me.clears ≠ [] → cleared t)) ∧
    (on → ∃ t, exec (.twBusBusy k) s = .next t ∧ kept t ∧ t.tw = s.tw ∧ isF t (F.TWC_STAT_BUS_BUSY k.val) = true) ∧
    (∀ (fresh : Bool) (ans : Option Byte), twMayServe s k 1 = true → (fresh = true ∨ (me.off = false ∧ me.readAt + 96 ≤ s.sctr.toNat)) →
      ∃ t, exec (.alertResponseRead k fresh ans) s = .next t ∧ kept t ∧ Out.twoWire k.val [] false [0x19] 1 ∈ t.out ∧
        isF t (F.TWC_STAT_ALERT_LOW k.val) = true ∧ (twc t k).readAt = s.sctr.toNat ∧
        (∀ b, ans = some b → (twc t k).miss = 0 ∧ up t (R.TWC_ATTN_CNT k) ∧ getF t (F.TWC_ATTN_ADDR k.val) = b.toNat / 2 ∧
          (me.fifo.length < 8 → (twc t k).fifo = me.fifo ++ [b.toNat / 2])) ∧
        (ans = none → (twc t k).miss = (if fresh then 0 else me.miss) + 1 ∧
          (fresh = false → 7 ≤ me.miss → (twc t k).off = true ∧ Sticky t 10 (6 + k.val)))) ∧
    (∀ bits : Byte, twMayServe s k 2 = true → ∃ t, exec (.inBandRequest k bits freed) s = .next t ∧ kept t ∧
      let good := 0x08 ≤ bits.toNat / 2 ∧ bits.toNat / 2 ≤ 0x77 ∧ bits.toNat % 2 = 1
      (good → up t (R.TWC_ATTN_CNT k) ∧ getF t (F.TWC_ATTN_ADDR k.val) = bits.toNat / 2 ∧ isF t (F.TWC_ATTN_INBAND k.val) = true) ∧
      (¬ good → cleared t)) ∧
    (fnOn s 0x5A = true →
      (∀ p data, ∃ t, exec (.twtWrite (p :: data)) s = .next t ∧ t.tw.twt.ptr = p ∧ t.tw.twc = s.tw.twc ∧
        getR t R.TWT_NACK_CNT = satAdd (getR s R.TWT_NACK_CNT) data.length) ∧
      (∀ n : BitVec 16, ∃ t l, exec (.twtRead n) s = .next t ∧ t.out = s.out ++ [.target l] ∧ l.length = n.toNat ∧
        t.tw.twt.ptr = s.tw.twt.ptr + n.setWidth 8 ∧ getR t R.TWT_RD_CNT = satAdd (getR s R.TWT_RD_CNT) n.toNat ∧
        (n.toNat ≠ 0 → s.tw.twt.ptr ≠ 0x50 → l.head? = some (pageByte s s.tw.twt.ptr.toNat)) ∧
        (n.toNat ≠ 0 → s.tw.twt.ptr = 0x50 → t.tw.twt.sctr = s.sctr)) ∧
      (isF s F.TWT_STAT_ALERT = true → ∃ t, exec (.twtAlertResponse true) s = .next t ∧ isF t F.TWT_STAT_ALERT = false ∧
        t.out = s.out ++ [.target [BitVec.ofNat 8 (2 * getF s F.TWT_STAT_ADDR)]]) ∧
      (∃ t, exec .twtTimeout s = .next t ∧ kept t ∧ Sticky t 10 10))

/-! ### Power, resets and the sp boundary -/

/-- Power and resets. Each reset and wake start enters BOOT with its cause and keeps what its domain table names; the sequencer brings
up group after group; a rail fault, a lost group or a trip powers the groups down in FAULTED; windows, sensors and thresholds show
what they read; start-up completes with an image or fails; Dormant is entered or refused. An sp boundary counts SCTR, and without the
internal heartbeat the outputs are withdrawn. -/
def Obligations.PowerAndResets : Prop :=
  ∀ (s : State) (c : Fin 8) (st : Straps) (g : Fin 6) (k : Fin 10) (mv : BitVec 16),
    let p := (reqOf s c).payload
    let cause := fun (t : State) => getF t F.PM_RESET_CAUSE_CAUSE
    let booted := fun (t : State) => nodeState t = nsBoot ∧ t.sctr = 0 ∧ t.sec.otp = s.sec.otp ∧ (press t 0).mem = [] ∧ t.eng = Engine.reset
    let strapped := fun (t : State) => getF t F.NODE_STAT_BOOTSEL = st.bootsel.val ∧ isF t F.NODE_STAT_TEST_EN = st.testEn ∧
      getF t F.TWT_STAT_ADDR = 0x58 + st.addr.val
    let aonKept := fun (t : State) => t.log.bank = s.log.bank ∧ getR t R.LOG_SEQ_NEXT = getR s R.LOG_SEQ_NEXT ∧ t.net.wake = s.net.wake
    let dead := fun (t : State) (why : Nat) => nodeState t = nsFaulted ∧ getF t F.NODE_STAT_FAULT_CAUSE = why ∧
      getF t F.PM_RAIL_STAT_EN = 0 ∧ t.sec.otp = s.sec.otp ∧ t.dsp = State.reset.dsp ∧ t.eng = Engine.reset
    let woken := fun (t : State) (src : Nat) => booted t ∧ cause t = 5 ∧ t.pm.wakeOut = true ∧ t.pm.wakeSrc = some src ∧
      getF t F.PM_WAKE_SRC_SOURCE = getF s F.PM_WAKE_SRC_SOURCE ||| 2 ^ src ∧ t.pm.retained = s.pm.retained ∧
      t.host.pcieWake = s.host.pme ∧ t.host.staging = s.host.staging ∧ t.log.bank = s.log.bank ∧
      ∀ o, 0x10000 ≤ o → getR t o = getR s o
    (∃ t, exec .powerOnReset s = .next t ∧ nodeState t = nsOff ∧ t.sctr = 0 ∧ t.sec.otp = s.sec.otp ∧ t.log = Recorder.reset ∧
      t.dsp = State.reset.dsp ∧ getR t R.ID_DEVICE = getR s R.ID_DEVICE) ∧
    (nodeState s = nsOff → ∃ t, exec (.permanentRailsValid st) s = .next t ∧ nodeState t = nsBoot ∧ strapped t ∧ AudioKept s t ∧
      ∀ n, nextGroup s = some n → groupEn t n = true) ∧
    (∃ t, exec (.resetN st) s = .next t ∧ booted t ∧ cause t = 2 ∧ strapped t ∧ aonKept t ∧ groupEn t 0 = true) ∧
    (faultedDown s = true → exec (.debugMasterReset st) s = .next s) ∧
    (faultedDown s = false → ∃ t, exec (.debugMasterReset st) s = .next t ∧ booted t ∧ cause t = 4 ∧ strapped t ∧ aonKept t ∧ groupEn t 0 = true) ∧
    (Served s c 0x0B02 (· == 1) → ∃ t, exec (.nodeReset c st) s = .next t ∧
      (resetRefused s p = true → AnsweredRefused s t c 0x0B26 0 ∧ AudioKept s t ∧ ControlKept s t) ∧
      (resetRefused s p = false → booted t ∧ cause t = 3 ∧ strapped t ∧ aonKept t)) ∧
    (nodeState s = nsBoot → nextGroup s = some g.val → ∃ t, exec (.seqPgRise g) s = .next t ∧ groupPg t g = true ∧ groupEn t g = true ∧
      (∀ n, nextGroup t = some n → g.val < n ∧ groupEn t n = true) ∧ (nextGroup t = none → getF t F.BOOT_STAT_PHASE = 2)) ∧
    (nodeState s = nsBoot → nextGroup s = some g.val → ∃ t, exec (.seqPgTimeout g) s = .next t ∧ dead t 5) ∧
    (∀ w, supervised s = true → railFaulty s w = true → ∃ t, exec (.railFault w) s = .next t ∧ dead t 2) ∧
    (supervised s = true → railPowered s k = true → railOut s k = false → railInWindow s k mv.toNat = false →
      ∃ t, exec (.railWindow k mv) s = .next t ∧ AudioKept s t ∧ railOut t k = true ∧ Sticky t 11 3 ∧
        isF t F.PAIR_STAT_OWN_FAULT = true ∧ getR t R.RAIL_WINDOW_CNT = satAdd (getR s R.RAIL_WINDOW_CNT) 1) ∧
    (supervised s = true → railPowered s k = true → railOut s k = true → railRested s k = true → railInWindow s k mv.toNat = true →
      ∃ t, exec (.railWindowClear k mv) s = .next t ∧ AudioKept s t ∧ railOut t k = false ∧
        ∀ j : Fin 10, j ≠ k → railOut t j = railOut s j) ∧
    (∀ r : List (BitVec 12), supervised s = true → r.length = 8 →
      let ts := r.map (·.toInt)
      let u := (List.range 8).foldl (fun s i => readSensor s ts i) s
      ∃ t, exec (.tempReading r) s = .next t ∧ (hottest u ts = none → t = u) ∧
        ∀ i tj, hottest u ts = some (i, tj) →
          (500 ≤ tj → 1 ≤ s.pm.above.getD 2 0 → dead t 3 ∧ t.pm.thermTrip = true) ∧
          (tj < 500 ∨ s.pm.above.getD 2 0 = 0 → getF t F.PM_TEMP_MAX_TJ = int12 tj ∧
            (460 ≤ tj → 1 ≤ s.pm.above.getD 0 0 → t.pm.warm = true) ∧ (tj < 440 → 1 ≤ s.pm.below.getD 0 0 → t.pm.warm = false) ∧
            (480 ≤ tj → 1 ≤ s.pm.above.getD 1 0 → t.pm.hot = true) ∧ (tj < 460 → 1 ≤ s.pm.below.getD 1 0 → t.pm.hot = false) ∧
            (460 ≤ tj → s.pm.above.getD 0 0 = 0 → t.pm.warm = s.pm.warm))) ∧
    (∀ v : BitVec 10, avsMay s v.toNat = true → ∃ t, exec (.avsStep v) s = .next t ∧ AudioKept s t ∧
      (twc t 1).queue = avsXfers s v.toNat ++ (twc s 1).queue ∧ t.pm.avsRetry = none ∧
      (getF s F.PM_VCORE_CMD_MV < v.toNat → t.pm.riseAt = some s.sctr.toNat) ∧
      (v.toNat ≤ getF s F.PM_VCORE_CMD_MV → t.pm.fallAt = some s.sctr.toNat)) ∧
    (∀ (a b : List Byte) (ms : BitVec 16) (cal : List CalResult) (i : RunImage) (copyB : Bool), bootLoading s = true →
      bootImage s a b = some (i, copyB) → ∃ t, exec (.pmBootDone a b ms cal) s = .next t ∧ nodeState t = nsReady ∧
        getF t F.BOOT_STAT_PHASE = 6 ∧ isF t F.BOOT_STAT_COPY_B = copyB ∧ cpIsRunning t = true ∧ t.pm.goImage = none ∧
        t.pm.retained = some i ∧ getR t R.FW_RUN_VERSION = BitVec.ofNat 32 i.version) ∧
    (bootWaits s = true → ∃ t, exec .bootGo s = .next t ∧ AudioKept s t ∧
      let i := goodImage s (memGetList s.host.staging 0 (getF s F.BOOT_LEN_LEN))
      (i ≠ none → t.pm.goImage = i ∧ isF t F.BOOT_STAT_ERROR = false ∧ getF t F.BOOT_STAT_PHASE = 4) ∧
      (i = none → isF t F.BOOT_STAT_ERROR = true ∧ t.pm = s.pm)) ∧
    (∀ a b, bootFails s a b = true → ∃ t, exec (.bootFailure a b) s = .next t ∧ nodeState t = nsFaulted ∧
      getF t F.NODE_STAT_FAULT_CAUSE = 4 ∧ isF t F.BOOT_STAT_ERROR = true) ∧
    (Served s c 0x0B01 (· == 8) → ∃ t, exec (.pmDormant c) s = .next t ∧
      (∀ code, dormantRefusal s p = some code → AnsweredRefused s t c code 0 ∧ AudioKept s t ∧ ControlKept s t) ∧
      (dormantRefusal s p = none → nodeState t = nsDormant ∧ t.pm.armed = leAt p 0 1 ∧ t.pm.wakeGpio = leAt p 1 1 ∧
        getF t F.PM_RAIL_STAT_EN = getF s F.PM_RAIL_STAT_EN &&& 0x1A ∧ isF t F.HL_STAT_LINK_UP = false ∧
        ∀ f ∈ fnAssigned, f ≠ 0x00 → f ≠ 0x04 → f ≠ 0x68 → fnState t f = fnDisabled)) ∧
    (∀ ms : List (BitVec 16), Served s c 0x0B03 (· == 0) → ∃ t, exec (.pmReadings c ms) s = .next t ∧ AudioKept s t ∧
      AnsweredOk s t c (readingsBytes s ms) ∧ getF t F.PM_VCORE_MEAS_MV = min (ms.getD 0 0).toNat 1023) ∧
    (∀ (j : Fin 8) (level : Bool), wakeArmed s 1 = true → j.val = s.pm.wakeGpio → level = s.pm.wakeLevel →
      ∃ t, exec (.wakeGpio j level) s = .next t ∧ woken t 1) ∧
    (∀ sec : BitVec 32, wakeArmed s 2 = true → sec.toNat = s.pm.wakeTimer → ∃ t, exec (.wakeTimer sec) s = .next t ∧ woken t 2) ∧
    (wakeArmed s 3 = true → ∃ t, exec .perstNRise s = .next t ∧ woken t 3) ∧
    (∀ hits, clocksRun s = true → ∃ t, exec (.spBoundary hits) s = .next t ∧ t.sctr = nextSctr s ∧ t.clock.hardStep = none ∧
      t.dsp.exPrev = s.dsp.exIn ∧ t.pair.setTo = [] ∧
      (isF s F.HL_CTL_EXIMG_HOLD = true → t.host.image = s.host.image) ∧
      (isF s F.HL_CTL_EXIMG_HOLD = false → getR t R.EXIMG_SCTR = (nextSctr s).setWidth 32)) ∧
    (groupsUp s = true → (nodeAlive s = true ∨ nodeState s = nsFaulted) →
      ∃ t, exec .spHeartbeatTimeout s = .next t ∧ guarded t = true ∧ (∀ n, n < 4 → t.psc.en.getD n true = false) ∧
        ∀ n : Fin 16, pscState t n = pscState s n ∨ pscState t n = psObserving ∨ (pscCh s n).back ≠ none)

/-! ### Firmware, attestation, debug and sessions -/

/-- Firmware and OTP. An image is staged, verified, activated, discarded and committed through the states of function 0x68, each step
refused out of its state; attestation, certificates and the debug challenge answer with their bytes; a debug token unlocks or counts
as a failure; and each change of OTP is made once, at debug level 2, in the states that allow it. -/
def Obligations.FirmwareCommands : Prop :=
  ∀ (s : State) (c : Fin 8) (data : List Byte) (readErr : Bool),
    let p := (reqOf s c).payload
    let src := leAt p 0 1
    let len := leAt p 4 4
    let no := fun (t : State) (code : Nat) => AnsweredRefused s t c code 0
    let rr := s.sec.runRollback
    let o := s.sec.otp
    (Served s c 0x0C01 (· == 16) → ∃ t, exec (.fwStage c) s = .next t ∧ AudioKept s t ∧
      (fwState s = 1 ∨ fwState s = 3 → no t 0x0C25 ∧ t.sec = s.sec) ∧
      (fwState s ≠ 1 → fwState s ≠ 3 → (2 < src ∨ len < 260 ∨ 1572864 < len) → no t 0x0C27 ∧ t.sec = s.sec) ∧
      (fwState s ≠ 1 → fwState s ≠ 3 → src ≤ 2 → 260 ≤ len → len ≤ 1572864 →
        (loadOverlaps s = true → no t 0x0C28 ∧ t.sec = s.sec) ∧
        (loadOverlaps s = false → Waits t c ∧ fwState t = 1 ∧ isF t F.FW_STAT_HOLD = true ∧
          t.sec.stage = some ⟨src, leAt p 8 8, len, c.val⟩))) ∧
    (∀ j : StageJob, s.sec.stage = some j → fwState s = 1 → cpIsRunning s = true →
      let img := if j.source = 2 then memGetList s.host.staging 0 j.len else data
      ∃ t, exec (.fwStaged data readErr) s = .next t ∧ AudioKept s t ∧ t.sec.stage = none ∧
        (readErr = true ∨ img.length ≠ j.len → fwState t = 0 ∧ isF t F.FW_STAT_HOLD = false ∧ AnswersWaiting s t j.ch 1 0x0C27 0 []) ∧
        (readErr = false → img.length = j.len → imageFormatOk img = false →
          fwState t = 0 ∧ isF t F.FW_STAT_HOLD = false ∧ AnswersWaiting s t j.ch 1 0x0C20 0 []) ∧
        (readErr = false → img.length = j.len → imageFormatOk img = true → fwState t = 2 ∧ t.sec.staged = j.len ∧
          memGetList t.host.staging 0 j.len = img ∧ getR t R.FW_STAGED_VERSION = BitVec.ofNat 32 (leAt img 8 4) ∧
          AnswersWaiting s t j.ch 0 0 0 [])) ∧
    (Served s c 0x0C02 (· == 0) → ∃ t, exec (.fwVerify c) s = .next t ∧ AudioKept s t ∧
      (fwState s ≠ 2 → no t 0x0C25) ∧ (fwState s = 2 → Waits t c ∧ fwState t = 3 ∧ t.sec.verifyCh = some c.val)) ∧
    (fwState s = 3 → cpIsRunning s = true → ∃ t, exec .fwVerified s = .next t ∧ AudioKept s t ∧ t.sec.verifyCh = none ∧
      (∀ code detail, verifyImage s (stagedImage s) = some (code, detail) → fwState t = 2 ∧ Sticky t 12 0 ∧
        (s.sec.verifyCh = some c.val → AnswersWaiting s t c 1 code detail [])) ∧
      (verifyImage s (stagedImage s) = none → fwState t = 4 ∧ (s.sec.verifyCh = some c.val → AnswersWaiting s t c 0 0 0 []))) ∧
    (Served s c 0x0C03 (· == 0) → ∃ t, exec (.fwActivate c) s = .next t ∧ (fwState s ≠ 4 → no t 0x0C25) ∧
      (fwState s = 4 → engineWork s = true → no t 0x0C26) ∧
      (fwState s = 4 → engineWork s = false → s.sec.activating = false → AnsweredOk s t c [] ∧ cpRestarting t = true ∧
        getF t F.CP_STAT_LAST_CAUSE = 2 ∧ t.sec.activating = true ∧ fwState t = 0 ∧ isF t F.FW_STAT_HOLD = false)) ∧
    (Served s c 0x0C04 (· == 0) → ∃ t, exec (.fwDiscard c) s = .next t ∧ AudioKept s t ∧
      (fwState s = 1 ∨ fwState s = 3 → no t 0x0C25) ∧
      (fwState s ≠ 1 → fwState s ≠ 3 → AnsweredOk s t c [] ∧ fwState t = 0 ∧ isF t F.FW_STAT_HOLD = false ∧ t.sec.staged = 0)) ∧
    (Served s c 0x0C05 (· == 0) → ∃ t, exec (.fwCommit c) s = .next t ∧ AudioKept s t ∧
      (rr ≤ getF s F.SEC_STAT_ROLLBACK → no t 0x0C2E) ∧
      (getF s F.SEC_STAT_ROLLBACK < rr → Waits t c ∧ c.val ∈ t.cp.committed ∧ getF t F.SEC_STAT_ROLLBACK = getF s F.SEC_STAT_ROLLBACK ∧
        (s.sec.fuses = none → t.sec.fuses = some ⟨rr, s.sctr.toNat + 96, [c.val]⟩) ∧
        (∀ j, s.sec.fuses = some j → t.sec.fuses = some ⟨rr, j.next, j.chs ++ [c.val]⟩))) ∧
    (∀ j, s.sec.fuses = some j → j.next ≤ s.sctr.toNat →
      getF (fuseStep s) F.SEC_STAT_ROLLBACK = (getF s F.SEC_STAT_ROLLBACK + 1) % 64 ∧
      (j.target ≤ getF (fuseStep s) F.SEC_STAT_ROLLBACK → (fuseStep s).sec.fuses = none ∧
        ∀ c ∈ j.chs, c < 8 → getF s (F.MB_STAT_STATE c) = mbRunning → cpIsRunning s = true → getF (fuseStep s) (F.MB_STAT_STATE c) = mbDone) ∧
      (getF (fuseStep s) F.SEC_STAT_ROLLBACK < j.target → (fuseStep s).sec.fuses = some { j with next := j.next + 96 })) ∧
    (autoDue s = true → ∃ t, exec .commitAutoExpiry s = .next t ∧ AudioKept s t ∧ t.sec.autoPending = false ∧ t.regs = s.regs ∧
      (getF s F.SEC_STAT_ROLLBACK < rr → s.sec.fuses = none → t.sec.fuses = some ⟨rr, s.sctr.toNat + 96, []⟩) ∧
      (rr ≤ getF s F.SEC_STAT_ROLLBACK ∨ s.sec.fuses ≠ none → t.sec.fuses = s.sec.fuses)) ∧
    (Served s c 0x0C06 (· == 32) → ∃ t, exec (.attest c) s = .next t ∧
      AnsweredOk s t c (attestBody s p ++ Config.deviceSign (Config.sha256 (attestBody s p)))) ∧
    (Served s c 0x0C07 (· == 4) → ∃ t, exec (.certRead c) s = .next t ∧
      let cert := certOf src
      let part := (cert.drop (leAt p 2 2)).take 480
      (1 < src ∨ cert.length ≤ leAt p 2 2 → no t 0x0C29) ∧
      (src ≤ 1 → leAt p 2 2 < cert.length → AnsweredOk s t c (le 2 cert.length ++ le 2 part.length ++ part))) ∧
    (Served s c 0x0C08 (· == 0) → ∃ t, exec (.debugChallenge c) s = .next t ∧ AudioKept s t ∧
      AnsweredOk s t c (freeList s 32) ∧ t.sec.nonce = some (freeList s 32) ∧ t.sec.nonceFails = 0) ∧
    (Served s c 0x0C09 (fun n => n == 108 || n == 172) → ∃ t, exec (.debugUnlock c) s = .next t ∧ AudioKept s t ∧
      let bad := src = 0 ∨ 2 < src ∨ 2 < leAt p 1 1 ∨ leAt p 2 2 ≠ 0
      let fails := getF s F.SEC_STAT_DBG_FAILS
      (16 ≤ fails → no t 0x0C2B ∧ t.sec = s.sec) ∧ (fails < 16 → bad → no t 0x0C29 ∧ t.sec = s.sec) ∧
      (fails < 16 → ¬ bad → tokenOk s p = true → AnsweredOk s t c [] ∧ getF t F.SEC_STAT_DEBUG = src ∧ Sticky t 12 1) ∧
      (fails < 16 → ¬ bad → tokenOk s p = false → no t 0x0C2A ∧ getF t F.SEC_STAT_DBG_FAILS = fails + 1 ∧ Sticky t 12 2 ∧
        getF t F.SEC_STAT_DEBUG = getF s F.SEC_STAT_DEBUG ∧ (2 ≤ s.sec.nonceFails → t.sec.nonce = none))) ∧
    (Served s c 0x0C0A (· == 0) → ∃ t, exec (.debugLock c) s = .next t ∧ AnsweredOk s t c [] ∧ getF t F.SEC_STAT_DEBUG = 0 ∧
      t.sec = s.sec) ∧
    (Served s c 0x0C0B (· == 36) → ∃ t, exec (.otpKeyProgram c) s = .next t ∧ AudioKept s t ∧
      let h := (p.drop 4).take 32
      let full := (src = 1 ∧ o.keyA ≠ none) ∨ (src = 2 ∧ o.keyB ≠ none)
      (src = 0 ∨ 2 < src → no t 0x0C29 ∧ t.sec = s.sec) ∧ (src = 1 ∨ src = 2 → debugTwo s = false → no t 0x0C2C ∧ t.sec = s.sec) ∧
      (debugTwo s = true → full → no t 0x0C2D ∧ t.sec = s.sec) ∧
      (debugTwo s = true → src = 1 → o.keyA = none → AnsweredOk s t c [] ∧ t.sec.otp = { o with keyA := some h }) ∧
      (debugTwo s = true → src = 2 → o.keyB = none → AnsweredOk s t c [] ∧ t.sec.otp = { o with keyB := some h })) ∧
    (Served s c 0x0C0C (· == 1) → ∃ t, exec (.otpKeyRevoke c) s = .next t ∧ AudioKept s t ∧
      let runs := getF s F.SEC_STAT_RUN_SLOT = src
      (src = 0 ∨ 2 < src → no t 0x0C29 ∧ t.sec = s.sec) ∧ (src = 1 ∨ src = 2 → debugTwo s = false → no t 0x0C2C ∧ t.sec = s.sec) ∧
      (src = 1 ∨ src = 2 → debugTwo s = true → runs → no t 0x0C2D ∧ t.sec = s.sec) ∧
      (debugTwo s = true → ¬ runs → src = 1 → AnsweredOk s t c [] ∧ t.sec.otp = { o with revokedA := true } ∧
        getF t F.SEC_STAT_SLOT_A = 2) ∧
      (debugTwo s = true → ¬ runs → src = 2 → AnsweredOk s t c [] ∧ t.sec.otp = { o with revokedB := true } ∧
        getF t F.SEC_STAT_SLOT_B = 2)) ∧
    (Served s c 0x0C0D (· == 0) → ∃ t, exec (.otpVendorOff c) s = .next t ∧ AudioKept s t ∧ t.sec.otp = o ∧
      let bad := getF s F.SEC_STAT_RUN_SLOT = 0 ∨ (slotKey s 1 = none ∧ slotKey s 2 = none)
      (debugTwo s = false → no t 0x0C2C) ∧ (debugTwo s = true → bad → no t 0x0C2D) ∧
      (debugTwo s = true → ¬ bad → AnsweredOk s t c [] ∧ isF t F.SEC_STAT_VENDOR_OFF = true))

/-- Sessions. The side that begins sends HELLO, the other answers, FINISH fixes the session and its switch boundary, and DONE puts the
first key into use at once and a later key of the pair link at the switch; the frames of a received message pass the checks of their link
first (`hsTake`), and a message that one of them drops does no more than they count; a message that does not verify is remembered and
changes nothing else; a handshake without DONE for 1 s fails and is retried a second later; a used-up SEQ begins a new one. -/
def Obligations.SessionHandshakes : Prop :=
  ∀ (s : State) (l : Link) (fs : HsFrames) (id switch : BitVec 32),
    let x := sesOf s l
    let done := fun (u t : State) =>
      let x := sesOf u l
      let y := sesOf t l
      y.hs = 0 ∧ y.hello = [] ∧
      (x.key = none ∨ l ≠ .pair → y.key = some x.cand ∧ y.newKey = none ∧ y.txSeq = [] ∧ y.rxSeq = []) ∧
      (x.key ≠ none → l = .pair → y.key = x.key ∧ y.newKey = some x.cand)
    let got := fun (code : Nat) => (hsTake s l code fs).2
    let u := fun (code : Nat) => (hsTake s l code fs).1
    let quiet := fun (u t : State) => AudioKept u t ∧ t.regs = u.regs
    (linkOn s l = true →
      (begins s l = true → hsIdle s l = true → x.key = none → ∃ t, exec (.sessionHello l .send) s = .next t ∧
        (sesOf t l).hs = 1 ∧ (sesOf t l).startAt = s.sctr.toNat ∧ (sesOf t l).hello = hsBody s.free ∧ t.free = s.free + 2) ∧
      (begins s l = false → x.hs = 0 → 98 ≤ x.hello.length → ∃ t, exec (.sessionReply l .send) s = .next t ∧
        (sesOf t l).hs = 2 ∧ (sesOf t l).key = x.key ∧
        (sesOf t l).cand = sessionKey l (s.free + 1) (hsKey x.hello) (hsNonce x.hello) (hsNonce (hsBody s.free))) ∧
      (x.hs = 1 → x.reply ≠ [] → s.sctr.toNat + 96 ≤ extendSctr s switch.toNat →
        ∃ t, exec (.sessionFinish l (.send id switch)) s = .next t ∧ (sesOf t l).hs = 3 ∧ (sesOf t l).id = id ∧
          (sesOf t l).switchAt = extendSctr s switch.toNat ∧ (sesOf t l).key = x.key) ∧
      (x.hs = 3 → begins s l = false → ∃ t, exec (.sessionDone l .send) s = .next t ∧ done s t)) ∧
    (got 0x10 = none → exec (.sessionHello l (.receive fs)) s = .next (u 0x10)) ∧
    (got 0x11 = none → exec (.sessionReply l (.receive fs)) s = .next (u 0x11)) ∧
    (got 0x12 = none → exec (.sessionFinish l (.receive fs)) s = .next (u 0x12)) ∧
    (got 0x13 = none → exec (.sessionDone l (.receive fs)) s = .next (u 0x13)) ∧
    (∀ p, got 0x10 = some p → linkOn (u 0x10) l = true → begins (u 0x10) l = false → (sesOf (u 0x10) l).hs = 0 →
      ∃ t, exec (.sessionHello l (.receive fs)) s = .next t ∧ quiet (u 0x10) t ∧ (sesOf t l).startAt = (u 0x10).sctr.toNat ∧
        (certFault (u 0x10) l (hsCert p) = none → (sesOf t l).hello = p) ∧
        (∀ w, certFault (u 0x10) l (hsCert p) = some w → (sesOf t l).hello = [0] ∧ (sesOf t l).why = w)) ∧
    (∀ p, got 0x11 = some p → linkOn (u 0x11) l = true → (sesOf (u 0x11) l).hs = 1 → (sesOf (u 0x11) l).reply = [] →
      certFault (u 0x11) l (hsCert p) = none → ∃ t, exec (.sessionReply l (.receive fs)) s = .next t ∧ quiet (u 0x11) t ∧
        let x := sesOf (u 0x11) l
        let good := Config.ecdsaVerify (Config.certKey (hsCert p)) (replySigned x.hello p) (hsSig p)
        (good = true → (sesOf t l).reply = p ∧ (sesOf t l).cand = sessionKey l x.priv (hsKey p) (hsNonce x.hello) (hsNonce p)) ∧
        (good = false → sesOf t l = { x with why := 2 })) ∧
    (∀ p, got 0x12 = some p → linkOn (u 0x12) l = true → (sesOf (u 0x12) l).hs = 2 →
      ∃ t, exec (.sessionFinish l (.receive fs)) s = .next t ∧ quiet (u 0x12) t ∧
        let x := sesOf (u 0x12) l
        let good := Config.ecdsaVerify (Config.certKey (hsCert x.hello)) (finishSigned x) (p.take 64)
        (good = true → sesOf t l =
          { x with hs := 3, id := BitVec.ofNat 32 (leAt p 64 4), switchAt := extendSctr (u 0x12) (leAt p 68 4) }) ∧
        (good = false → sesOf t l = { x with why := 2 })) ∧
    (∀ p, got 0x13 = some p → linkOn (u 0x13) l = true → (sesOf (u 0x13) l).hs = 3 → begins (u 0x13) l = true →
      leAt p 0 4 = (sesOf (u 0x13) l).id.toNat → ∃ t, exec (.sessionDone l (.receive fs)) s = .next t ∧ AudioKept (u 0x13) t ∧
        done (u 0x13) t ∧ (l = .witness → isF t F.PAIR_STAT_WITNESS_UP = true)) ∧
    (hsOver s l = true → ∃ t, exec (.sessionFail l) s = .next t ∧ AudioKept s t ∧ (sesOf t l).hs = 0 ∧ (sesOf t l).hello = [] ∧
      (sesOf t l).retryAt = s.sctr.toNat + 96000 ∧ (sesOf t l).key = x.key ∧ Sticky t 12 3) ∧
    (rekeyDue s = true → ∃ t, exec .sessionRekey s = .next t ∧ t.pair.ses.hs = 1 ∧ t.pair.ses.key = s.pair.ses.key ∧
      t.pair.ses.hello = hsBody s.free)
end

