-- ==== Sys2Proof/Laws/Kept.lean ====
section
/-! SUPPORT. What the commands leave alone, one lemma per operation: the waiting commands, SCTR and the OTP. The operations that the
spec lets change SCTR (a boundary, a reset) or the OTP have none. -/

set_option linter.unusedSimpArgs false

namespace Sys2Proof.Machine

/-- What no command's effect changes, but for the few that the spec lets: the waiting commands, SCTR and the OTP. -/
def kept (s : State) : List Instr × BitVec 64 × Otp := (s.pending, s.sctr, s.sec.otp)

@[simp] theorem kept_eta (s : State) : (s.pending, s.sctr, s.sec.otp) = kept s := Eq.trans rfl rfl

@[simp] theorem kept_mk (p o f c r l cp h ck d e n se pm sa co pa ps pr w rs tw) :
    kept ⟨p, o, f, c, r, l, cp, h, ck, d, e, n, se, pm, sa, co, pa, ps, pr, w, rs, tw⟩ = (p, c, se.otp) := Eq.trans rfl rfl

@[simp] theorem kept_ite (c : Prop) [Decidable c] (a b : State) : kept (if c then a else b) = if c then kept a else kept b := by
  split <;> rfl

@[simp] theorem kept_fst_ite {α : Type} (c : Prop) [Decidable c] (a b : State × α) :
    kept (if c then a else b).1 = if c then kept a.1 else kept b.1 := by
  split <;> rfl

@[simp] theorem kept_foldl {α : Type} (g : State → α → State) (l : List α) (s : State)
    (h : ∀ s x, kept (g s x) = kept s) : kept (l.foldl g s) = kept s := by
  induction l generalizing s with
  | nil => rfl
  | cons x l ih => rw [List.foldl_cons, ih, h]


/-- The two ends of a meaning that is one choice. -/
theorem next_ite {c : Prop} [Decidable c] {a b u : State}
    (h : (if c then (Host.Outcome.next a : Host.Outcome State Fault Refusal) else .next b) = .next u) : u = a ∨ u = b := by
  split at h <;> cases h <;> simp

@[simp] theorem setR_kept (s : State) (o : Nat) (w : Word) : kept (setR s o w) = kept s := by simp [setR]
@[simp] theorem setF_kept (s : State) (f : Fld) (v : Nat) : kept (setF s f v) = kept s := by simp [setF]
@[simp] theorem putF_kept (s : State) (f : Fld) (b : Bool) : kept (putF s f b) = kept s := by simp [putF]
@[simp] theorem bump_kept (s : State) (o : Nat) (n : Nat) : kept (bump s o n) = kept s := by simp [bump]
@[simp] theorem emit_kept (s : State) (o : Out) : kept (emit s o) = kept s := by simp [emit]
@[simp] theorem nextFree_kept (s : State) : kept (nextFree s) = kept s := by simp [nextFree]
@[simp] theorem nextFrees_kept (s : State) (n : Nat) : kept (nextFrees s n) = kept s := by simp [nextFrees]
@[simp] theorem setFn_kept (s : State) (f st : Nat) : kept (setFn s f st) = kept s := by simp [setFn]
@[simp] theorem sendIrq_kept (s : State) (b : Nat) : kept (sendIrq s b) = kept s := by simp [sendIrq]
@[simp] theorem raiseIrq_kept (s : State) (b : Nat) : kept (raiseIrq s b) = kept s := by simp [raiseIrq]
@[simp] theorem refreshFaults_kept (s : State) : kept (refreshFaults s) = kept s := by simp [refreshFaults]
@[simp] theorem setFaults_kept (s : State) (c : Nat) (m : Word) : kept (setFaults s c m) = kept s := by simp [setFaults]
@[simp] theorem setFault_kept (s : State) (c b : Nat) : kept (setFault s c b) = kept s := by simp [setFault]
@[simp] theorem countDrop_kept (s : State) (v : Nat) : kept (countDrop s v) = kept s := by simp [countDrop]
@[simp] theorem refreshFifo_kept (s : State) : kept (refreshFifo s) = kept s := by simp [refreshFifo]
@[simp] theorem enqueue_kept (s : State) (e : Rec) : kept (enqueue s e) = kept s := by
  unfold enqueue
  dsimp only
  (repeat' split) <;> simp_all
@[simp] theorem offer_kept (s : State) (e : Rec) : kept (offer s e) = kept s := by
  unfold offer
  (repeat' split) <;> simp_all
@[simp] theorem logAt_kept (s : State) (frac : BitVec 16) (code source sev : Nat) (args : List Byte) : kept (logAt s frac code source sev args) = kept s := by simp [logAt]
@[simp] theorem logEv_kept (s : State) (code source sev : Nat) (args : List Byte) : kept (logEv s code source sev args) = kept s := by simp [logEv]
@[simp] theorem finishWith_kept (s : State) (c status code detail : Nat) (payload : List Byte) (hw : Bool) : kept (finishWith s c status code detail payload hw) = kept s := by simp [finishWith]
@[simp] theorem finish_kept (s : State) (c : Nat) (r : Reply) (hw : Bool) : kept (finish s c r hw) = kept s := by simp [finish]
@[simp] theorem accept_kept (s : State) (c : Nat) : kept (accept s c) = kept s := by simp [accept]
@[simp] theorem serve_kept (s : State) (c op : Nat) (lenOk : Nat → Bool) (anyFn : Bool) (body : State → Req → State × Reply) (hbody : ∀ (s : State) q, kept (body s q).1 = kept s) : kept (serve s c op lenOk anyFn body) = kept s := by
  unfold serve
  dsimp only
  (repeat' split) <;> simp_all [hbody]
@[simp] theorem commit_kept (s : State) (c : Nat) : kept (commit s c) = kept s := by simp [commit]
@[simp] theorem answer_kept (s : State) (c : Option Nat) (r : Reply) : kept (answer s c r) = kept s := by
  unfold answer
  split <;> simp
@[simp] theorem answerLate_kept (s : State) : kept (answerLate s) = kept s := by simp [answerLate]
@[simp] theorem mbProtocol_kept (s : State) (c what : Nat) : kept (mbProtocol s c what) = kept s := by simp [mbProtocol]
@[simp] theorem pscSetState_kept (s : State) (n st : Nat) : kept (pscSetState s n st) = kept s := by simp [pscSetState]
@[simp] theorem setPsc_kept (s : State) (n : Nat) (x : PscCh) : kept (setPsc s n x) = kept s := by simp [setPsc]
@[simp] theorem setAmpEn_kept (s : State) (g : Nat) (on : Bool) : kept (setAmpEn s g on) = kept s := by simp [setAmpEn]
@[simp] theorem pscAbort_kept (s : State) : kept (pscAbort s) = kept s := by
  simp only [pscAbort, kept_mk, kept_eta]
  rw [kept_foldl _ _ _ (by intro s x; split <;> simp), kept_foldl _ _ _ (by simp)]
@[simp] theorem pscDark_kept (s : State) (n : Nat) : kept (pscDark s n) = kept s := by simp [pscDark]
@[simp] theorem pscObserve_kept (s : State) : kept (pscObserve s) = kept s := by simp [pscObserve]
@[simp] theorem sapWithdraw_kept (s : State) : kept (sapWithdraw s) = kept s := by simp [sapWithdraw]
@[simp] theorem withdrawOutputs_kept (s : State) : kept (withdrawOutputs s) = kept s := by simp [withdrawOutputs]
@[simp] theorem guardAct_kept (s : State) : kept (guardAct s) = kept s := by simp [guardAct]
@[simp] theorem enterFaulted_kept (s : State) (cause : Nat) : kept (enterFaulted s cause) = kept s := by simp [enterFaulted]
@[simp] theorem setRefSlot_kept (s : State) (i : Nat) (x : RefSlot) : kept (setRefSlot s i x) = kept s := by simp [setRefSlot]
@[simp] theorem setPtpInst_kept (s : State) (i : Nat) (x : PtpInst) : kept (setPtpInst s i x) = kept s := by simp [setPtpInst]
@[simp] theorem clkEv_kept (s : State) (code sev : Nat) (args : List Byte) : kept (clkEv s code sev args) = kept s := by simp [clkEv]
@[simp] theorem setStage_kept (s : State) (st : Nat) : kept (setStage s st) = kept s := by simp [setStage]
@[simp] theorem setSlew_kept (s : State) (r : Int) : kept (setSlew s r) = kept s := by simp [setSlew]
@[simp] theorem slewTick_kept (s : State) : kept (slewTick s) = kept s := by
  unfold slewTick
  split
  · rfl
  · generalize slewStep s (slewRemain s) = x
    simp only [kept_mk, kept_eta, setR_kept]
@[simp] theorem loseTime_kept (s : State) : kept (loseTime s) = kept s := by simp [loseTime]
@[simp] theorem timeGained_kept (s : State) : kept (timeGained s) = kept s := by simp [timeGained]
@[simp] theorem startSwitch_kept (s : State) (i : Nat) : kept (startSwitch s i) = kept s := by simp [startSwitch]
@[simp] theorem trackTick_kept (s : State) : kept (trackTick s) = kept s := by simp [trackTick]
@[simp] theorem enterHoldover_kept (s : State) : kept (enterHoldover s) = kept s := by simp [enterHoldover]
@[simp] theorem blockSlot_kept (s : State) (i : Nat) : kept (blockSlot s i) = kept s := by simp [blockSlot]
@[simp] theorem pickSlot_kept (fuel : Nat) (s : State) : kept (pickSlot fuel s).1 = kept s := by
  induction fuel generalizing s with
  | zero => rfl
  | succ n ih =>
    unfold pickSlot
    split
    · rfl
    · split <;> simp [ih]
@[simp] theorem reselect_kept (s : State) : kept (reselect s) = kept s := by
  unfold reselect
  dsimp only
  (repeat' split) <;> simp_all
@[simp] theorem endSwitch_kept (s : State) : kept (endSwitch s) = kept s := by simp [endSwitch]
@[simp] theorem setPhases_kept (s : State) (ph : List Int) : kept (setPhases s ph) = kept s := by simp [setPhases]
@[simp] theorem becomeAvailable_kept (s : State) (i : Nat) : kept (becomeAvailable s i) = kept s := by simp [becomeAvailable]
@[simp] theorem liftBlocks_kept (s : State) : kept (liftBlocks s) = kept s := by simp [liftBlocks]
@[simp] theorem softCheck_kept (s : State) (i : Nat) (v : Int) : kept (softCheck s i v) = kept s := by simp [softCheck]
@[simp] theorem suspectCheck_kept (s : State) (i : Nat) (v : Int) (others : List (Option Int)) : kept (suspectCheck s i v others) = kept s := by simp [suspectCheck]
@[simp] theorem qualify_kept (s : State) (i : Nat) : kept (qualify s i) = kept s := by simp [qualify]
@[simp] theorem windowSlot_kept (s : State) (i : Nat) (v : Int) : kept (windowSlot s i v) = kept s := by simp [windowSlot]
@[simp] theorem windowEnd_kept (s : State) (ofs : List (Option (BitVec 32))) : kept (windowEnd s ofs) = kept s := by
  unfold windowEnd
  dsimp only
  refine kept_foldl _ _ _ fun s x => ?_
  split <;> simp
@[simp] theorem setLoop_kept (s : State) (steer perr : Word) : kept (setLoop s steer perr) = kept s := by simp [setLoop]
@[simp] theorem loseSignal_kept (s : State) (i : Nat) : kept (loseSignal s i) = kept s := by simp [loseSignal]
@[simp] theorem ptpStop_kept (s : State) (i : Nat) : kept (ptpStop s i) = kept s := by
  unfold ptpStop
  split <;> simp
theorem execXoFault_kept (kind : Fin 3) (s : State) : ∀ u, execXoFault kind s = .next u → kept u = kept s := by
  intro u h
  unfold execXoFault at h
  split at h <;> (rw [Host.Outcome.next.injEq] at h; rw [← h]) <;> simp
theorem execRefSignalPresent_kept (slot : Fin 8) (s : State) : ∀ u, execRefSignalPresent slot s = .next u → kept u = kept s := by
  intro u h
  unfold execRefSignalPresent at h
  split at h <;> (rw [Host.Outcome.next.injEq] at h; rw [← h]) <;> simp
theorem execRefLos_kept (slot : Fin 8) (ph : List Int) (s : State) : ∀ u, execRefLos slot ph s = .next u → kept u = kept s := by
  intro u h
  unfold execRefLos at h
  split at h <;> (rw [Host.Outcome.next.injEq] at h; rw [← h]) <;> simp
theorem execRefWindowEnd_kept (ofs : List (Option (BitVec 32))) (steer perr : Word) (ph : List Int) (s : State) : ∀ u, execRefWindowEnd ofs steer perr ph s = .next u → kept u = kept s := by
  intro u h
  unfold execRefWindowEnd at h
  split at h <;> (rw [Host.Outcome.next.injEq] at h; rw [← h]) <;> simp
theorem execWaitToRestoreExpiry_kept (slot : Fin 8) (ph : List Int) (s : State) : ∀ u, execWaitToRestoreExpiry slot ph s = .next u → kept u = kept s := by
  intro u h
  unfold execWaitToRestoreExpiry at h
  split at h <;> (rw [Host.Outcome.next.injEq] at h; rw [← h]) <;> simp
theorem execDpllStageAdvance_kept (perr : Word) (ph : List Int) (s : State) : ∀ u, execDpllStageAdvance perr ph s = .next u → kept u = kept s := by
  intro u h
  unfold execDpllStageAdvance at h
  dsimp only at h
  (repeat' split at h) <;> cases h <;> simp_all
theorem execDpllStageFallback_kept (perr : Word) (s : State) : ∀ u, execDpllStageFallback perr s = .next u → kept u = kept s := by
  intro u h
  unfold execDpllStageFallback at h
  dsimp only at h
  (repeat' split at h) <;> cases h <;> simp_all
@[simp] theorem slewEnd_kept (s : State) : kept (slewEnd s) = kept s := by simp [slewEnd]
theorem execPhaseStep_kept (c : Fin 8) (s : State) : ∀ u, execPhaseStep c s = .next u → kept u = kept s := by
  intro u h
  unfold execPhaseStep at h
  rw [Host.Outcome.next.injEq] at h
  rw [← h]
  refine serve_kept _ _ _ _ _ _ ?_
  intro s q
  try dsimp only
  (repeat' split) <;> first | simp | rfl | simp_all
theorem execPhaseStepDone_kept (ph : List Int) (s : State) : ∀ u, execPhaseStepDone ph s = .next u → kept u = kept s := by
  intro u h
  unfold execPhaseStepDone at h
  split at h <;> (rw [Host.Outcome.next.injEq] at h; rw [← h]) <;> simp
theorem execRealign_kept (c : Fin 8) (s : State) : ∀ u, execRealign c s = .next u → kept u = kept s := by
  intro u h
  unfold execRealign at h
  rw [Host.Outcome.next.injEq] at h
  rw [← h]
  simp
theorem execTimeSet_kept (c : Fin 8) (pps : Bool) (s : State) : ∀ u, execTimeSet c pps s = .next u → kept u = kept s := by
  intro u h
  unfold execTimeSet at h
  rw [Host.Outcome.next.injEq] at h
  rw [← h]
  simp
theorem execPtpDatasetGet_kept (c : Fin 8) (s : State) : ∀ u, execPtpDatasetGet c s = .next u → kept u = kept s := by
  intro u h
  unfold execPtpDatasetGet at h
  rw [Host.Outcome.next.injEq] at h
  rw [← h]
  simp
@[simp] theorem outputBoundary_kept (s : State) (hard : Bool) : kept (outputBoundary s hard) = kept s := by simp [outputBoundary]
@[simp] theorem clockStart_kept (s : State) : kept (clockStart s) = kept s := by simp [clockStart]
@[simp] theorem clockStop_kept (s : State) : kept (clockStop s) = kept s := by simp [clockStop]
@[simp] theorem latchTime_kept (s : State) (c : Nat) : kept (latchTime s c) = kept s := by simp [latchTime]
@[simp] theorem atNext_kept (s : State) (f : State → State) (hf : ∀ (s : State), kept (f s) = kept s) : kept (atNext s f) = kept s := by
  unfold atNext
  generalize nextSctr s = n
  have h := hf { s with sctr := n }
  rw [kept_mk] at h
  unfold kept at h
  rw [Prod.mk.injEq, Prod.mk.injEq] at h
  rw [kept_mk, h.1, h.2.2]
  rfl
@[simp] theorem decidePq_kept (s : State) (n : Nat) (r : PqRec) : kept (decidePq s n r) = kept s := by simp [decidePq]
@[simp] theorem pscEv_kept (s : State) (n code sev : Nat) (args : List Byte) : kept (pscEv s n code sev args) = kept s := by simp [pscEv]
@[simp] theorem pscQueue_kept (s : State) (n : Nat) : kept (pscQueue s n) = kept s := by simp [pscQueue]
@[simp] theorem pscRetries_kept (s : State) (n : Nat) : kept (pscRetries s n) = kept s := by simp [pscRetries]
@[simp] theorem pscFailed_kept (s : State) (n : Nat) (counted : Bool) : kept (pscFailed s n counted) = kept s := by simp [pscFailed]
@[simp] theorem pscFadeIn_kept (s : State) (n : Nat) : kept (pscFadeIn s n) = kept s := by simp [pscFadeIn]
@[simp] theorem pscFade_kept (s : State) (n : Nat) : kept (pscFade s n) = kept s := by simp [pscFade]
@[simp] theorem pscEnable_kept (s : State) (n : Nat) : kept (pscEnable s n) = kept s := by simp [pscEnable]
@[simp] theorem pscStop_kept (s : State) (n : Nat) : kept (pscStop s n) = kept s := by
  unfold pscStop
  dsimp only
  split <;> simp
@[simp] theorem pscResume_kept (s : State) (n : Nat) : kept (pscResume s n) = kept s := by simp [pscResume]
@[simp] theorem pscGrant_kept (s : State) : kept (pscGrant s) = kept s := by simp [pscGrant]
@[simp] theorem pscClipped_kept (s : State) (n : Nat) : kept (pscClipped s n) = kept s := by simp [pscClipped]
@[simp] theorem pscTake_kept (s : State) (n : Nat) : kept (pscTake s n) = kept s := by simp [pscTake]
@[simp] theorem pscInputs_kept (s : State) : kept (pscInputs s) = kept s := by simp [pscInputs]
@[simp] theorem senseDecide_kept (s : State) : kept (senseDecide s) = kept s := by simp [senseDecide]
@[simp] theorem applySense_kept (s : State) (n : Nat) (w : List Word) : kept (applySense s n w) = kept s := by simp [applySense]
@[simp] theorem senseClear_kept (s : State) (n : Nat) : kept (senseClear s n) = kept s := by simp [senseClear]
@[simp] theorem pscLimit_kept (s : State) (n : Nat) : kept (pscLimit s n) = kept s := by simp [pscLimit]
@[simp] theorem legsLowIf_kept (s : State) (n st : Nat) : kept (legsLowIf s n st) = kept s := by simp [legsLowIf]
@[simp] theorem pvddHold_kept (s : State) (n : Nat) : kept (pvddHold s n) = kept s := by simp [pvddHold]
@[simp] theorem takeSense_kept (s : State) (n : Nat) (x : PwmSense) : kept (takeSense s n x) = kept s := by
  unfold takeSense
  split <;> simp
@[simp] theorem trackOffsets_kept (s : State) (n : Nat) (x : PwmSense) : kept (trackOffsets s n x) = kept s := by
  unfold trackOffsets
  split <;> simp
@[simp] theorem switchLegs_kept (s : State) (n k : Nat) (d : Word) (oc : Bool) : kept (switchLegs s n k d oc) = kept s := by simp [switchLegs]
@[simp] theorem trackLegs_kept (s : State) (n : Nat) (d : Word) : kept (trackLegs s n d) = kept s := by simp [trackLegs]
@[simp] theorem legsLow_kept (s : State) (n : Nat) : kept (legsLow s n) = kept s := by simp [legsLow]
@[simp] theorem loopPeriod_kept (s : State) (n k : Nat) (x : PwmSense) : kept (loopPeriod s n k x) = kept s := by simp [loopPeriod]
@[simp] theorem testFails_kept (s : State) (n code : Nat) : kept (testFails s n code) = kept s := by simp [testFails]
@[simp] theorem testSense_kept (s : State) (n : Nat) (x : PwmSense) : kept (testSense s n x) = kept s := by
  unfold testSense
  (repeat' split) <;> simp_all
@[simp] theorem toneLegs_kept (s : State) (n k : Nat) (freq : Word) (j num den : Nat) (x : PwmSense) : kept (toneLegs s n k freq j num den x) = kept s := by simp [toneLegs]
@[simp] theorem testPeriod_kept (s : State) (n k : Nat) (x : PwmSense) : kept (testPeriod s n k x) = kept s := by
  unfold testPeriod
  dsimp only
  (repeat' split) <;> simp_all
@[simp] theorem idlePeriod_kept (s : State) (n k : Nat) (x : PwmSense) : kept (idlePeriod s n k x) = kept s := by simp [idlePeriod]
theorem execPwmPeriod_kept (n : Fin 16) (k : Fin 8) (x : PwmSense) (s : State) : ∀ u, execPwmPeriod n k x s = .next u → kept u = kept s := by
  intro u h
  unfold execPwmPeriod at h
  dsimp only at h
  (repeat' split at h) <;> cases h <;> simp_all
theorem execOverCurrent_kept (n : Fin 16) (s : State) : ∀ u, execOverCurrent n s = .next u → kept u = kept s := by
  intro u h
  unfold execOverCurrent at h
  dsimp only at h
  (repeat' split at h) <;> cases h <;> simp_all
@[simp] theorem pscShut_kept (s : State) (n : Nat) : kept (pscShut s n) = kept s := by simp [pscShut]
theorem execPscShutdown_kept (n : Fin 16) (s : State) : ∀ u, execPscShutdown n s = .next u → kept u = kept s := by
  intro u h
  unfold execPscShutdown at h
  dsimp only at h
  split at h <;> (rw [Host.Outcome.next.injEq] at h; rw [← h])
  exact pscShut_kept _ _
theorem execPscRetry_kept (n : Fin 16) (s : State) : ∀ u, execPscRetry n s = .next u → kept u = kept s := by
  intro u h
  unfold execPscRetry at h
  dsimp only at h
  split at h <;> (rw [Host.Outcome.next.injEq] at h; rw [← h]) <;> simp
theorem execDiagTestStart_kept (s : State) : ∀ u, execDiagTestStart s = .next u → kept u = kept s := by
  intro u h
  unfold execDiagTestStart at h
  split at h <;> (rw [Host.Outcome.next.injEq] at h; rw [← h]) <;> simp
@[simp] theorem diagPost_kept (s : State) (n : Nat) (o : DiagObs) (passive : Bool) : kept (diagPost s n o passive) = kept s := by
  unfold diagPost
  dsimp only
  split <;> simp
@[simp] theorem showPvdd_kept (s : State) (m n : Nat) (volts : Word) : kept (showPvdd s m n volts) = kept s := by simp [showPvdd]
@[simp] theorem setPvddOut_kept (s : State) (m : Nat) (out : Bool) : kept (setPvddOut s m out) = kept s := by simp [setPvddOut]
theorem execPscPvddFault_kept (m : Fin 2) (volts : Word) (s : State) : ∀ u, execPscPvddFault m volts s = .next u → kept u = kept s := by
  intro u h
  unfold execPscPvddFault at h
  dsimp only at h
  split at h <;> (rw [Host.Outcome.next.injEq] at h; rw [← h]) <;> simp
theorem execPscPvddOk_kept (m : Fin 2) (volts : Word) (s : State) : ∀ u, execPscPvddOk m volts s = .next u → kept u = kept s := by
  intro u h
  unfold execPscPvddOk at h
  dsimp only at h
  split at h <;> (rw [Host.Outcome.next.injEq] at h; rw [← h]) <;> simp
theorem execPscFadeInDone_kept (n : Fin 16) (s : State) : ∀ u, execPscFadeInDone n s = .next u → kept u = kept s := by
  intro u h
  unfold execPscFadeInDone at h
  split at h <;> (rw [Host.Outcome.next.injEq] at h; rw [← h]) <;> simp
theorem execPscStopDone_kept (n : Fin 16) (s : State) : ∀ u, execPscStopDone n s = .next u → kept u = kept s := by
  intro u h
  unfold execPscStopDone at h
  dsimp only at h
  split at h <;> (rw [Host.Outcome.next.injEq] at h; rw [← h]) <;> simp
@[simp] theorem diagQueue_kept (s : State) (n : Nat) : kept (diagQueue s n) = kept s := by simp [diagQueue]
@[simp] theorem calApply_kept (s : State) (n mode : Nat) (r : CalResult) : kept (calApply s n mode r) = kept s := by
  unfold calApply
  split <;> simp
@[simp] theorem pscUnlatch_kept (s : State) (n : Nat) : kept (pscUnlatch s n) = kept s := by simp [pscUnlatch]
theorem execPscClear_kept (c : Fin 8) (s : State) : ∀ u, execPscClear c s = .next u → kept u = kept s := by
  intro u h
  unfold execPscClear at h
  rw [Host.Outcome.next.injEq] at h
  rw [← h]
  simp
@[simp] theorem setEthPort_kept (s : State) (p : Nat) (x : EthPort) : kept (setEthPort s p x) = kept s := by simp [setEthPort]
@[simp] theorem ethCount_kept (s : State) (p k : Nat) (n : Nat) : kept (ethCount s p k n) = kept s := by simp [ethCount]
@[simp] theorem countQueueDrop_kept (s : State) (p q n : Nat) : kept (countQueueDrop s p q n) = kept s := by simp [countQueueDrop]
@[simp] theorem setEthQueue_kept (s : State) (p q : Nat) (l : List TxFrame) : kept (setEthQueue s p q l) = kept s := by simp [setEthQueue]
@[simp] theorem ethSend_kept (s : State) (p q : Nat) (f : TxFrame) : kept (ethSend s p q f) = kept s := by simp [ethSend]
@[simp] theorem ethSendCtl_kept (s : State) (p q dst etype : Nat) (payload : List Byte) (ptp : Option (Nat × Bool)) : kept (ethSendCtl s p q dst etype payload ptp) = kept s := by simp [ethSendCtl]
@[simp] theorem sendUdp_kept (s : State) (p dst sport dport : Nat) (payload : List Byte) : kept (sendUdp s p dst sport dport payload) = kept s := by simp [sendUdp]
@[simp] theorem arpAsk_kept (s : State) (p dst : Nat) : kept (arpAsk s p dst) = kept s := by simp [arpAsk]
@[simp] theorem igmpSend_kept (s : State) (p dst : Nat) (body : List Byte) : kept (igmpSend s p dst body) = kept s := by simp [igmpSend]
@[simp] theorem igmpReport_kept (s : State) (p group src : Nat) (join : Bool) : kept (igmpReport s p group src join) = kept s := by simp [igmpReport]
@[simp] theorem igmpDo_kept (s : State) (x : Nat × Nat × Nat × Bool) : kept (igmpDo s x) = kept s := by
  unfold igmpDo
  (repeat' split) <;> simp_all
@[simp] theorem igmpFlush_kept (s : State) : kept (igmpFlush s) = kept s := by simp [igmpFlush]
@[simp] theorem rxCounted_kept (s : State) (p len cast tag : Nat) : kept (rxCounted s p len cast tag) = kept s := by simp [rxCounted]
@[simp] theorem rxStat_kept (s : State) (f : RxFlow) : kept (rxStat s f) = kept s := by simp [rxStat]
@[simp] theorem putRx_kept (s : State) (f : RxFlow) : kept (putRx s f) = kept s := by simp [putRx]
@[simp] theorem txStat_kept (s : State) (f : TxFlow) (st : Nat) : kept (txStat s f st) = kept s := by simp [txStat]
@[simp] theorem putTx_kept (s : State) (f : TxFlow) : kept (putTx s f) = kept s := by simp [putTx]
@[simp] theorem flowEv_kept (s : State) (tx : Bool) (code sev : Nat) (args : List Byte) : kept (flowEv s tx code sev args) = kept s := by simp [flowEv]
@[simp] theorem lossMark_kept (s : State) (kind leg : Nat) (f : RxFlow) : kept (lossMark s kind leg f) = kept s := by simp [lossMark]
@[simp] theorem countFlows_kept (s : State) : kept (countFlows s) = kept s := by simp [countFlows]
@[simp] theorem joinGroup_kept (f : RxFlow) (s : State) (l : Nat) : kept (joinGroup f s l) = kept s := by simp [joinGroup]
theorem execRxfAdd_kept (c : Fin 8) (s : State) : ∀ u, execRxfAdd c s = .next u → kept u = kept s := by
  intro u h
  unfold execRxfAdd at h
  rw [Host.Outcome.next.injEq] at h
  rw [← h]
  refine serve_kept _ _ _ _ _ _ ?_
  intro s q
  try dsimp only
  (repeat' split) <;> first | simp | rfl | simp_all
@[simp] theorem askMac_kept (f : TxFlow) (s : State) (l : Nat) : kept (askMac f s l) = kept s := by
  unfold askMac
  split <;> simp
@[simp] theorem refreshNet_kept (s : State) : kept (refreshNet s) = kept s := by simp [refreshNet]
theorem execTxfAdd_kept (c : Fin 8) (macP macS : Option (BitVec 48)) (s : State) : ∀ u, execTxfAdd c macP macS s = .next u → kept u = kept s := by
  intro u h
  unfold execTxfAdd at h
  rw [Host.Outcome.next.injEq] at h
  rw [← h]
  refine serve_kept _ _ _ _ _ _ ?_
  intro s q
  try dsimp only
  (repeat' split) <;> first | simp | rfl | simp_all
theorem execRxfStats_kept (c : Fin 8) (s : State) : ∀ u, execRxfStats c s = .next u → kept u = kept s := by
  intro u h
  unfold execRxfStats at h
  rw [Host.Outcome.next.injEq] at h
  rw [← h]
  refine serve_kept _ _ _ _ _ _ ?_
  intro s q
  try dsimp only
  (repeat' split) <;> first | simp | rfl | simp_all
theorem execFlowList_kept (c : Fin 8) (s : State) : ∀ u, execFlowList c s = .next u → kept u = kept s := by
  intro u h
  unfold execFlowList at h
  rw [Host.Outcome.next.injEq] at h
  rw [← h]
  refine serve_kept _ _ _ _ _ _ ?_
  intro s q
  try dsimp only
  (repeat' split) <;> first | simp | rfl | simp_all
@[simp] theorem legAlive_kept (s : State) (f : RxFlow) (l : Nat) : kept (legAlive s f l).1 = kept s := by simp [legAlive]
@[simp] theorem placePacket_kept (s : State) (f : RxFlow) (l : Nat) (n : Int) (pay : List Byte) : kept (placePacket s f l n pay) = kept s := by simp [placePacket]
@[simp] theorem mediaPacket_kept (s : State) (f : RxFlow) (l src : Nat) (udp : List Byte) : kept (mediaPacket s f l src udp) = kept s := by
  unfold mediaPacket
  dsimp only
  (repeat' split) <;> simp_all
@[simp] theorem stageRow_kept (s : State) (f : RxFlow) (row : List Word) (entry : Bool) : kept (stageRow s f row entry).1 = kept s := by simp [stageRow]
@[simp] theorem stageFlow_kept (s : State) (f : RxFlow) (t : Nat) : kept (stageFlow s f t) = kept s := by simp [stageFlow]
@[simp] theorem stageRemoval_kept (s : State) (f : RxFlow) (t : Nat) : kept (stageRemoval s f t) = kept s := by simp [stageRemoval]
@[simp] theorem stageAt_kept (s : State) (f : RxFlow) (t : Nat) : kept (stageAt s f t) = kept s := by
  unfold stageAt
  split <;> simp
@[simp] theorem finishStaging_kept (s : State) : kept (finishStaging s) = kept s := by simp [finishStaging]
@[simp] theorem stageFlows_kept (s : State) : kept (stageFlows s) = kept s := by simp [stageFlows]
@[simp] theorem stageDue_kept (s : State) (i kind : Nat) : kept (stageDue s i kind) = kept s := by
  unfold stageDue
  split <;> simp
theorem execHoldLimitExpiry_kept (f : Fin 512) (s : State) : ∀ u, execHoldLimitExpiry f s = .next u → kept u = kept s := by
  intro u h
  unfold execHoldLimitExpiry at h
  rw [Host.Outcome.next.injEq] at h
  rw [← h]
  simp
theorem execFadeComplete_kept (f : Fin 512) (s : State) : ∀ u, execFadeComplete f s = .next u → kept u = kept s := by
  intro u h
  unfold execFadeComplete at h
  rw [Host.Outcome.next.injEq] at h
  rw [← h]
  simp
theorem execFadeInComplete_kept (f : Fin 512) (s : State) : ∀ u, execFadeInComplete f s = .next u → kept u = kept s := by
  intro u h
  unfold execFadeInComplete at h
  rw [Host.Outcome.next.injEq] at h
  rw [← h]
  simp
theorem execLegTimeout_kept (f : Fin 512) (leg : Fin 2) (s : State) : ∀ u, execLegTimeout f leg s = .next u → kept u = kept s := by
  intro u h
  unfold execLegTimeout at h
  (repeat' split at h) <;> cases h <;> simp_all
@[simp] theorem rxStartRemove_kept (s : State) (f : RxFlow) (ch : Option Nat) : kept (rxStartRemove s f ch) = kept s := by
  unfold rxStartRemove
  dsimp only
  split <;> simp
@[simp] theorem leaveGroup_kept (f : RxFlow) (s : State) (l : Nat) : kept (leaveGroup f s l) = kept s := by simp [leaveGroup]
@[simp] theorem rxDrop_kept (s : State) (f : RxFlow) : kept (rxDrop s f) = kept s := by simp [rxDrop]
@[simp] theorem txDrop_kept (s : State) (f : TxFlow) : kept (txDrop s f) = kept s := by simp [txDrop]
@[simp] theorem txStartRemove_kept (s : State) (f : TxFlow) (ch : Option Nat) : kept (txStartRemove s f ch) = kept s := by simp [txStartRemove]
theorem execRxfRemove_kept (c : Fin 8) (s : State) : ∀ u, execRxfRemove c s = .next u → kept u = kept s := by
  intro u h
  unfold execRxfRemove at h
  rw [Host.Outcome.next.injEq] at h
  rw [← h]
  refine serve_kept _ _ _ _ _ _ ?_
  intro s q
  try dsimp only
  (repeat' split) <;> first | simp | rfl | simp_all
theorem execTxfRemove_kept (c : Fin 8) (s : State) : ∀ u, execTxfRemove c s = .next u → kept u = kept s := by
  intro u h
  unfold execTxfRemove at h
  rw [Host.Outcome.next.injEq] at h
  rw [← h]
  refine serve_kept _ _ _ _ _ _ ?_
  intro s q
  try dsimp only
  (repeat' split) <;> first | simp | rfl | simp_all
@[simp] theorem removeAll_kept (s : State) (tx : Bool) : kept (removeAll s tx) = kept s := by simp [removeAll]
theorem execFlowRemoved_kept (tx : Bool) (f : Fin 512) (s : State) : ∀ u, execFlowRemoved tx f s = .next u → kept u = kept s := by
  intro u h
  unfold execFlowRemoved at h
  (repeat' split at h) <;> cases h <;> simp_all
@[simp] theorem lossEvent_kept (s : State) (kind source : Nat) (ms : List LossMark) : kept (lossEvent s kind source ms) = kept s := by simp [lossEvent]
@[simp] theorem reportLoss_kept (s : State) (ms : List LossMark) : kept (reportLoss s ms) = kept s := by
  unfold reportLoss
  refine kept_foldl _ _ _ fun s x => kept_foldl _ _ _ fun s y => ?_
  split <;> simp
@[simp] theorem queueLost_kept (s : State) (x : Nat × Nat) : kept (queueLost s x) = kept s := by simp [queueLost]
@[simp] theorem lossWindow_kept (s : State) : kept (lossWindow s) = kept s := by simp [lossWindow]
theorem execLossWindowEnd_kept (s : State) : ∀ u, execLossWindowEnd s = .next u → kept u = kept s := by
  intro u h
  unfold execLossWindowEnd at h
  split at h <;> (rw [Host.Outcome.next.injEq] at h; rw [← h]) <;> simp
@[simp] theorem gatherTx_kept (s : State) (f : TxFlow) : kept (gatherTx s f) = kept s := by simp [gatherTx]
@[simp] theorem gatherFlows_kept (s : State) : kept (gatherFlows s) = kept s := by simp [gatherFlows]
theorem offerMedia_kept (s : State) (p : Nat) (fr : TxFrame) : ∀ u, offerMedia s p fr = some u → kept u = kept s := by
  intro u h
  unfold offerMedia at h
  (repeat' split at h) <;> cases h <;> simp_all
@[simp] theorem offerLeg_kept (s : State) (f : TxFlow) (l n : Nat) : kept (offerLeg s f l n) = kept s := by
  unfold offerLeg
  split
  · rfl
  · rename_i p _
    have h := offerMedia_kept s p (mediaFrame s f l p n)
    dsimp only
    split
    · exact h _ (by assumption)
    · split <;> simp
@[simp] theorem formPacket_kept (s : State) (f : TxFlow) (n : Nat) : kept (formPacket s f n) = kept s := by simp [formPacket]
theorem execTxPacketForm_kept (f : Fin 512) (s : State) : ∀ u, execTxPacketForm f s = .next u → kept u = kept s := by
  intro u h
  unfold execTxPacketForm at h
  (repeat' split at h) <;> cases h <;> simp_all
@[simp] theorem finishPackets_kept (s : State) : kept (finishPackets s) = kept s := by simp [finishPackets]
theorem execTxfHeldDrop_kept (f : Fin 512) (leg : Fin 2) (s : State) : ∀ u, execTxfHeldDrop f leg s = .next u → kept u = kept s := by
  intro u h
  unfold execTxfHeldDrop at h
  (repeat' split at h) <;> cases h <;> simp_all
@[simp] theorem offerSome_kept (s : State) (l p : Nat) (r0 : Nat) : kept (offerSome s l p r0) = kept s := by
  induction r0 generalizing s with
  | zero => rfl
  | succ n ih =>
    unfold offerSome
    split
    · rfl
    · split
      · rename_i h
        rw [ih]
        simp [offerMedia_kept _ _ _ _ h]
      · rfl
@[simp] theorem offerHeld_kept (s : State) (l p : Nat) : kept (offerHeld s l p) = kept s := by simp [offerHeld]
@[simp] theorem rxEarly_kept (s : State) (p : Nat) (x : RxSeen) : kept (rxEarly s p x).1 = kept s := by simp [rxEarly]
@[simp] theorem rxLate_kept (s : State) (p : Nat) (x : RxSeen) : kept (rxLate s p x).1 = kept s := by simp [rxLate]
@[simp] theorem rxGate_kept (s : State) (p : Nat) (x : RxSeen) : kept (rxGate s p x).1 = kept s := by simp [rxGate]
@[simp] theorem rxHead_kept (s : State) (h : RxHead) (etype sub : Nat) : kept (rxHead s h etype sub).1 = kept s := by simp [rxHead]
@[simp] theorem refill_kept (s : State) (p : Nat) : kept (refill s p) = kept s := by simp [refill]
@[simp] theorem controlFrame_kept (s : State) (p : Nat) : kept (controlFrame s p).1 = kept s := by simp [controlFrame]
@[simp] theorem omzorArrives_kept (s : State) (h : RxHead) (hw : Bool) : kept (omzorArrives s h hw).1 = kept s := by simp [omzorArrives]
@[simp] theorem keepR_kept (t s : State) (o : Nat) : kept (keepR t s o) = kept s := by simp [keepR]
@[simp] theorem keepF_kept (t s : State) (f : Fld) : kept (keepF t s f) = kept s := by simp [keepF]
@[simp] theorem keepStraps_kept (t s : State) : kept (keepStraps t s) = kept s := by simp [keepStraps]
@[simp] theorem keepAon_kept (t s : State) : kept (keepAon t s) = kept s := by simp [keepAon]
@[simp] theorem enableNext_kept (s : State) : kept (enableNext s) = kept s := by
  unfold enableNext
  split <;> simp
@[simp] theorem groupsDown_kept (s : State) (keep : Nat) : kept (groupsDown s keep) = kept s := by simp [groupsDown]
@[simp] theorem sampleStraps_kept (s : State) (bootsel : Nat) (testEn : Bool) (a : Nat) : kept (sampleStraps s bootsel testEn a) = kept s := by simp [sampleStraps]
@[simp] theorem enterBoot_kept (s : State) : kept (enterBoot s) = kept s := by simp [enterBoot]
@[simp] theorem keepBlocks_kept (t s : State) : kept (keepBlocks t s) = kept s := by simp [keepBlocks]
@[simp] theorem setPress_kept (s : State) (p : Nat) (x : Press) : kept (setPress s p x) = kept s := by simp [setPress]
@[simp] theorem setLane_kept (s : State) (p j : Nat) (l : Lane) : kept (setLane s p j l) = kept s := by simp [setLane]
@[simp] theorem note_kept (s : State) (p : Nat) (w : Wr) : kept (note s p w) = kept s := by simp [note]
@[simp] theorem pressEv_kept (s : State) (t code sev : Nat) (args : List Byte) : kept (pressEv s t code sev args) = kept s := by simp [pressEv]
@[simp] theorem raiseFlag_kept (s : State) (p t j : Nat) (f : LFlag) : kept (raiseFlag s p t j f) = kept s := by simp [raiseFlag]
@[simp] theorem setLaneFlag_kept (s : State) (p t j : Nat) (f : LFlag) (on : Bool) : kept (setLaneFlag s p t j f on) = kept s := by simp [setLaneFlag]
@[simp] theorem pressFault_kept (s : State) (p : Nat) : kept (pressFault s p) = kept s := by simp [pressFault]
@[simp] theorem checkMismatch_kept (s : State) (p t c e : Nat) : kept (checkMismatch s p t c e) = kept s := by simp [checkMismatch]
@[simp] theorem eccCorrected_kept (s : State) (frac : BitVec 16) (p mem l : Nat) : kept (eccCorrected s frac p mem l) = kept s := by simp [eccCorrected]
@[simp] theorem eccUncorrectable_kept (s : State) (frac : BitVec 16) (p mem l addr : Nat) (scrub : Bool) : kept (eccUncorrectable s frac p mem l addr scrub) = kept s := by simp [eccUncorrectable]
@[simp] theorem eccCheck_kept (s : State) (f : BitVec 16) (p m k : Nat) (scrub : Bool) : kept (eccCheck s f p m k scrub) = kept s := by
  unfold eccCheck
  split <;> simp
@[simp] theorem strikeWord_kept (s : State) (p m k : Nat) (two : Bool) : kept (strikeWord s p m k two) = kept s := by simp [strikeWord]
@[simp] theorem setBankState_kept (s : State) (b st : Nat) : kept (setBankState s b st) = kept s := by simp [setBankState]
@[simp] theorem setTwc_kept (s : State) (k : Nat) (x : Twc) : kept (setTwc s k x) = kept s := by simp [setTwc]
@[simp] theorem setTwQueue_kept (s : State) (k : Nat) (q : List TwXfer) : kept (setTwQueue s k q) = kept s := by simp [setTwQueue]
@[simp] theorem avsEnd_kept (s : State) (x : TwXfer) (res : Nat) : kept (avsEnd s x res) = kept s := by simp [avsEnd]
@[simp] theorem twFinish_kept (s : State) (k : Nat) (x : TwXfer) (res acked : Nat) (rd : List Byte) : kept (twFinish s k x res acked rd) = kept s := by simp [twFinish]
@[simp] theorem twDrain_kept (s : State) (k res : Nat) : kept (twDrain s k res) = kept s := by simp [twDrain]
@[simp] theorem twIdle_kept (s : State) (k : Nat) (free : Bool) : kept (twIdle s k free) = kept s := by simp [twIdle]
@[simp] theorem busClearRun_kept (s : State) (k : Nat) (freed : Option (Fin 9)) : kept (busClearRun s k freed) = kept s := by
  unfold busClearRun
  split <;> simp
@[simp] theorem autoClear_kept (s : State) (k : Nat) (freed : Option (Fin 9)) : kept (autoClear s k freed) = kept s := by simp [autoClear]
@[simp] theorem waitingClears_kept (s : State) (k : Nat) (freed : Option (Fin 9)) : kept (waitingClears s k freed) = kept s := by simp [waitingClears]
@[simp] theorem twStart_kept (s : State) (k : Nat) (sda : Option Byte) : kept (twStart s k sda) = kept s := by
  unfold twStart
  split <;> simp
@[simp] theorem twStop_kept (s : State) (k : Nat) : kept (twStop s k) = kept s := by simp [twStop]
@[simp] theorem twRestart_kept (s : State) : kept (twRestart s) = kept s := by simp [twRestart]
theorem execTwXfer_kept (c : Fin 8) (s : State) : ∀ u, execTwXfer c s = .next u → kept u = kept s := by
  intro u h
  unfold execTwXfer at h
  rw [Host.Outcome.next.injEq] at h
  rw [← h]
  simp
theorem execBusClear_kept (c : Fin 8) (freed : Option (Fin 9)) (s : State) : ∀ u, execBusClear c freed s = .next u → kept u = kept s := by
  intro u h
  unfold execBusClear at h
  rw [Host.Outcome.next.injEq] at h
  rw [← h]
  simp
@[simp] theorem twBegin_kept (s : State) (k : Nat) (x : TwXfer) : kept (twBegin s k x) = kept s := by
  unfold twBegin
  split <;> simp
theorem execTwTransferStart_kept (k : Fin 2) (s : State) : ∀ u, execTwTransferStart k s = .next u → kept u = kept s := by
  intro u h
  unfold execTwTransferStart at h
  (repeat' split at h) <;> cases h <;> simp_all
@[simp] theorem twArbLost_kept (s : State) (k : Nat) (x : TwXfer) (byte bit : Nat) : kept (twArbLost s k x byte bit) = kept s := by simp [twArbLost]
@[simp] theorem twArbCond_kept (s : State) (k : Nat) (x : TwXfer) (byte : Nat) : kept (twArbCond s k x byte) = kept s := by simp [twArbCond]
@[simp] theorem twOk_kept (s : State) (k : Nat) (x : TwXfer) (rd : List Byte) (pec : Byte) : kept (twOk s k x rd pec) = kept s := by simp [twOk]
@[simp] theorem twEnd_kept (s : State) (k : Nat) (x : TwXfer) (e : TwEnd) : kept (twEnd s k x e) = kept s := by
  unfold twEnd
  split <;> simp
theorem execTwTransferEnd_kept (k : Fin 2) (e : TwEnd) (s : State) : ∀ u, execTwTransferEnd k e s = .next u → kept u = kept s := by
  intro u h
  unfold execTwTransferEnd at h
  (repeat' split at h) <;> cases h <;> simp_all
theorem execSclLowTimeout_kept (k : Fin 2) (acked : Fin 68) (freed : Option (Fin 9)) (s : State) : ∀ u, execSclLowTimeout k acked freed s = .next u → kept u = kept s := by
  intro u h
  unfold execSclLowTimeout at h
  dsimp only at h
  (repeat' split at h) <;> cases h <;> simp_all
theorem execSdaLowTimeout_kept (k : Fin 2) (freed : Option (Fin 9)) (s : State) : ∀ u, execSdaLowTimeout k freed s = .next u → kept u = kept s := by
  intro u h
  unfold execSdaLowTimeout at h
  split at h <;> (rw [Host.Outcome.next.injEq] at h; rw [← h]) <;> simp
theorem execTwBusFree_kept (k : Fin 2) (freed : Option (Fin 9)) (s : State) : ∀ u, execTwBusFree k freed s = .next u → kept u = kept s := by
  intro u h
  unfold execTwBusFree at h
  split at h <;> (rw [Host.Outcome.next.injEq] at h; rw [← h]) <;> simp
theorem execTwBusBusy_kept (k : Fin 2) (s : State) : ∀ u, execTwBusBusy k s = .next u → kept u = kept s := by
  intro u h
  unfold execTwBusBusy at h
  split at h <;> (rw [Host.Outcome.next.injEq] at h; rw [← h]) <;> simp
@[simp] theorem twAttention_kept (s : State) (k a : Nat) (inband : Bool) : kept (twAttention s k a inband) = kept s := by simp [twAttention]
@[simp] theorem twTakeAttentions_kept (s : State) : kept (twTakeAttentions s) = kept s := by simp [twTakeAttentions]
@[simp] theorem alertRead_kept (s : State) (k : Nat) (fresh : Bool) (answer : Option Byte) : kept (alertRead s k fresh answer) = kept s := by
  unfold alertRead
  dsimp only
  split <;> simp
theorem execAlertResponseRead_kept (k : Fin 2) (fresh : Bool) (answer : Option Byte) (s : State) : ∀ u, execAlertResponseRead k fresh answer s = .next u → kept u = kept s := by
  intro u h
  unfold execAlertResponseRead at h
  dsimp only at h
  split at h <;> (rw [Host.Outcome.next.injEq] at h; rw [← h]) <;> simp
theorem execInBandRequest_kept (k : Fin 2) (bits : Byte) (freed : Option (Fin 9)) (s : State) : ∀ u, execInBandRequest k bits freed s = .next u → kept u = kept s := by
  intro u h
  unfold execInBandRequest at h
  dsimp only at h
  (repeat' split at h) <;> cases h <;> simp_all
@[simp] theorem pageRead_kept (s : State) (r0 : Nat) : kept (pageRead s r0).1 = kept s := by
  induction r0 generalizing s <;> simp_all [pageRead]
theorem execTwtWrite_kept (data : List Byte) (s : State) : ∀ u, execTwtWrite data s = .next u → kept u = kept s := by
  intro u h
  unfold execTwtWrite at h
  (repeat' split at h) <;> cases h <;> simp_all
theorem execTwtRead_kept (n : BitVec 16) (s : State) : ∀ u, execTwtRead n s = .next u → kept u = kept s := by
  intro u h
  unfold execTwtRead at h
  split at h <;> (rw [Host.Outcome.next.injEq] at h; rw [← h]) <;> simp
theorem execTwtAlertResponse_kept (whole : Bool) (s : State) : ∀ u, execTwtAlertResponse whole s = .next u → kept u = kept s := by
  intro u h
  unfold execTwtAlertResponse at h
  split at h <;> (rw [Host.Outcome.next.injEq] at h; rw [← h]) <;> simp
theorem execTwtTimeout_kept (s : State) : ∀ u, execTwtTimeout s = .next u → kept u = kept s := by
  intro u h
  unfold execTwtTimeout at h
  split at h <;> (rw [Host.Outcome.next.injEq] at h; rw [← h]) <;> simp
@[simp] theorem releaseSems_kept (s : State) (a : Nat) : kept (releaseSems s a) = kept s := by simp [releaseSems]
@[simp] theorem cutWork_kept (s : State) : kept (cutWork s) = kept s := by
  unfold cutWork
  dsimp only
  (repeat' split) <;> simp_all
@[simp] theorem busyChannels_kept (s : State) : kept (busyChannels s) = kept s := by simp [busyChannels]
@[simp] theorem meterCut_kept (s : State) : kept (meterCut s) = kept s := by simp [meterCut]
@[simp] theorem cpRestart_kept (s : State) (cause : Nat) : kept (cpRestart s cause) = kept s := by simp [cpRestart]
@[simp] theorem cpHalt_kept (s : State) : kept (cpHalt s) = kept s := by simp [cpHalt]
@[simp] theorem push_kept (s : State) (p t : Nat) (w : Wr) : kept (push s p t w) = kept s := by simp [push]
@[simp] theorem strike_kept (s : State) (p : Nat) (u : Upset) : kept (strike s p u) = kept s := by
  unfold strike
  split <;> simp
@[simp] theorem strikeResult_kept (s : State) (p : Nat) (u : Upset) : kept (strikeResult s p u) = kept s := by
  unfold strikeResult
  split <;> simp
@[simp] theorem compareLanes_kept (s : State) (p t : Nat) : kept (compareLanes s p t) = kept s := by simp [compareLanes]
@[simp] theorem checkReads_kept (s : State) (p t : Nat) : kept (checkReads s p t) = kept s := by
  unfold checkReads
  exact kept_foldl _ _ _ (by simp)
@[simp] theorem checkFetch_kept (s : State) (p t : Nat) : kept (checkFetch s p t) = kept s := by
  unfold checkFetch
  split <;> simp
@[simp] theorem ready_kept (s : State) (h : Issue) : kept (ready s h) = kept s := by simp [ready]
@[simp] theorem retire_kept (s : State) (h : Issue) : kept (retire s h) = kept s := by simp [retire]
@[simp] theorem issue_kept (i : Instr) (h : Issue) (s : State) (f : State → Nat → Word → State) (hf : ∀ (s : State) a0 a1, kept (f s a0 a1) = kept s) : kept (issue i h s f) = kept s := by
  unfold issue
  split <;> simp [hf]
@[simp] theorem eachLane_kept (s : State) (p : Nat) (m : Word) (f : State → Nat → Nat → State) (hf : ∀ (s : State) a0 a1, kept (f s a0 a1) = kept s) : kept (eachLane s p m f) = kept s := by simp [eachLane, hf]
@[simp] theorem setV_kept (s : State) (p t j : Nat) (r : Fin 16) (w : Word) : kept (setV s p t j r w) = kept s := by simp [setV]
@[simp] theorem setFR_kept (s : State) (p t j : Nat) (r : Fin 16) (x : FR) : kept (setFR s p t j r x) = kept s := by simp [setFR]
@[simp] theorem pushDelay_kept (s : State) (x : DWr) : kept (pushDelay s x) = kept s := by simp [pushDelay]
@[simp] theorem pushMeter_kept (s : State) (p t a : Nat) (w : Word) : kept (pushMeter s p t a w) = kept s := by simp [pushMeter]
@[simp] theorem drainPress_kept (s : State) (p : Nat) : kept (drainPress s p) = kept s := by simp [drainPress]
@[simp] theorem drain_kept (s : State) : kept (drain s) = kept s := by simp [drain]
@[simp] theorem loadCheck_kept (s : State) (p k : Nat) : kept (loadCheck s p k) = kept s := by simp [loadCheck]
@[simp] theorem scrubStep_kept (s : State) (p : Nat) : kept (scrubStep s p) = kept s := by simp [scrubStep]
@[simp] theorem muteStep_kept (s : State) (p : Nat) : kept (muteStep s p) = kept s := by simp [muteStep]
@[simp] theorem setSap_kept (s : State) (n : Nat) (x : SapPort) : kept (setSap s n x) = kept s := by simp [setSap]
@[simp] theorem sapRefresh_kept (s : State) (n : Nat) : kept (sapRefresh s n) = kept s := by simp [sapRefresh]
@[simp] theorem sapSetPhase_kept (s : State) (n ph : Nat) : kept (sapSetPhase s n ph) = kept s := by simp [sapSetPhase]
@[simp] theorem sapEv_kept (s : State) (n code sev : Nat) (args : List Byte) : kept (sapEv s n code sev args) = kept s := by simp [sapEv]
@[simp] theorem setTrk_kept (s : State) (t : Nat) (x : Trk) : kept (setTrk s t x) = kept s := by simp [setTrk]
@[simp] theorem trkStamp_kept (s : State) (t : Nat) (frac : BitVec 16) : kept (trkStamp s t frac) = kept s := by simp [trkStamp]
@[simp] theorem sapArm_kept (s : State) (n startAt : Nat) : kept (sapArm s n startAt) = kept s := by simp [sapArm]
@[simp] theorem sapEnable_kept (s : State) (n : Nat) : kept (sapEnable s n) = kept s := by simp [sapEnable]
@[simp] theorem stampEdge_kept (s : State) (n num : Nat) (frac : BitVec 16) : kept (stampEdge s n num frac) = kept s := by simp [stampEdge]
@[simp] theorem takeUpset_kept (s : State) (n : Nat) (u : Option SapUpset) : kept (takeUpset s n u) = kept s := by
  unfold takeUpset
  split <;> simp
@[simp] theorem applyMasks_kept (s : State) (n : Nat) (late : Bool) : kept (applyMasks s n late) = kept s := by
  unfold applyMasks
  dsimp only
  (repeat' split) <;> simp_all
@[simp] theorem flushFrame_kept (s : State) (n : Nat) : kept (flushFrame s n) = kept s := by
  unfold flushFrame
  dsimp only
  split <;> simp
@[simp] theorem beginFrame_kept (s : State) (n : Nat) (u : Option SapUpset) (old : Int) (asrc : SinkSlots) (data : Bool) : kept (beginFrame s n u old asrc data) = kept s := by simp [beginFrame]
@[simp] theorem startFrames_kept (s : State) (n : Nat) (frac : BitVec 16) : kept (startFrames s n frac) = kept s := by simp [startFrames]
@[simp] theorem noteRestart_kept (s : State) (n why : Nat) : kept (noteRestart s n why) = kept s := by simp [noteRestart]
theorem execSapStart_kept (n : Fin 16) (s : State) : ∀ u, execSapStart n s = .next u → kept u = kept s := by
  intro u h
  unfold execSapStart at h
  dsimp only at h
  split at h <;> (rw [Host.Outcome.next.injEq] at h; rw [← h]) <;> simp
@[simp] theorem takeFrame_kept (s : State) (n : Nat) (wire : List Word) (u : Option SapUpset) (old : Int) (data : Bool) : kept (takeFrame s n wire u old data) = kept s := by simp [takeFrame]
@[simp] theorem frameEdge_kept (s : State) (n num : Nat) (wire : List Word) (frac : BitVec 16) (u : Option SapUpset) (late : Bool) (asrc : SinkSlots) (data : Bool) : kept (frameEdge s n num wire frac u late asrc data) = kept s := by simp [frameEdge]
@[simp] theorem trkWake_kept (s : State) (n : Nat) : kept (trkWake s n) = kept s := by simp [trkWake]
@[simp] theorem trkRestart_kept (s : State) (n hz : Nat) : kept (trkRestart s n hz) = kept s := by simp [trkRestart]
@[simp] theorem trkStop_kept (s : State) (n : Nat) : kept (trkStop s n) = kept s := by
  simp only [trkStop, kept_mk, kept_eta, setR_kept, setF_kept, setTrk_kept]
theorem execSapFirstDataFrame_kept (n : Fin 16) (wire : List Word) (cycle : Fin 10240) (upset : Option SapUpset) (s : State) : ∀ u, execSapFirstDataFrame n wire cycle upset s = .next u → kept u = kept s := by
  intro u h
  unfold execSapFirstDataFrame at h
  dsimp only at h
  split at h <;> (rw [Host.Outcome.next.injEq] at h; rw [← h]) <;> simp
@[simp] theorem quietEdge_kept (s : State) (n k : Nat) (frac : BitVec 16) (u : Option SapUpset) (late : Bool) : kept (quietEdge s n k frac u late) = kept s := by simp [quietEdge]
@[simp] theorem faultedEdge_kept (s : State) (n k : Nat) (frac : BitVec 16) : kept (faultedEdge s n k frac) = kept s := by simp [faultedEdge]
theorem execSapFrame_kept (n : Fin 16) (wire : List Word) (cycle : Fin 10240) (upset : Option SapUpset) (late : Bool) (s : State) : ∀ u, execSapFrame n wire cycle upset late s = .next u → kept u = kept s := by
  intro u h
  unfold execSapFrame at h
  dsimp only at h
  (repeat' split at h) <;> cases h <;> simp_all
theorem execSapFollowerStart_kept (n : Fin 16) (hz : Word) (cycle : Fin 10240) (s : State) : ∀ u, execSapFollowerStart n hz cycle s = .next u → kept u = kept s := by
  intro u h
  unfold execSapFollowerStart at h
  dsimp only at h
  (repeat' split at h) <;> cases h <;> simp_all
@[simp] theorem fnFault_kept (s : State) (f code : Nat) : kept (fnFault s f code) = kept s := by simp [fnFault]
@[simp] theorem refreshSlip_kept (s : State) (n : Nat) : kept (refreshSlip s n) = kept s := by simp [refreshSlip]
@[simp] theorem dropSync_kept (s : State) (n : Nat) : kept (dropSync s n) = kept s := by simp [dropSync]
@[simp] theorem clockFault_kept (s : State) (i cond : Nat) : kept (clockFault s i cond) = kept s := by simp [clockFault]
theorem execSapClockFault_kept (n : Fin 16) (cond : Fin 4) (s : State) : ∀ u, execSapClockFault n cond s = .next u → kept u = kept s := by
  intro u h
  unfold execSapClockFault at h
  (repeat' split at h) <;> cases h <;> simp_all
@[simp] theorem sapStop_kept (s : State) (n : Nat) : kept (sapStop s n) = kept s := by simp [sapStop]
@[simp] theorem sapEnd_kept (s : State) (n : Nat) : kept (sapEnd s n) = kept s := by simp [sapEnd]
theorem execSapStopped_kept (n : Fin 16) (clockLost : Bool) (s : State) : ∀ u, execSapStopped n clockLost s = .next u → kept u = kept s := by
  intro u h
  unfold execSapStopped at h
  dsimp only at h
  split at h <;> (rw [Host.Outcome.next.injEq] at h; rw [← h]) <;> simp
@[simp] theorem maskWrite_kept (s : State) (n : Nat) (tx : Bool) (w : Word) : kept (maskWrite s n tx w) = kept s := by simp [maskWrite]
theorem execSapMaskWrite_kept (n : Fin 16) (tx : Bool) (w : Word) (s : State) : ∀ u, execSapMaskWrite n tx w s = .next u → kept u = kept s := by
  intro u h
  unfold execSapMaskWrite at h
  rw [Host.Outcome.next.injEq] at h
  rw [← h]
  simp
theorem execSlotmaskUpdate_kept (c : Fin 8) (s : State) : ∀ u, execSlotmaskUpdate c s = .next u → kept u = kept s := by
  intro u h
  unfold execSlotmaskUpdate at h
  rw [Host.Outcome.next.injEq] at h
  rw [← h]
  refine serve_kept _ _ _ _ _ _ ?_
  intro s q
  generalize timedAt s q = o
  generalize s.sctr.toNat % 2 ^ 32 = d
  cases o <;> dsimp only <;> (repeat' split) <;> simp
theorem execSapRestart_kept (c : Fin 8) (s : State) : ∀ u, execSapRestart c s = .next u → kept u = kept s := by
  intro u h
  unfold execSapRestart at h
  rw [Host.Outcome.next.injEq] at h
  rw [← h]
  simp
@[simp] theorem sapPut_kept (s : State) (n : Nat) (row : List Word) (entry : Bool) : kept (sapPut s n row entry) = kept s := by simp [sapPut]
@[simp] theorem measureFill_kept (s : State) (n : Nat) : kept (measureFill s n) = kept s := by simp [measureFill]
@[simp] theorem fifoFault_kept (s : State) (n : Nat) : kept (fifoFault s n) = kept s := by simp [fifoFault]
@[simp] theorem capFifo_kept (s : State) (n : Nat) : kept (capFifo s n) = kept s := by
  unfold capFifo
  dsimp only
  split <;> simp
@[simp] theorem syncStage_kept (s : State) (n : Nat) : kept (syncStage s n).1 = kept s := by
  unfold syncStage
  dsimp only
  split <;> simp
@[simp] theorem stageSap_kept (s : State) (n : Nat) : kept (stageSap s n) = kept s := by simp [stageSap]
@[simp] theorem stageSaps_kept (s : State) : kept (stageSaps s) = kept s := by simp [stageSaps]
@[simp] theorem decimate_kept (s : State) (n : Nat) : kept (decimate s n) = kept s := by simp [decimate]
@[simp] theorem decimateSaps_kept (s : State) : kept (decimateSaps s) = kept s := by simp [decimateSaps]
@[simp] theorem decideAnchor_kept (s : State) (n : Nat) : kept (decideAnchor s n) = kept s := by
  unfold decideAnchor
  dsimp only
  (repeat' split) <;> simp_all
@[simp] theorem decideAnchors_kept (s : State) : kept (decideAnchors s) = kept s := by simp [decideAnchors]
theorem execSlipDecision_kept (n : Fin 16) (s : State) : ∀ u, execSlipDecision n s = .next u → kept u = kept s := by
  intro u h
  unfold execSlipDecision at h
  split at h <;> (rw [Host.Outcome.next.injEq] at h; rw [← h]) <;> simp
@[simp] theorem applySync_kept (s : State) (n : Nat) (kind : Nat) (at_ : Nat) (frac : BitVec 16) : kept (applySync s n kind at_ frac) = kept s := by
  unfold applySync
  dsimp only
  (repeat' split) <;> simp_all
@[simp] theorem ringAdvance_kept (s : State) (r : Nat) : kept (ringAdvance s r) = kept s := by simp [ringAdvance]
@[simp] theorem evtInterrupt_kept (s : State) : kept (evtInterrupt s) = kept s := by simp [evtInterrupt]
@[simp] theorem ringCopy_kept (s : State) (r : Rec) : kept (ringCopy s r) = kept s := by simp [ringCopy]
@[simp] theorem ringRecopy_kept (s : State) (r : Rec) : kept (ringRecopy s r) = kept s := by
  unfold ringRecopy
  split <;> simp
@[simp] theorem ringReport_kept (s : State) : kept (ringReport s) = kept s := by simp [ringReport]
@[simp] theorem bankWrite_kept (s : State) (r : Rec) : kept (bankWrite s r) = kept s := by simp [bankWrite]
@[simp] theorem takeSeq_kept (s : State) : kept (takeSeq s).1 = kept s := by simp [takeSeq]
@[simp] theorem refreshOldest_kept (s : State) : kept (refreshOldest s) = kept s := by simp [refreshOldest]
@[simp] theorem slotWrite_kept (s : State) (k : Nat) (r : Rec) : kept (slotWrite s k r) = kept s := by simp [slotWrite]
@[simp] theorem writeNew_kept (s : State) (e : Rec) : kept (writeNew s e) = kept s := by
  unfold writeNew
  split <;> simp
@[simp] theorem writeDegraded_kept (s : State) (e : Rec) : kept (writeDegraded s e) = kept s := by simp [writeDegraded]
@[simp] theorem degrade_kept (s : State) (k : Nat) : kept (degrade s k) = kept s := by simp [degrade]
@[simp] theorem writeOne_kept (s : State) (e : Rec) (unc : Bool) : kept (writeOne s e unc) = kept s := by
  unfold writeOne
  (repeat' split) <;> simp_all
@[simp] theorem writeRewrite_kept (s : State) (w : Rewrite) (unc : Bool) : kept (writeRewrite s w unc) = kept s := by simp [writeRewrite]
@[simp] theorem logWriteStep_kept (s : State) (unc : Bool) : kept (logWriteStep s unc) = kept s := by
  unfold logWriteStep
  (repeat' split) <;> simp_all
theorem execLogRecordWrite_kept (unc : Bool) (s : State) : ∀ u, execLogRecordWrite unc s = .next u → kept u = kept s := by
  intro u h
  unfold execLogRecordWrite at h
  rw [Host.Outcome.next.injEq] at h
  rw [← h]
  simp
@[simp] theorem latchSlot_kept (s : State) (bank : Bool) (k : Nat) : kept (latchSlot s bank k) = kept s := by simp [latchSlot]
theorem execLogSlotRead_kept (bank : Bool) (slot : Fin 4096) (dw : Fin 8) (n : Fin 9) (unc : Bool) (s : State) : ∀ u, execLogSlotRead bank slot dw n unc s = .next u → kept u = kept s := by
  intro u h
  unfold execLogSlotRead at h
  split at h <;> (rw [Host.Outcome.next.injEq] at h; rw [← h]) <;> simp
theorem execLogScrub_kept (corrected : BitVec 16) (unc : Option (Fin 4096)) (s : State) : ∀ u, execLogScrub corrected unc s = .next u → kept u = kept s := by
  intro u h
  unfold execLogScrub at h
  split at h <;> (rw [Host.Outcome.next.injEq] at h; rw [← h]) <;> simp
theorem execLogRepair_kept (c : Fin 8) (s : State) : ∀ u, execLogRepair c s = .next u → kept u = kept s := by
  intro u h
  unfold execLogRepair at h
  rw [Host.Outcome.next.injEq] at h
  rw [← h]
  simp
@[simp] theorem mapOut_kept (s : State) (g : Nat) : kept (mapOut s g) = kept s := by simp [mapOut]
@[simp] theorem restoreFromBank_kept (s : State) : kept (restoreFromBank s) = kept s := by
  unfold restoreFromBank
  refine kept_foldl _ _ _ fun s x => ?_
  split <;> simp
@[simp] theorem repairEnd_kept (s : State) : kept (repairEnd s).1 = kept s := by simp [repairEnd]
theorem execLogRepaired_kept (failed : List (Fin 128)) (s : State) : ∀ u, execLogRepaired failed s = .next u → kept u = kept s := by
  intro u h
  unfold execLogRepaired at h
  dsimp only at h
  split at h <;> (rw [Host.Outcome.next.injEq] at h; rw [← h]) <;> simp
theorem execLogClear_kept (c : Fin 8) (s : State) : ∀ u, execLogClear c s = .next u → kept u = kept s := by
  intro u h
  unfold execLogClear at h
  rw [Host.Outcome.next.injEq] at h
  rw [← h]
  simp
theorem execLogGaspClear_kept (c : Fin 8) (s : State) : ∀ u, execLogGaspClear c s = .next u → kept u = kept s := by
  intro u h
  unfold execLogGaspClear at h
  rw [Host.Outcome.next.injEq] at h
  rw [← h]
  simp
theorem execEvtHoldoffExpiry_kept (s : State) : ∀ u, execEvtHoldoffExpiry s = .next u → kept u = kept s := by
  intro u h
  unfold execEvtHoldoffExpiry at h
  (repeat' split at h) <;> cases h <;> simp_all
theorem execEventRingRecopy_kept (seq : BitVec 32) (s : State) : ∀ u, execEventRingRecopy seq s = .next u → kept u = kept s := by
  intro u h
  unfold execEventRingRecopy at h
  dsimp only at h
  (repeat' split at h) <;> cases h <;> simp_all
@[simp] theorem bufDone_kept (s : State) (r : Nat) (d : Desc) (len status : Nat) : kept (bufDone s r d len status) = kept s := by simp [bufDone]
@[simp] theorem bufShort_kept (s : State) (r : Nat) (d : Desc) : kept (bufShort s r d) = kept s := by simp [bufShort]
@[simp] theorem bufWrite_kept (s : State) (r : Nat) (d : Desc) (data : List Byte) : kept (bufWrite s r d data).1 = kept s := by simp [bufWrite]
@[simp] theorem convStart_kept (s : State) : kept (convStart s) = kept s := by simp [convStart]
@[simp] theorem convStop_kept (s : State) : kept (convStop s) = kept s := by simp [convStop]
theorem execConvLocked_kept (t : Fin 16) (s : State) : ∀ u, execConvLocked t s = .next u → kept u = kept s := by
  intro u h
  simp only [execConvLocked] at h
  (repeat' split at h) <;> cases h <;> simp_all
theorem execConvUnlocked_kept (t : Fin 16) (reason : Fin 5) (s : State) : ∀ u, execConvUnlocked t reason s = .next u → kept u = kept s := by
  intro u h
  simp only [execConvUnlocked] at h
  (repeat' split at h) <;> cases h <;> simp_all
@[simp] theorem decideRatio_kept (s : State) (t : Nat) (anchor : Option (BitVec 64 × BitVec 16)) : kept (decideRatio s t anchor) = kept s := by simp [decideRatio]
theorem execConvRatioUpdate_kept (t : Fin 16) (back : Fin 64) (s : State) : ∀ u, execConvRatioUpdate t back s = .next u → kept u = kept s := by
  intro u h
  unfold execConvRatioUpdate at h
  split at h
  · split at h
    · rw [Host.Outcome.next.injEq] at h; rw [← h]; simp
    · split at h
      · rw [Host.Outcome.next.injEq] at h; rw [← h]; simp
      · rw [Host.Outcome.next.injEq] at h; rw [← h]
  · rw [Host.Outcome.next.injEq] at h; rw [← h]
@[simp] theorem applyRatio_kept (s : State) (t : Nat) (ratio : Word) (anchor : Option (Nat × BitVec 16)) : kept (applyRatio s t ratio anchor) = kept s := by
  unfold applyRatio
  (repeat' split) <;> simp_all
@[simp] theorem trkAdvance_kept (s : State) (t : Nat) : kept (trkAdvance s t) = kept s := by
  unfold trkAdvance
  dsimp only
  split <;> simp
@[simp] theorem trkOutput_kept (s : State) (t : Nat) : kept (trkOutput s t) = kept s := by simp [trkOutput]
@[simp] theorem convBoundary_kept (s : State) : kept (convBoundary s) = kept s := by simp [convBoundary]
@[simp] theorem convSinks_kept (s : State) : kept (convSinks s) = kept s := by simp [convSinks]
@[simp] theorem dpStart_kept (s : State) : kept (dpStart s) = kept s := by simp [dpStart]
@[simp] theorem dpRampTo_kept (s : State) (xp : Nat) (g0 gt : Word) (n : Nat) : kept (dpRampTo s xp g0 gt n) = kept s := by simp [dpRampTo]
@[simp] theorem xpStep_kept (s : State) (xp : Nat) : kept (xpStep s xp) = kept s := by
  unfold xpStep
  split <;> simp
@[simp] theorem xpBegin_kept (s : State) (o i start : Nat) : kept (xpBegin s o i start) = kept s := by simp [xpBegin]
@[simp] theorem xpWatch_kept (s : State) (o i : Nat) : kept (xpWatch s o i) = kept s := by simp [xpWatch]
@[simp] theorem dpOutput_kept (s : State) (o : Nat) : kept (dpOutput s o) = kept s := by simp [dpOutput]
theorem execDrypointFrame_kept (g : Fin 18) (s : State) : ∀ u, execDrypointFrame g s = .next u → kept u = kept s := by
  intro u h
  unfold execDrypointFrame at h
  dsimp only at h
  split at h <;> (rw [Host.Outcome.next.injEq] at h; rw [← h]) <;> simp
theorem execDrypointGain_kept (c : Fin 8) (s : State) : ∀ u, execDrypointGain c s = .next u → kept u = kept s := by
  intro u h
  unfold execDrypointGain at h
  rw [Host.Outcome.next.injEq] at h
  rw [← h]
  simp
@[simp] theorem meterStep_kept (s : State) : kept (meterStep s) = kept s := by simp [meterStep]
@[simp] theorem meterOpen_kept (s : State) (b : Nat) : kept (meterOpen s b) = kept s := by simp [meterOpen]
@[simp] theorem meterDrop_kept (s : State) : kept (meterDrop s) = kept s := by simp [meterDrop]
@[simp] theorem meterClose_kept (s : State) (cut : Bool) (b : Nat) : kept (meterClose s cut b) = kept s := by simp [meterClose]
theorem execMeterWindowEnd_kept (buf : Desc) (s : State) : ∀ u, execMeterWindowEnd buf s = .next u → kept u = kept s := by
  intro u h
  unfold execMeterWindowEnd at h
  dsimp only at h
  (repeat' split at h) <;> cases h <;> simp_all
@[simp] theorem meterOverdue_kept (s : State) : kept (meterOverdue s) = kept s := by
  unfold meterOverdue
  split <;> simp
@[simp] theorem tapClear_kept (s : State) : kept (tapClear s) = kept s := by simp [tapClear]
@[simp] theorem capDrop_kept (s : State) : kept (capDrop s) = kept s := by simp [capDrop]
@[simp] theorem tapCapture_kept (s : State) : kept (tapCapture s) = kept s := by simp [tapCapture]
theorem execTapCaptureBlock_kept (buf : Desc) (s : State) : ∀ u, execTapCaptureBlock buf s = .next u → kept u = kept s := by
  intro u h
  unfold execTapCaptureBlock at h
  dsimp only at h
  split at h <;> (rw [Host.Outcome.next.injEq] at h; rw [← h]) <;> simp
@[simp] theorem tapUnderrun_kept (s : State) : kept (tapUnderrun s) = kept s := by simp [tapUnderrun]
@[simp] theorem tapLate_kept (s : State) : kept (tapLate s) = kept s := by simp [tapLate]
@[simp] theorem playFetch_kept (s : State) (b : Nat) (r0 : List PlayBuf) : kept (playFetch s b r0) = kept s := by
  induction r0 generalizing s <;> simp_all [playFetch]
theorem execTapPlaybackFetch_kept (bufs : List PlayBuf) (s : State) : ∀ u, execTapPlaybackFetch bufs s = .next u → kept u = kept s := by
  intro u h
  unfold execTapPlaybackFetch at h
  split at h <;> (rw [Host.Outcome.next.injEq] at h; rw [← h]) <;> simp
@[simp] theorem tapPlayback_kept (s : State) : kept (tapPlayback s) = kept s := by simp [tapPlayback]
@[simp] theorem pairEv_kept (s : State) (code sev : Nat) (args : List Byte) : kept (pairEv s code sev args) = kept s := by simp [pairEv]
@[simp] theorem refreshOwn_kept (s : State) : kept (refreshOwn s) = kept s := by simp [refreshOwn]
@[simp] theorem agreeReset_kept (s : State) (why : Nat) : kept (agreeReset s why) = kept s := by simp [agreeReset]
@[simp] theorem pairSend_kept (s : State) (subtype : Nat) (pay : List Byte) : kept (pairSend s subtype pay) = kept s := by
  unfold pairSend
  dsimp only
  (repeat' split) <;> simp_all
@[simp] theorem pairDrop_kept (s : State) : kept (pairDrop s) = kept s := by simp [pairDrop]
@[simp] theorem pairCheckIn_kept (s : State) (x : PairFrame) (subtype : Nat) : kept (pairCheckIn s x subtype).1 = kept s := by simp [pairCheckIn]
@[simp] theorem pairDeliver_kept (s : State) (x : PairFrame) (subtype : Nat) (f : State → Nat → State) (hf : ∀ (s : State) a0, kept (f s a0) = kept s) : kept (pairDeliver s x subtype f) = kept s := by
  unfold pairDeliver
  have h := pairCheckIn_kept s x subtype
  split <;> rename_i e <;> rw [e] at h <;> simp_all
@[simp] theorem pairTake_kept (s : State) (x : PairFrame) (subtype : Nat) (f : State → Nat → State) (hf : ∀ (s : State) a0, kept (f s a0) = kept s) : kept (pairTake s x subtype f) = kept s := by simp [pairTake, hf]
@[simp] theorem rsSend_kept (s : State) (kind part last index count at_ : Nat) (data : List Byte) : kept (rsSend s kind part last index count at_ data) = kept s := by simp [rsSend]
@[simp] theorem rsClear_kept (s : State) : kept (rsClear s) = kept s := by simp [rsClear]
@[simp] theorem rsAbort_kept (s : State) (why : Nat) (tell : Bool) : kept (rsAbort s why tell) = kept s := by
  unfold rsAbort
  (repeat' split) <;> simp_all
@[simp] theorem clearPressState_kept (s : State) (p : Nat) : kept (clearPressState s p) = kept s := by simp [clearPressState]
@[simp] theorem powerPress_kept (s : State) (p : Nat) : kept (powerPress s p) = kept s := by simp [powerPress]
@[simp] theorem gatePresses_kept (s : State) : kept (gatePresses s) = kept s := by simp [gatePresses]
@[simp] theorem notPromotable_kept (s : State) : kept (notPromotable s) = kept s := by simp [notPromotable]
@[simp] theorem leaveMatched_kept (s : State) (why : Option Nat) : kept (leaveMatched s why) = kept s := by simp [leaveMatched]
@[simp] theorem omQueue_kept (s : State) (type : Nat) (pay : List Byte) : kept (omQueue s type pay) = kept s := by simp [omQueue]
@[simp] theorem notice_kept (s : State) (kind reason : Nat) : kept (notice s kind reason) = kept s := by simp [notice]
@[simp] theorem releaseGuard_kept (s : State) : kept (releaseGuard s) = kept s := by simp [releaseGuard]
@[simp] theorem forgetPeer_kept (s : State) : kept (forgetPeer s) = kept s := by simp [forgetPeer]
@[simp] theorem becomeStandby_kept (s : State) : kept (becomeStandby s) = kept s := by simp [becomeStandby]
@[simp] theorem setRole_kept (s : State) (new cause : Nat) : kept (setRole s new cause) = kept s := by simp [setRole]
@[simp] theorem pulse_kept (s : State) (yielding : Bool) : kept (pulse s yielding) = kept s := by simp [pulse]
@[simp] theorem yieldPulseOut_kept (s : State) (reason : Nat) : kept (yieldPulseOut s reason) = kept s := by simp [yieldPulseOut]
@[simp] theorem doYield_kept (s : State) (reason : Nat) : kept (doYield s reason) = kept s := by simp [doYield]
@[simp] theorem withdraw_kept (s : State) (cause : Nat) : kept (withdraw s cause) = kept s := by simp [withdraw]
@[simp] theorem leavePair_kept (s : State) (new cause : Nat) : kept (leavePair s new cause) = kept s := by simp [leavePair]
@[simp] theorem grantRole_kept (s : State) (cause : Nat) : kept (grantRole s cause) = kept s := by simp [grantRole]
@[simp] theorem promoteRefused_kept (s : State) (source result : Nat) : kept (promoteRefused s source result) = kept s := by simp [promoteRefused]
@[simp] theorem ratify_kept (s : State) : kept (ratify s) = kept s := by simp [ratify]
@[simp] theorem grantTo_kept (s : State) (force : Bool) (source cause : Nat) : kept (grantTo s force source cause).1 = kept s := by simp [grantTo]
@[simp] theorem pulseSeen_kept (s : State) : kept (pulseSeen s) = kept s := by simp [pulseSeen]
@[simp] theorem startRestrike_kept (s : State) (source : Nat) : kept (startRestrike s source) = kept s := by simp [startRestrike]
@[simp] theorem testWatch_kept (s : State) : kept (testWatch s) = kept s := by simp [testWatch]
@[simp] theorem engEv_kept (s : State) (code sev : Nat) (args : List Byte) : kept (engEv s code sev args) = kept s := by simp [engEv]
@[simp] theorem setCoef_kept (s : State) (b p a : Nat) (w : Word) : kept (setCoef s b p a w) = kept s := by simp [setCoef]
@[simp] theorem coefRead_kept (s : State) (b p a : Nat) : kept (coefRead s b p a).1 = kept s := by
  unfold coefRead
  dsimp only
  split <;> simp
@[simp] theorem setCoefs_kept (s : State) (l : List (Nat × Nat × Nat)) (w : Word) : kept (setCoefs s l w) = kept s := by simp [setCoefs]
@[simp] theorem placeRead_kept (s : State) (x : Option (Nat × Nat × Nat)) : kept (placeRead s x).1 = kept s := by
  unfold placeRead
  split <;> simp
@[simp] theorem edgeRead_kept (s : State) (e : Nat) : kept (edgeRead s e).1 = kept s := by simp [edgeRead]
@[simp] theorem rampStat_kept (s : State) : kept (rampStat s) = kept s := by simp [rampStat]
@[simp] theorem setRamps_kept (s : State) (l : List Ramp) : kept (setRamps s l) = kept s := by simp [setRamps]
@[simp] theorem cancelRamps_kept (s : State) : kept (cancelRamps s) = kept s := by simp [cancelRamps]
@[simp] theorem installRamp_kept (s : State) (i : Nat) (r : Ramp) : kept (installRamp s i r) = kept s := by simp [installRamp]
@[simp] theorem installRamps_kept (s : State) (r0 : Nat) : kept (installRamps s r0) = kept s := by
  fun_induction installRamps <;> simp_all
@[simp] theorem edgePut_kept (s : State) (l : List (Nat × Nat × Nat)) (w : Word) : kept (edgePut s l w) = kept s := by simp [edgePut]
@[simp] theorem stepRamp_kept (s : State) (i : Nat) : kept (stepRamp s i) = kept s := by
  unfold stepRamp
  (repeat' split) <;> simp_all
@[simp] theorem burnish_kept (s : State) : kept (burnish s) = kept s := by
  unfold burnish
  exact kept_foldl _ _ _ (by simp)
@[simp] theorem putUnder_kept (s : State) (l : List (Nat × Nat × Nat)) (w : Word) : kept (putUnder s l w) = kept s := by simp [putUnder]
@[simp] theorem applyEntry_kept (s : State) (x : Target × Word) : kept (applyEntry s x) = kept s := by
  unfold applyEntry
  (repeat' split) <;> simp_all
@[simp] theorem atomicStat_kept (s : State) : kept (atomicStat s) = kept s := by simp [atomicStat]
@[simp] theorem applyAtomicAt_kept (s : State) (i : Nat) : kept (applyAtomicAt s i) = kept s := by
  unfold applyAtomicAt
  split <;> simp
@[simp] theorem applyAtomics_kept (s : State) (r0 : Nat) : kept (applyAtomics s r0) = kept s := by
  fun_induction applyAtomics <;> simp_all
@[simp] theorem applyDirectAt_kept (s : State) (i : Nat) : kept (applyDirectAt s i) = kept s := by
  unfold applyDirectAt
  split <;> simp
@[simp] theorem applyDirects_kept (s : State) (r0 : Nat) : kept (applyDirects s r0) = kept s := by
  fun_induction applyDirects <;> simp_all
@[simp] theorem setCurve_kept (s : State) : kept (setCurve s) = kept s := by
  unfold setCurve
  split <;> simp
@[simp] theorem settleRamps_kept (s : State) (b : Nat) : kept (settleRamps s b) = kept s := by simp [settleRamps]
@[simp] theorem doSwapBegin_kept (s : State) : kept (doSwapBegin s) = kept s := by simp [doSwapBegin]
@[simp] theorem setBank_kept (s : State) (b : Nat) (x : Bank) : kept (setBank s b x) = kept s := by simp [setBank]
@[simp] theorem doSwapDone_kept (s : State) : kept (doSwapDone s) = kept s := by simp [doSwapDone]
@[simp] theorem doEngineStart_kept (s : State) : kept (doEngineStart s) = kept s := by
  unfold doEngineStart
  dsimp only
  split <;> simp
@[simp] theorem stopArm_kept (s : State) : kept (stopArm s) = kept s := by
  unfold stopArm
  split <;> simp
@[simp] theorem doEngineStop_kept (s : State) : kept (doEngineStop s) = kept s := by simp [doEngineStop]
@[simp] theorem acceptDirect_kept (s : State) (edge : Bool) (id : Nat) (w : Word) (cycle : Nat) : kept (acceptDirect s edge id w cycle) = kept s := by simp [acceptDirect]
@[simp] theorem rawWrite_kept (s : State) (b p a : Nat) (w : Word) (cycle : Nat) : kept (rawWrite s b p a w cycle) = kept s := by simp [rawWrite]
@[simp] theorem edgeWrite_kept (s : State) (e : Nat) (w : Word) (cycle : Nat) : kept (edgeWrite s e w cycle) = kept s := by simp [edgeWrite]
theorem execRawWindowWrite_kept (bank : Fin 2) (p : Fin 4) (a : BitVec 16) (w : Word) (cycle : Fin 10240) (s : State) : ∀ u, execRawWindowWrite bank p a w cycle s = .next u → kept u = kept s := by
  intro u h
  unfold execRawWindowWrite at h
  rw [Host.Outcome.next.injEq] at h
  rw [← h]
  simp
theorem execEdgeWindowWrite_kept (e : BitVec 14) (w : Word) (cycle : Fin 10240) (s : State) : ∀ u, execEdgeWindowWrite e w cycle s = .next u → kept u = kept s := by
  intro u h
  unfold execEdgeWindowWrite at h
  rw [Host.Outcome.next.injEq] at h
  rw [← h]
  simp
@[simp] theorem acceptSwap_kept (s : State) (q : Req) (at_ : Nat) : kept (acceptSwap s q at_) = kept s := by simp [acceptSwap]
theorem execSwap_kept (c : Fin 8) (s : State) : ∀ u, execSwap c s = .next u → kept u = kept s := by
  intro u h
  unfold execSwap at h
  rw [Host.Outcome.next.injEq] at h
  rw [← h]
  refine serve_kept _ _ _ _ _ _ ?_
  intro s q
  try dsimp only
  (repeat' split) <;> first | simp | rfl | simp_all
theorem execSwapCancel_kept (c : Fin 8) (s : State) : ∀ u, execSwapCancel c s = .next u → kept u = kept s := by
  intro u h
  unfold execSwapCancel at h
  rw [Host.Outcome.next.injEq] at h
  rw [← h]
  simp
theorem execRampStart_kept (c : Fin 8) (s : State) : ∀ u, execRampStart c s = .next u → kept u = kept s := by
  intro u h
  unfold execRampStart at h
  rw [Host.Outcome.next.injEq] at h
  rw [← h]
  refine serve_kept _ _ _ _ _ _ ?_
  intro s q
  try dsimp only
  (repeat' split) <;> first | simp | rfl | simp_all
theorem execRampCancel_kept (c : Fin 8) (s : State) : ∀ u, execRampCancel c s = .next u → kept u = kept s := by
  intro u h
  unfold execRampCancel at h
  rw [Host.Outcome.next.injEq] at h
  rw [← h]
  refine serve_kept _ _ _ _ _ _ ?_
  intro s q
  try dsimp only
  (repeat' split) <;> first | simp | rfl | simp_all
theorem execParamSetAtomic_kept (c : Fin 8) (s : State) : ∀ u, execParamSetAtomic c s = .next u → kept u = kept s := by
  intro u h
  unfold execParamSetAtomic at h
  rw [Host.Outcome.next.injEq] at h
  rw [← h]
  refine serve_kept _ _ _ _ _ _ ?_
  intro s q
  generalize timedAt s q = o
  generalize atomicRefusal s q = r
  cases r <;> cases o
  · rfl
  · rw [atomicStat_kept, kept_mk, kept_eta]
  · rfl
  · rfl
@[simp] theorem roleLater_kept (s : State) (ch : Option Nat) (role cause : Nat) : kept (roleLater s ch role cause) = kept s := by simp [roleLater]
theorem execPairRoleSet_kept (c : Fin 8) (s : State) : ∀ u, execPairRoleSet c s = .next u → kept u = kept s := by
  intro u h
  unfold execPairRoleSet at h
  rw [Host.Outcome.next.injEq] at h
  rw [← h]
  refine serve_kept _ _ _ _ _ _ ?_
  intro s q
  try dsimp only
  (repeat' split) <;> first | simp | rfl | simp_all
theorem execPairYield_kept (c : Fin 8) (s : State) : ∀ u, execPairYield c s = .next u → kept u = kept s := by
  intro u h
  unfold execPairYield at h
  rw [Host.Outcome.next.injEq] at h
  rw [← h]
  simp
@[simp] theorem selfYield_kept (s : State) : kept (selfYield s) = kept s := by
  unfold selfYield
  split <;> simp
theorem execSelfFaultYield_kept (s : State) : ∀ u, execSelfFaultYield s = .next u → kept u = kept s := by
  intro u h
  unfold execSelfFaultYield at h
  rw [Host.Outcome.next.injEq] at h
  rw [← h]
  simp
theorem execYieldPulse_kept (s : State) : ∀ u, execYieldPulse s = .next u → kept u = kept s := by
  intro u h
  unfold execYieldPulse at h
  rw [Host.Outcome.next.injEq] at h
  rw [← h]
  simp
@[simp] theorem roleLow_kept (s : State) : kept (roleLow s) = kept s := by simp [roleLow]
@[simp] theorem roleIn_kept (s : State) (high : Bool) : kept (roleIn s high) = kept s := by simp [roleIn]
theorem execRoleInChange_kept (high : Bool) (s : State) : ∀ u, execRoleInChange high s = .next u → kept u = kept s := by
  intro u h
  unfold execRoleInChange at h
  split at h <;> (rw [Host.Outcome.next.injEq] at h; rw [← h]) <;> simp
theorem execPromoteWindowEnd_kept (s : State) : ∀ u, execPromoteWindowEnd s = .next u → kept u = kept s := by
  intro u h
  unfold execPromoteWindowEnd at h
  (repeat' split at h) <;> cases h <;> simp_all
@[simp] theorem unratified_kept (s : State) : kept (unratified s) = kept s := by simp [unratified]
theorem execPairUnratified_kept (s : State) : ∀ u, execPairUnratified s = .next u → kept u = kept s := by
  intro u h
  unfold execPairUnratified at h
  (repeat' split at h) <;> cases h <;> simp_all
@[simp] theorem doPairYield_kept (s : State) : kept (doPairYield s) = kept s := by simp [doPairYield]
@[simp] theorem doStandby_kept (s : State) (asked : Bool) (cause : Nat) : kept (doStandby s asked cause) = kept s := by simp [doStandby]
@[simp] theorem doRoleChange_kept (s : State) (x : Option Nat × Nat × Nat) : kept (doRoleChange s x) = kept s := by simp [doRoleChange]
@[simp] theorem grantStep_kept (s : State) : kept (grantStep s) = kept s := by
  unfold grantStep
  split <;> simp
@[simp] theorem sendHeartbeat_kept (s : State) (frac : BitVec 16) : kept (sendHeartbeat s frac) = kept s := by simp [sendHeartbeat]
theorem execPairHeartbeatSend_kept (cycle : Fin 10240) (s : State) : ∀ u, execPairHeartbeatSend cycle s = .next u → kept u = kept s := by
  intro u h
  unfold execPairHeartbeatSend at h
  split at h <;> (rw [Host.Outcome.next.injEq] at h; rw [← h]) <;> simp
@[simp] theorem measureTofs_kept (s : State) (n : Nat) (p : List Byte) (now : Int) : kept (measureTofs s n p now) = kept s := by
  unfold measureTofs
  split <;> simp
@[simp] theorem dualActive_kept (s : State) : kept (dualActive s) = kept s := by simp [dualActive]
@[simp] theorem peerBack_kept (s : State) : kept (peerBack s) = kept s := by simp [peerBack]
@[simp] theorem restrikePeer_kept (s : State) (role : Nat) (hash : Word) : kept (restrikePeer s role hash) = kept s := by simp [restrikePeer]
@[simp] theorem takeHeartbeat_kept (s : State) (f : PairFrame) (n : Nat) (frac : BitVec 16) : kept (takeHeartbeat s f n frac) = kept s := by simp [takeHeartbeat]
theorem execPairHeartbeatReceive_kept (f : PairFrame) (cycle : Fin 10240) (s : State) : ∀ u, execPairHeartbeatReceive f cycle s = .next u → kept u = kept s := by
  intro u h
  unfold execPairHeartbeatReceive at h
  rw [Host.Outcome.next.injEq] at h
  rw [← h]
  simp
@[simp] theorem omDatagram_kept (s : State) (dst port : Nat) (m : List Byte) : kept (omDatagram s dst port m) = kept s := by
  unfold omDatagram
  split <;> simp
@[simp] theorem omOut_kept (s : State) (m : List Byte) : kept (omOut s m) = kept s := by simp [omOut]
@[simp] theorem omSend_kept (s : State) (type : Nat) (pay : List Byte) : kept (omSend s type pay) = kept s := by
  unfold omSend
  split <;> simp
@[simp] theorem peerLost_kept (s : State) : kept (peerLost s) = kept s := by simp [peerLost]
@[simp] theorem missHeartbeat_kept (s : State) : kept (missHeartbeat s) = kept s := by simp [missHeartbeat]
theorem execHeartbeatMissed_kept (s : State) : ∀ u, execHeartbeatMissed s = .next u → kept u = kept s := by
  intro u h
  unfold execHeartbeatMissed at h
  split at h <;> (rw [Host.Outcome.next.injEq] at h; rw [← h]) <;> simp
@[simp] theorem sendSet_kept (s : State) : kept (sendSet s) = kept s := by simp [sendSet]
@[simp] theorem takeSet_kept (s : State) (p : List Byte) (n : Nat) : kept (takeSet s p n) = kept s := by simp [takeSet]
@[simp] theorem takeSetFrame_kept (f : PairFrame) (s : State) (n : Nat) : kept (takeSetFrame f s n) = kept s := by simp [takeSetFrame]
theorem execPairedQuantitySetReceive_kept (f : PairFrame) (s : State) : ∀ u, execPairedQuantitySetReceive f s = .next u → kept u = kept s := by
  intro u h
  unfold execPairedQuantitySetReceive at h
  rw [Host.Outcome.next.injEq] at h
  rw [← h]
  simp
@[simp] theorem applyRec_kept (s : State) (r : PqRec) : kept (applyRec s r) = kept s := by
  unfold applyRec
  split <;> simp
@[simp] theorem senseCompare_kept (s : State) (n : Nat) (own got : List PqRec) : kept (senseCompare s n own got) = kept s := by
  unfold senseCompare
  dsimp only
  (repeat' split) <;> simp_all
@[simp] theorem pqLate_kept (s : State) : kept (pqLate s) = kept s := by simp [pqLate]
@[simp] theorem applyPq_kept (s : State) : kept (applyPq s) = kept s := by
  unfold applyPq
  dsimp only
  (repeat' split) <;> simp_all
@[simp] theorem digFold_kept (s : State) (g : Nat) : kept (digFold s g) = kept s := by
  unfold digFold
  dsimp only
  (repeat' split) <;> simp_all
@[simp] theorem digStep_kept (s : State) : kept (digStep s) = kept s := by simp [digStep]
@[simp] theorem putDigests_kept (s : State) (l : List Digest) : kept (putDigests s l) = kept s := by simp [putDigests]
theorem execDigestPeriodEnd_kept (g : Fin 531) (s : State) : ∀ u, execDigestPeriodEnd g s = .next u → kept u = kept s := by
  intro u h
  unfold execDigestPeriodEnd at h
  rw [Host.Outcome.next.injEq] at h
  rw [← h]
  simp
@[simp] theorem diverge_kept (s : State) : kept (diverge s) = kept s := by simp [diverge]
@[simp] theorem reportDigest_kept (s : State) (kind g end_ : Nat) (a b : Word) : kept (reportDigest s kind g end_ a b) = kept s := by simp [reportDigest]
@[simp] theorem digMismatch_kept (s : State) (d : Digest) (active : Word) : kept (digMismatch s d active) = kept s := by simp [digMismatch]
@[simp] theorem compareDigest_kept (s : State) (g lo : Nat) (crc : Word) : kept (compareDigest s g lo crc) = kept s := by
  unfold compareDigest
  split <;> simp
@[simp] theorem takeDigests_kept (f : PairFrame) (s : State) (x2_ : Nat) : kept (takeDigests f s x2_) = kept s := by simp [takeDigests]
theorem execDigestReceive_kept (f : PairFrame) (s : State) : ∀ u, execDigestReceive f s = .next u → kept u = kept s := by
  intro u h
  unfold execDigestReceive at h
  rw [Host.Outcome.next.injEq] at h
  rw [← h]
  simp
@[simp] theorem missDigests_kept (s : State) (l : List Digest) : kept (missDigests s l) = kept s := by simp [missDigests]
theorem execDigestMissing_kept (g : Fin 531) (s : State) : ∀ u, execDigestMissing g s = .next u → kept u = kept s := by
  intro u h
  unfold execDigestMissing at h
  rw [Host.Outcome.next.injEq] at h
  rw [← h]
  simp
@[simp] theorem matchedStep_kept (s : State) : kept (matchedStep s) = kept s := by
  unfold matchedStep
  (repeat' split) <;> simp_all
@[simp] theorem fillStep_kept (s : State) : kept (fillStep s) = kept s := by
  unfold fillStep
  split <;> simp
@[simp] theorem agreeStep_kept (s : State) : kept (agreeStep s) = kept s := by simp [agreeStep]
@[simp] theorem roleStep_kept (s : State) : kept (roleStep s) = kept s := by simp [roleStep]
theorem execRestrikeStart_kept (c : Fin 8) (s : State) : ∀ u, execRestrikeStart c s = .next u → kept u = kept s := by
  intro u h
  unfold execRestrikeStart at h
  rw [Host.Outcome.next.injEq] at h
  rw [← h]
  refine serve_kept _ _ _ _ _ _ ?_
  intro s q
  try dsimp only
  (repeat' split) <;> first | simp | rfl | simp_all
theorem execRestrikeAbort_kept (c : Fin 8) (s : State) : ∀ u, execRestrikeAbort c s = .next u → kept u = kept s := by
  intro u h
  unfold execRestrikeAbort at h
  rw [Host.Outcome.next.injEq] at h
  rw [← h]
  simp
@[simp] theorem takeChunk_kept (s : State) (x : PairFrame) (kind : Nat) (f : State → Nat → State) (hf : ∀ (s : State) a0, kept (f s a0) = kept s) : kept (takeChunk s x kind f) = kept s := by simp [takeChunk, hf]
@[simp] theorem answerStart_kept (s : State) (d : Nat) : kept (answerStart s d) = kept s := by simp [answerStart]
@[simp] theorem takeStart_kept (f : PairFrame) (s : State) (x2_ : Nat) : kept (takeStart f s x2_) = kept s := by simp [takeStart]
theorem execRestrikeStartReceive_kept (f : PairFrame) (s : State) : ∀ u, execRestrikeStartReceive f s = .next u → kept u = kept s := by
  intro u h
  unfold execRestrikeStartReceive at h
  rw [Host.Outcome.next.injEq] at h
  rw [← h]
  simp
@[simp] theorem takeAccept_kept (f : PairFrame) (s : State) (x2_ : Nat) : kept (takeAccept f s x2_) = kept s := by simp [takeAccept]
theorem execRestrikeAccept_kept (f : PairFrame) (s : State) : ∀ u, execRestrikeAccept f s = .next u → kept u = kept s := by
  intro u h
  unfold execRestrikeAccept at h
  rw [Host.Outcome.next.injEq] at h
  rw [← h]
  simp
@[simp] theorem takeRefuse_kept (x0_ : PairFrame) (s : State) (x2_ : Nat) : kept (takeRefuse x0_ s x2_) = kept s := by simp [takeRefuse]
theorem execRestrikeRefuse_kept (f : PairFrame) (s : State) : ∀ u, execRestrikeRefuse f s = .next u → kept u = kept s := by
  intro u h
  unfold execRestrikeRefuse at h
  rw [Host.Outcome.next.injEq] at h
  rw [← h]
  simp
@[simp] theorem takeAbort_kept (f : PairFrame) (s : State) (x2_ : Nat) : kept (takeAbort f s x2_) = kept s := by simp [takeAbort]
theorem execRestrikeAbortReceive_kept (f : PairFrame) (s : State) : ∀ u, execRestrikeAbortReceive f s = .next u → kept u = kept s := by
  intro u h
  unfold execRestrikeAbortReceive at h
  rw [Host.Outcome.next.injEq] at h
  rw [← h]
  simp
theorem execRestrikeRequestTimeout_kept (s : State) : ∀ u, execRestrikeRequestTimeout s = .next u → kept u = kept s := by
  intro u h
  unfold execRestrikeRequestTimeout at h
  split at h <;> (rw [Host.Outcome.next.injEq] at h; rw [← h]) <;> simp
theorem execRestrikeChunkTimeout_kept (s : State) : ∀ u, execRestrikeChunkTimeout s = .next u → kept u = kept s := by
  intro u h
  unfold execRestrikeChunkTimeout at h
  split at h <;> (rw [Host.Outcome.next.injEq] at h; rw [← h]) <;> simp
@[simp] theorem takeCoefPart_kept (f : PairFrame) (s : State) (n : Nat) : kept (takeCoefPart f s n) = kept s := by simp [takeCoefPart]
theorem execCoefficientChunkReceive_kept (f : PairFrame) (s : State) : ∀ u, execCoefficientChunkReceive f s = .next u → kept u = kept s := by
  intro u h
  unfold execCoefficientChunkReceive at h
  rw [Host.Outcome.next.injEq] at h
  rw [← h]
  simp
@[simp] theorem takeRampPart_kept (f : PairFrame) (s : State) (n : Nat) : kept (takeRampPart f s n) = kept s := by simp [takeRampPart]
theorem execRampPartReceive_kept (f : PairFrame) (s : State) : ∀ u, execRampPartReceive f s = .next u → kept u = kept s := by
  intro u h
  unfold execRampPartReceive at h
  rw [Host.Outcome.next.injEq] at h
  rw [← h]
  simp
@[simp] theorem takeUnitPart_kept (f : PairFrame) (s : State) (n : Nat) : kept (takeUnitPart f s n) = kept s := by simp [takeUnitPart]
theorem execUnitPartReceive_kept (f : PairFrame) (s : State) : ∀ u, execUnitPartReceive f s = .next u → kept u = kept s := by
  intro u h
  unfold execUnitPartReceive at h
  rw [Host.Outcome.next.injEq] at h
  rw [← h]
  simp
@[simp] theorem copyChunk_kept (s : State) : kept (copyChunk s) = kept s := by
  unfold copyChunk
  split <;> simp
theorem execCoefficientChunkCopy_kept (s : State) : ∀ u, execCoefficientChunkCopy s = .next u → kept u = kept s := by
  intro u h
  unfold execCoefficientChunkCopy at h
  rw [Host.Outcome.next.injEq] at h
  rw [← h]
  simp
@[simp] theorem applyChunk_kept (s : State) : kept (applyChunk s) = kept s := by
  unfold applyChunk
  split <;> simp
@[simp] theorem snapshotRamps_kept (s : State) : kept (snapshotRamps s) = kept s := by
  unfold snapshotRamps
  split <;> simp
theorem execRampSnapshot_kept (s : State) : ∀ u, execRampSnapshot s = .next u → kept u = kept s := by
  intro u h
  unfold execRampSnapshot at h
  rw [Host.Outcome.next.injEq] at h
  rw [← h]
  simp
@[simp] theorem groupsDone_kept (s : State) : kept (groupsDone s) = kept s := by simp [groupsDone]
@[simp] theorem setUnit_kept (s : State) (i : Nat) : kept (setUnit s i) = kept s := by simp [setUnit]
@[simp] theorem applyRampSet_kept (s : State) : kept (applyRampSet s) = kept s := by
  unfold applyRampSet
  split <;> simp
@[simp] theorem countRetry_kept (s : State) (unit : Nat) : kept (countRetry s unit) = kept s := by simp [countRetry]
@[simp] theorem cursorStep_kept (s : State) : kept (cursorStep s) = kept s := by
  unfold cursorStep
  dsimp only
  (repeat' split) <;> simp_all
@[simp] theorem sendUnit_kept (s : State) : kept (sendUnit s) = kept s := by
  unfold sendUnit
  split <;> simp
theorem execCopyPoint_kept (s : State) : ∀ u, execCopyPoint s = .next u → kept u = kept s := by
  intro u h
  unfold execCopyPoint at h
  rw [Host.Outcome.next.injEq] at h
  rw [← h]
  simp
@[simp] theorem takeAck_kept (f : PairFrame) (s : State) (x2_ : Nat) : kept (takeAck f s x2_) = kept s := by
  unfold takeAck
  split <;> simp
theorem execUnitAck_kept (f : PairFrame) (s : State) : ∀ u, execUnitAck f s = .next u → kept u = kept s := by
  intro u h
  unfold execUnitAck at h
  rw [Host.Outcome.next.injEq] at h
  rw [← h]
  simp
@[simp] theorem takeNack_kept (x0_ : PairFrame) (s : State) (x2_ : Nat) : kept (takeNack x0_ s x2_) = kept s := by simp [takeNack]
theorem execUnitNack_kept (f : PairFrame) (s : State) : ∀ u, execUnitNack f s = .next u → kept u = kept s := by
  intro u h
  unfold execUnitNack at h
  rw [Host.Outcome.next.injEq] at h
  rw [← h]
  simp
@[simp] theorem ringStep_kept (s : State) (m : Nat) : kept (ringStep s m) = kept s := by simp [ringStep]
@[simp] theorem nack_kept (s : State) (unit : Nat) : kept (nack s unit) = kept s := by simp [nack]
@[simp] theorem replayUnit_kept (s : State) (l : List Group) (unit n : Nat) (d : List Byte) : kept (replayUnit s l unit n d) = kept s := by simp [replayUnit]
@[simp] theorem replayStep_kept (s : State) : kept (replayStep s) = kept s := by
  unfold replayStep
  (repeat' split) <;> simp_all
theorem execUnitReplay_kept (s : State) : ∀ u, execUnitReplay s = .next u → kept u = kept s := by
  intro u h
  unfold execUnitReplay at h
  rw [Host.Outcome.next.injEq] at h
  rw [← h]
  simp
@[simp] theorem endRestrike_kept (s : State) : kept (endRestrike s) = kept s := by simp [endRestrike]
theorem execRestrikeDone_kept (s : State) : ∀ u, execRestrikeDone s = .next u → kept u = kept s := by
  intro u h
  unfold execRestrikeDone at h
  split at h <;> (rw [Host.Outcome.next.injEq] at h; rw [← h]) <;> simp
@[simp] theorem sdStep_kept (s : State) : kept (sdStep s) = kept s := by
  unfold sdStep
  dsimp only
  (repeat' split) <;> simp_all
@[simp] theorem sdEnd_kept (s : State) : kept (sdEnd s) = kept s := by
  unfold sdEnd
  split <;> simp
theorem execStateDigestWindowEnd_kept (s : State) : ∀ u, execStateDigestWindowEnd s = .next u → kept u = kept s := by
  intro u h
  unfold execStateDigestWindowEnd at h
  rw [Host.Outcome.next.injEq] at h
  rw [← h]
  simp
@[simp] theorem sdCompare_kept (s : State) (p : List Byte) : kept (sdCompare s p) = kept s := by
  unfold sdCompare
  dsimp only
  (repeat' split) <;> simp_all
@[simp] theorem takeStateDigest_kept (f : PairFrame) (s : State) (x2_ : Nat) : kept (takeStateDigest f s x2_) = kept s := by simp [takeStateDigest]
theorem execStateDigestReceive_kept (f : PairFrame) (s : State) : ∀ u, execStateDigestReceive f s = .next u → kept u = kept s := by
  intro u h
  unfold execStateDigestReceive at h
  rw [Host.Outcome.next.injEq] at h
  rw [← h]
  simp
@[simp] theorem takeRsChunk_kept (f : PairFrame) (s : State) (n : Nat) : kept (takeRsChunk f s n) = kept s := by
  unfold takeRsChunk
  split <;> simp
@[simp] theorem bistStep_kept (s : State) : kept (bistStep s) = kept s := by simp [bistStep]
@[simp] theorem bistEnd_kept (s : State) (p : Nat) (wrong : Bool) : kept (bistEnd s p wrong) = kept s := by simp [bistEnd]
theorem execBistPassEnd_kept (p : Fin 4) (wrong : Bool) (s : State) : ∀ u, execBistPassEnd p wrong s = .next u → kept u = kept s := by
  intro u h
  unfold execBistPassEnd at h
  split at h <;> (rw [Host.Outcome.next.injEq] at h; rw [← h]) <;> simp
theorem execSenseCheckStart_kept (s : State) : ∀ u, execSenseCheckStart s = .next u → kept u = kept s := by
  intro u h
  unfold execSenseCheckStart at h
  split at h <;> (rw [Host.Outcome.next.injEq] at h; rw [← h]) <;> simp
@[simp] theorem senseJudge_kept (s : State) (k : SenseChk) : kept (senseJudge s k) = kept s := by
  unfold senseJudge
  dsimp only
  (repeat' split) <;> simp_all
theorem execSenseCheckEnd_kept (s : State) : ∀ u, execSenseCheckEnd s = .next u → kept u = kept s := by
  intro u h
  unfold execSenseCheckEnd at h
  split at h <;> (rw [Host.Outcome.next.injEq] at h; rw [← h]) <;> simp
@[simp] theorem testPress_kept (s : State) (p : Nat) : kept (testPress s p) = kept s := by simp [testPress]
theorem execPressSelftest_kept (c : Fin 8) (s : State) : ∀ u, execPressSelftest c s = .next u → kept u = kept s := by
  intro u h
  unfold execPressSelftest at h
  rw [Host.Outcome.next.injEq] at h
  rw [← h]
  refine serve_kept _ _ _ _ _ _ ?_
  intro s q
  try dsimp only
  (repeat' split) <;> first | simp | rfl | simp_all
@[simp] theorem testDone_kept (s : State) (p : Nat) (fails : Bool) : kept (testDone s p fails) = kept s := by
  unfold testDone
  dsimp only
  split <;> simp
theorem execPressSelftestDone_kept (fails : Bool) (s : State) : ∀ u, execPressSelftestDone fails s = .next u → kept u = kept s := by
  intro u h
  unfold execPressSelftestDone at h
  (repeat' split at h) <;> cases h <;> simp_all
@[simp] theorem omDrop_kept (s : State) (tag : Bool) : kept (omDrop s tag) = kept s := by simp [omDrop]
@[simp] theorem omDeliver_kept (s : State) (type : Nat) (m : OmMsg) (f : State → State) (hf : ∀ (s : State), kept (f s) = kept s) : kept (omDeliver s type m f) = kept s := by
  unfold omDeliver
  (repeat' split) <;> simp_all [hf]
@[simp] theorem omTake_kept (s : State) (type : Nat) (m : OmMsg) (f : State → State) (hf : ∀ (s : State), kept (f s) = kept s) : kept (omTake s type m f) = kept s := by
  unfold omTake
  (repeat' split) <;> simp_all [hf]
@[simp] theorem setWitNode_kept (s : State) (j : Nat) (x : WitNode) : kept (setWitNode s j x) = kept s := by simp [setWitNode]
@[simp] theorem setWitPair_kept (s : State) (k : Nat) (x : WitPair) : kept (setWitPair s k x) = kept s := by simp [setWitPair]
@[simp] theorem witOut_kept (s : State) (j : Nat) (m : List Byte) : kept (witOut s j m) = kept s := by simp [witOut]
@[simp] theorem witSend_kept (s : State) (j type : Nat) (pay : List Byte) : kept (witSend s j type pay) = kept s := by
  unfold witSend
  dsimp only
  split <;> simp
@[simp] theorem witDeliver_kept (s : State) (j type : Nat) (m : OmMsg) (f : State → State) (hf : ∀ (s : State), kept (f s) = kept s) : kept (witDeliver s j type m f) = kept s := by
  unfold witDeliver
  dsimp only
  (repeat' split) <;> simp_all [hf]
@[simp] theorem witTake_kept (s : State) (j type : Nat) (m : OmMsg) (f : State → State) (hf : ∀ (s : State), kept (f s) = kept s) : kept (witTake s j type m f) = kept s := by
  unfold witTake
  dsimp only
  (repeat' split) <;> simp_all [hf]
@[simp] theorem sendBeat_kept (s : State) (node : Option (Fin 64)) : kept (sendBeat s node) = kept s := by
  unfold sendBeat
  split <;> simp
theorem execOmzorHeartbeatSend_kept (node : Option (Fin 64)) (s : State) : ∀ u, execOmzorHeartbeatSend node s = .next u → kept u = kept s := by
  intro u h
  unfold execOmzorHeartbeatSend at h
  split at h <;> (rw [Host.Outcome.next.injEq] at h; rw [← h]) <;> simp
theorem execOmzorHeartbeatReceive_kept (from_ : Option (Fin 64)) (m : OmMsg) (s : State) : ∀ u, execOmzorHeartbeatReceive from_ m s = .next u → kept u = kept s := by
  intro u h
  unfold execOmzorHeartbeatReceive at h
  split at h <;> (rw [Host.Outcome.next.injEq] at h; rw [← h]) <;> simp
@[simp] theorem sendHealth_kept (s : State) : kept (sendHealth s) = kept s := by simp [sendHealth]
theorem execHealthSend_kept (s : State) : ∀ u, execHealthSend s = .next u → kept u = kept s := by
  intro u h
  unfold execHealthSend at h
  split at h <;> (rw [Host.Outcome.next.injEq] at h; rw [← h]) <;> simp
@[simp] theorem flushOm_kept (s : State) : kept (flushOm s) = kept s := by simp [flushOm]
@[simp] theorem sendLost_kept (s : State) (x : Nat × Nat × Nat) : kept (sendLost s x) = kept s := by simp [sendLost]
theorem execPeerLossSourceSend_kept (s : State) : ∀ u, execPeerLossSourceSend s = .next u → kept u = kept s := by
  intro u h
  unfold execPeerLossSourceSend at h
  (repeat' split at h) <;> cases h <;> simp_all
theorem execPairWitnessLost_kept (s : State) : ∀ u, execPairWitnessLost s = .next u → kept u = kept s := by
  intro u h
  unfold execPairWitnessLost at h
  split at h <;> (rw [Host.Outcome.next.injEq] at h; rw [← h]) <;> simp
@[simp] theorem takeCommand_kept (s : State) (p : List Byte) : kept (takeCommand s p) = kept s := by simp [takeCommand]
theorem execRoleCommand_kept (m : OmMsg) (s : State) : ∀ u, execRoleCommand m s = .next u → kept u = kept s := by
  intro u h
  unfold execRoleCommand at h
  rw [Host.Outcome.next.injEq] at h
  rw [← h]
  simp
@[simp] theorem commandRestrike_kept (s : State) : kept (commandRestrike s).1 = kept s := by
  unfold commandRestrike
  split <;> simp
@[simp] theorem doCommand_kept (s : State) (x : RoleCmd) : kept (doCommand s x).1 = kept s := by simp [doCommand]
@[simp] theorem executeCommand_kept (s : State) (x : RoleCmd) : kept (executeCommand s x) = kept s := by simp [executeCommand]
@[simp] theorem commandStep_kept (s : State) : kept (commandStep s) = kept s := by
  unfold commandStep
  (repeat' split) <;> simp_all
@[simp] theorem commandSteps_kept (s : State) (r0 : Nat) : kept (commandSteps s r0) = kept s := by
  induction r0 generalizing s <;> simp_all [commandSteps]
theorem execRoleCommandExecute_kept (s : State) : ∀ u, execRoleCommandExecute s = .next u → kept u = kept s := by
  intro u h
  unfold execRoleCommandExecute at h
  rw [Host.Outcome.next.injEq] at h
  rw [← h]
  simp
@[simp] theorem adoptImage_kept (s : State) (i : RunImage) : kept (adoptImage s i) = kept s := by simp [adoptImage]
@[simp] theorem holdImage_kept (s : State) (b : List Byte) : kept (holdImage s b) = kept s := by simp [holdImage]
@[simp] theorem secEv_kept (s : State) (code sev : Nat) (args : List Byte) : kept (secEv s code sev args) = kept s := by simp [secEv]
@[simp] theorem emptyStage_kept (s : State) : kept (emptyStage s) = kept s := by simp [emptyStage]
theorem execFwStage_kept (c : Fin 8) (s : State) : ∀ u, execFwStage c s = .next u → kept u = kept s := by
  intro u h
  unfold execFwStage at h
  rw [Host.Outcome.next.injEq] at h
  rw [← h]
  simp
@[simp] theorem endStage_kept (s : State) (j : StageJob) (data : List Byte) (readErr : Bool) : kept (endStage s j data readErr) = kept s := by simp [endStage]
theorem execFwStaged_kept (data : List Byte) (readErr : Bool) (s : State) : ∀ u, execFwStaged data readErr s = .next u → kept u = kept s := by
  intro u h
  unfold execFwStaged at h
  (repeat' split at h) <;> cases h <;> simp_all
theorem execFwVerify_kept (c : Fin 8) (s : State) : ∀ u, execFwVerify c s = .next u → kept u = kept s := by
  intro u h
  unfold execFwVerify at h
  rw [Host.Outcome.next.injEq] at h
  rw [← h]
  simp
@[simp] theorem fwFail_kept (s : State) (code refusal : Nat) : kept (fwFail s code refusal) = kept s := by simp [fwFail]
@[simp] theorem endVerify_kept (s : State) : kept (endVerify s) = kept s := by
  unfold endVerify
  dsimp only
  split <;> simp
theorem execFwVerified_kept (s : State) : ∀ u, execFwVerified s = .next u → kept u = kept s := by
  intro u h
  unfold execFwVerified at h
  split at h <;> (rw [Host.Outcome.next.injEq] at h; rw [← h]) <;> simp
theorem execFwActivate_kept (c : Fin 8) (s : State) : ∀ u, execFwActivate c s = .next u → kept u = kept s := by
  intro u h
  unfold execFwActivate at h
  rw [Host.Outcome.next.injEq] at h
  rw [← h]
  simp
@[simp] theorem endActivate_kept (s : State) : kept (endActivate s) = kept s := by
  unfold endActivate
  dsimp only
  (repeat' split) <;> simp_all
theorem execFwDiscard_kept (c : Fin 8) (s : State) : ∀ u, execFwDiscard c s = .next u → kept u = kept s := by
  intro u h
  unfold execFwDiscard at h
  rw [Host.Outcome.next.injEq] at h
  rw [← h]
  simp
@[simp] theorem startFuses_kept (s : State) (c : Option Nat) : kept (startFuses s c) = kept s := by simp [startFuses]
@[simp] theorem endFuses_kept (s : State) (j : FuseJob) : kept (endFuses s j) = kept s := by simp [endFuses]
@[simp] theorem fuseStep_kept (s : State) : kept (fuseStep s) = kept s := by
  unfold fuseStep
  split <;> simp
theorem execFwCommit_kept (c : Fin 8) (s : State) : ∀ u, execFwCommit c s = .next u → kept u = kept s := by
  intro u h
  unfold execFwCommit at h
  rw [Host.Outcome.next.injEq] at h
  rw [← h]
  simp
theorem execCommitAutoExpiry_kept (s : State) : ∀ u, execCommitAutoExpiry s = .next u → kept u = kept s := by
  intro u h
  unfold execCommitAutoExpiry at h
  split at h <;> (rw [Host.Outcome.next.injEq] at h; rw [← h]) <;> simp
theorem execAttest_kept (c : Fin 8) (s : State) : ∀ u, execAttest c s = .next u → kept u = kept s := by
  intro u h
  unfold execAttest at h
  rw [Host.Outcome.next.injEq] at h
  rw [← h]
  simp
theorem execCertRead_kept (c : Fin 8) (s : State) : ∀ u, execCertRead c s = .next u → kept u = kept s := by
  intro u h
  unfold execCertRead at h
  rw [Host.Outcome.next.injEq] at h
  rw [← h]
  simp
theorem execDebugChallenge_kept (c : Fin 8) (s : State) : ∀ u, execDebugChallenge c s = .next u → kept u = kept s := by
  intro u h
  unfold execDebugChallenge at h
  rw [Host.Outcome.next.injEq] at h
  rw [← h]
  simp
@[simp] theorem tokenFails_kept (s : State) : kept (tokenFails s) = kept s := by simp [tokenFails]
theorem execDebugUnlock_kept (c : Fin 8) (s : State) : ∀ u, execDebugUnlock c s = .next u → kept u = kept s := by
  intro u h
  unfold execDebugUnlock at h
  rw [Host.Outcome.next.injEq] at h
  rw [← h]
  simp
theorem execDebugLock_kept (c : Fin 8) (s : State) : ∀ u, execDebugLock c s = .next u → kept u = kept s := by
  intro u h
  unfold execDebugLock at h
  rw [Host.Outcome.next.injEq] at h
  rw [← h]
  simp
@[simp] theorem refreshSlots_kept (s : State) : kept (refreshSlots s) = kept s := by simp [refreshSlots]
@[simp] theorem putSes_kept (s : State) (l : Link) (x : Session) : kept (putSes s l x) = kept s := by
  unfold putSes
  split <;> simp
@[simp] theorem hsSend_kept (s : State) (l : Link) (code : Nat) (m : List Byte) : kept (hsSend s l code m) = kept s := by
  unfold hsSend
  refine kept_foldl _ _ _ fun s x => ?_
  split <;> simp
@[simp] theorem hsPairFrame_kept (s : State) (code : Nat) (x : PairFrame) : kept (hsPairFrame s code x).1 = kept s := by simp [hsPairFrame]
@[simp] theorem hsOmFrame_kept (s : State) (m : OmMsg) : kept (hsOmFrame s m).1 = kept s := by simp [hsOmFrame]
@[simp] theorem hsArrive_kept {α : Type} (f : State → α → State × Bool) (s : State) (l : List α) (hf : ∀ (s : State) a, kept (f s a).1 = kept s) : kept (hsArrive f s l).1 = kept s := by
  unfold hsArrive
  generalize (!List.isEmpty l) = v
  induction l generalizing s v with
  | nil => rfl
  | cons x l ih => rw [List.foldl_cons, ih, hf]
@[simp] theorem hsTake_kept (s : State) (l : Link) (code : Nat) (f : HsFrames) : kept (hsTake s l code f).1 = kept s := by
  unfold hsTake
  split <;> simp
@[simp] theorem startHello_kept (s : State) (l : Link) : kept (startHello s l) = kept s := by simp [startHello]
@[simp] theorem takeHello_kept (s : State) (l : Link) (p : List Byte) : kept (takeHello s l p) = kept s := by
  unfold takeHello
  (repeat' split) <;> simp_all
@[simp] theorem hsReceive_kept (s : State) (l : Link) (code : Nat) (fs : HsFrames) (f : State → Link → List Byte → State) (hf : ∀ (s : State) a0 a1, kept (f s a0 a1) = kept s) : kept (hsReceive s l code fs f) = kept s := by
  unfold hsReceive
  have h := hsTake_kept s l code fs
  split <;> rename_i e <;> rw [e] at h <;> simp_all
theorem execSessionHello_kept (l : Link) (m : Hs) (s : State) : ∀ u, execSessionHello l m s = .next u → kept u = kept s := by
  intro u h
  unfold execSessionHello at h
  (repeat' split at h) <;> cases h <;> simp_all
@[simp] theorem sendReply_kept (s : State) (l : Link) : kept (sendReply s l) = kept s := by simp [sendReply]
@[simp] theorem takeReply_kept (s : State) (l : Link) (p : List Byte) : kept (takeReply s l p) = kept s := by
  unfold takeReply
  split <;> simp
theorem execSessionReply_kept (l : Link) (m : Hs) (s : State) : ∀ u, execSessionReply l m s = .next u → kept u = kept s := by
  intro u h
  unfold execSessionReply at h
  (repeat' split at h) <;> cases h <;> simp_all
@[simp] theorem sendFinish_kept (s : State) (l : Link) (session : Word) (at_ : Nat) : kept (sendFinish s l session at_) = kept s := by simp [sendFinish]
@[simp] theorem takeFinish_kept (s : State) (l : Link) (p : List Byte) : kept (takeFinish s l p) = kept s := by simp [takeFinish]
theorem execSessionFinish_kept (l : Link) (m : HsFinish) (s : State) : ∀ u, execSessionFinish l m s = .next u → kept u = kept s := by
  intro u h
  unfold execSessionFinish at h
  dsimp only at h
  (repeat' split at h) <;> cases h <;> simp_all
@[simp] theorem sessionUp_kept (s : State) (l : Link) : kept (sessionUp s l) = kept s := by
  unfold sessionUp
  split <;> simp
@[simp] theorem hsComplete_kept (s : State) (l : Link) : kept (hsComplete s l) = kept s := by simp [hsComplete]
@[simp] theorem takeDone_kept (s : State) (l : Link) (p : List Byte) : kept (takeDone s l p) = kept s := by simp [takeDone]
theorem execSessionDone_kept (l : Link) (m : Hs) (s : State) : ∀ u, execSessionDone l m s = .next u → kept u = kept s := by
  intro u h
  unfold execSessionDone at h
  (repeat' split at h) <;> cases h <;> simp_all
theorem execSessionFail_kept (l : Link) (s : State) : ∀ u, execSessionFail l s = .next u → kept u = kept s := by
  intro u h
  unfold execSessionFail at h
  split at h <;> (rw [Host.Outcome.next.injEq] at h; rw [← h]) <;> simp
theorem execSessionRekey_kept (s : State) : ∀ u, execSessionRekey s = .next u → kept u = kept s := by
  intro u h
  unfold execSessionRekey at h
  split at h <;> (rw [Host.Outcome.next.injEq] at h; rw [← h]) <;> simp
@[simp] theorem sessionSwitch_kept (s : State) : kept (sessionSwitch s) = kept s := by
  unfold sessionSwitch
  dsimp only
  split <;> simp
@[simp] theorem witEv_kept (s : State) (code sev : Nat) (args : List Byte) : kept (witEv s code sev args) = kept s := by simp [witEv]
@[simp] theorem decideRow_kept (s : State) (k row cmd : Nat) : kept (decideRow s k row cmd) = kept s := by simp [decideRow]
@[simp] theorem witAlarm_kept (s : State) (k reason : Nat) : kept (witAlarm s k reason) = kept s := by simp [witAlarm]
@[simp] theorem witOrder_kept (s : State) (j cmd flags apply : Nat) : kept (witOrder s j cmd flags apply) = kept s := by simp [witOrder]
@[simp] theorem witRestrike_kept (s : State) (j row : Nat) : kept (witRestrike s j row) = kept s := by simp [witRestrike]
@[simp] theorem healthWait_kept (s : State) (j : Nat) : kept (healthWait s j) = kept s := by
  unfold healthWait
  dsimp only
  split <;> simp
@[simp] theorem healthForce_kept (s : State) (j : Nat) : kept (healthForce s j) = kept s := by simp [healthForce]
@[simp] theorem healthSince_kept (s : State) (j : Nat) : kept (healthSince s j) = kept s := by simp [healthSince]
@[simp] theorem takeHealth_kept (s : State) (j : Nat) (p : List Byte) : kept (takeHealth s j p) = kept s := by simp [takeHealth]
theorem execHealthReceive_kept (j : Fin 64) (m : OmMsg) (s : State) : ∀ u, execHealthReceive j m s = .next u → kept u = kept s := by
  intro u h
  unfold execHealthReceive at h
  rw [Host.Outcome.next.injEq] at h
  rw [← h]
  simp
@[simp] theorem takeYield_kept (s : State) (j : Nat) (p : List Byte) : kept (takeYield s j p) = kept s := by simp [takeYield]
theorem execYieldNotice_kept (j : Fin 64) (m : OmMsg) (s : State) : ∀ u, execYieldNotice j m s = .next u → kept u = kept s := by
  intro u h
  unfold execYieldNotice at h
  rw [Host.Outcome.next.injEq] at h
  rw [← h]
  simp
@[simp] theorem takeSource_kept (s : State) (j src : Nat) : kept (takeSource s j src) = kept s := by simp [takeSource]
@[simp] theorem takePeerLoss_kept (s : State) (j : Nat) (p : List Byte) : kept (takePeerLoss s j p) = kept s := by simp [takePeerLoss]
theorem execPeerLoss_kept (j : Fin 64) (m : OmMsg) (s : State) : ∀ u, execPeerLoss j m s = .next u → kept u = kept s := by
  intro u h
  unfold execPeerLoss at h
  rw [Host.Outcome.next.injEq] at h
  rw [← h]
  simp
@[simp] theorem takeDigest_kept (s : State) (j : Nat) : kept (takeDigest s j) = kept s := by simp [takeDigest]
theorem execDigestReport_kept (j : Fin 64) (m : OmMsg) (s : State) : ∀ u, execDigestReport j m s = .next u → kept u = kept s := by
  intro u h
  unfold execDigestReport at h
  rw [Host.Outcome.next.injEq] at h
  rw [← h]
  simp
@[simp] theorem witAct_kept (s : State) (j type : Nat) (p : List Byte) : kept (witAct s j type p) = kept s := by
  unfold witAct
  split <;> simp
@[simp] theorem takeSilence_kept (s : State) (j : Nat) : kept (takeSilence s j) = kept s := by simp [takeSilence]
theorem execWitHealthTimeout_kept (j : Fin 64) (s : State) : ∀ u, execWitHealthTimeout j s = .next u → kept u = kept s := by
  intro u h
  unfold execWitHealthTimeout at h
  split at h <;> (rw [Host.Outcome.next.injEq] at h; rw [← h]) <;> simp
@[simp] theorem forcePromote_kept (s : State) (k : Nat) : kept (forcePromote s k) = kept s := by simp [forcePromote]
theorem execWitBothStandby_kept (k : Fin 32) (s : State) : ∀ u, execWitBothStandby k s = .next u → kept u = kept s := by
  intro u h
  unfold execWitBothStandby at h
  split at h <;> (rw [Host.Outcome.next.injEq] at h; rw [← h]) <;> simp
theorem execWitRestrikeCountClear_kept (k : Fin 32) (s : State) : ∀ u, execWitRestrikeCountClear k s = .next u → kept u = kept s := by
  intro u h
  unfold execWitRestrikeCountClear at h
  split at h <;> (rw [Host.Outcome.next.injEq] at h; rw [← h]) <;> simp
@[simp] theorem sourceWindow_kept (s : State) : kept (sourceWindow s) = kept s := by simp [sourceWindow]
theorem execWitSourceWindowEnd_kept (s : State) : ∀ u, execWitSourceWindowEnd s = .next u → kept u = kept s := by
  intro u h
  unfold execWitSourceWindowEnd at h
  split at h <;> (rw [Host.Outcome.next.injEq] at h; rw [← h]) <;> simp
theorem execWitCommand_kept (c : Fin 8) (s : State) : ∀ u, execWitCommand c s = .next u → kept u = kept s := by
  intro u h
  unfold execWitCommand at h
  rw [Host.Outcome.next.injEq] at h
  rw [← h]
  refine serve_kept _ _ _ _ _ _ ?_
  intro s q
  try dsimp only
  (repeat' split) <;> first | simp | rfl | simp_all
theorem execWitPairStatus_kept (c : Fin 8) (s : State) : ∀ u, execWitPairStatus c s = .next u → kept u = kept s := by
  intro u h
  unfold execWitPairStatus at h
  rw [Host.Outcome.next.injEq] at h
  rw [← h]
  refine serve_kept _ _ _ _ _ _ ?_
  intro s q
  try dsimp only
  (repeat' split) <;> first | simp | rfl | simp_all
theorem execWitAlarmClear_kept (c : Fin 8) (s : State) : ∀ u, execWitAlarmClear c s = .next u → kept u = kept s := by
  intro u h
  unfold execWitAlarmClear at h
  rw [Host.Outcome.next.injEq] at h
  rw [← h]
  refine serve_kept _ _ _ _ _ _ ?_
  intro s q
  try dsimp only
  (repeat' split) <;> first | simp | rfl | simp_all
@[simp] theorem restGroup_kept (s : State) (n : Nat) : kept (restGroup s n) = kept s := by simp [restGroup]
theorem execDiagTestEnd_kept (obs : List DiagObs) (s : State) : ∀ u, execDiagTestEnd obs s = .next u → kept u = kept s := by
  intro u h
  unfold execDiagTestEnd at h
  (repeat' split at h) <;> cases h <;> simp_all
theorem execPscDiag_kept (c : Fin 8) (s : State) : ∀ u, execPscDiag c s = .next u → kept u = kept s := by
  intro u h
  unfold execPscDiag at h
  rw [Host.Outcome.next.injEq] at h
  rw [← h]
  refine serve_kept _ _ _ _ _ _ ?_
  intro s q
  try dsimp only
  (repeat' split) <;> first | simp | rfl | simp_all
theorem execPscCal_kept (c : Fin 8) (s : State) : ∀ u, execPscCal c s = .next u → kept u = kept s := by
  intro u h
  unfold execPscCal at h
  rw [Host.Outcome.next.injEq] at h
  rw [← h]
  refine serve_kept _ _ _ _ _ _ ?_
  intro s q
  try dsimp only
  (repeat' split) <;> first | simp | rfl | simp_all
theorem execPscCalDone_kept (n : Fin 16) (r : CalResult) (s : State) : ∀ u, execPscCalDone n r s = .next u → kept u = kept s := by
  intro u h
  unfold execPscCalDone at h
  dsimp only at h
  split at h <;> (rw [Host.Outcome.next.injEq] at h; rw [← h]) <;> simp
@[simp] theorem ethStart_kept (s : State) (p : Nat) : kept (ethStart s p) = kept s := by simp [ethStart]
@[simp] theorem ethStop_kept (s : State) (p : Nat) : kept (ethStop s p) = kept s := by simp [ethStop]
@[simp] theorem countPaused_kept (s : State) (p now : Nat) : kept (countPaused s p now) = kept s := by simp [countPaused]
@[simp] theorem showPause_kept (s : State) (p now : Nat) : kept (showPause s p now) = kept s := by simp [showPause]
@[simp] theorem endPause_kept (s : State) (p now : Nat) : kept (endPause s p now) = kept s := by simp [endPause]
@[simp] theorem pauseFrame_kept (s : State) (p time now : Nat) : kept (pauseFrame s p time now) = kept s := by simp [pauseFrame]
@[simp] theorem pauseTick_kept (s : State) (p : Nat) : kept (pauseTick s p) = kept s := by simp [pauseTick]
@[simp] theorem macControl_kept (s : State) (p dst opcode time now : Nat) : kept (macControl s p dst opcode time now) = kept s := by simp [macControl]
theorem execPauseFrame_kept (p : Fin 4) (time : BitVec 16) (len : BitVec 14) (own bad : Bool) (cycle : Fin 10240) (s : State) : ∀ u, execPauseFrame p time len own bad cycle s = .next u → kept u = kept s := by
  intro u h
  unfold execPauseFrame at h
  dsimp only at h
  split at h <;> (rw [Host.Outcome.next.injEq] at h; rw [← h]) <;> simp
theorem execPauseEnd_kept (p : Fin 4) (s : State) : ∀ u, execPauseEnd p s = .next u → kept u = kept s := by
  intro u h
  unfold execPauseEnd at h
  split at h <;> (rw [Host.Outcome.next.injEq] at h; rw [← h]) <;> simp
@[simp] theorem flushQueues_kept (s : State) (p : Nat) : kept (flushQueues s p) = kept s := by simp [flushQueues]
@[simp] theorem linkDown_kept (s : State) (p reason : Nat) (remote : Bool) : kept (linkDown s p reason remote) = kept s := by simp [linkDown]
theorem execEthLinkDown_kept (p : Fin 4) (reason : Fin 5) (remote restart : Bool) (s : State) : ∀ u, execEthLinkDown p reason remote restart s = .next u → kept u = kept s := by
  intro u h
  unfold execEthLinkDown at h
  split at h <;> (rw [Host.Outcome.next.injEq] at h; rw [← h]) <;> simp
theorem execEthLinkUp_kept (p : Fin 4) (s : State) : ∀ u, execEthLinkUp p s = .next u → kept u = kept s := by
  intro u h
  unfold execEthLinkUp at h
  split at h <;> (rw [Host.Outcome.next.injEq] at h; rw [← h]) <;> simp
@[simp] theorem dropLate_kept (s : State) (p n : Nat) : kept (dropLate s p n) = kept s := by simp [dropLate]
@[simp] theorem purgeLate_kept (s : State) (p : Nat) : kept (purgeLate s p) = kept s := by simp [purgeLate]
theorem execMediaLateDrop_kept (p : Fin 4) (s : State) : ∀ u, execMediaLateDrop p s = .next u → kept u = kept s := by
  intro u h
  unfold execMediaLateDrop at h
  split at h <;> (rw [Host.Outcome.next.injEq] at h; rw [← h]) <;> simp
@[simp] theorem returnStamp_kept (s : State) (p i t : Nat) : kept (returnStamp s p i t) = kept s := by simp [returnStamp]
@[simp] theorem stampOut_kept (s : State) (p c : Nat) (f : TxFrame) (whole : Bool) : kept (stampOut s p c f whole).1 = kept s := by
  unfold stampOut
  split <;> simp
@[simp] theorem stampIn_kept (s : State) (p i c : Nat) : kept (stampIn s p i c) = kept s := by simp [stampIn]
@[simp] theorem txCounted_kept (s : State) (p q : Nat) (bytes : List Byte) : kept (txCounted s p q bytes) = kept s := by simp [txCounted]
@[simp] theorem txUnderrun_kept (s : State) (p q run : Nat) (bytes : List Byte) : kept (txUnderrun s p q run bytes) = kept s := by simp [txUnderrun]
@[simp] theorem startFrame_kept (s : State) (p : Nat) (run : Option Nat) (c : Nat) : kept (startFrame s p run c) = kept s := by
  unfold startFrame
  dsimp only
  (repeat' split) <;> simp_all
@[simp] theorem pauseOver_kept (s : State) (p now : Nat) : kept (pauseOver s p now) = kept s := by simp [pauseOver]
@[simp] theorem txStart_kept (s : State) (p : Nat) (run : Option Nat) (c : Nat) : kept (txStart s p run c) = kept s := by simp [txStart]
theorem execTxFrameStart_kept (p : Fin 4) (run : Option (BitVec 14)) (cycle : Fin 10240) (s : State) : ∀ u, execTxFrameStart p run cycle s = .next u → kept u = kept s := by
  intro u h
  unfold execTxFrameStart at h
  rw [Host.Outcome.next.injEq] at h
  rw [← h]
  simp
@[simp] theorem mediaArrives_kept (s : State) (f : RxFlow) (l p src : Nat) (rtp : List Byte) : kept (mediaArrives s f l p src rtp) = kept s := by simp [mediaArrives]
theorem execMediaPacketReceive_kept (f : Fin 512) (leg : Fin 2) (src : Word) (rtp : List Byte) (s : State) : ∀ u, execMediaPacketReceive f leg src rtp s = .next u → kept u = kept s := by
  intro u h
  unfold execMediaPacketReceive at h
  (repeat' split at h) <;> cases h <;> simp_all
@[simp] theorem pcsErrors_kept (s : State) (p : Nat) (rx : RxFrame) : kept (pcsErrors s p rx) = kept s := by simp [pcsErrors]
theorem execEthWakePattern_kept (c : Fin 8) (s : State) : ∀ u, execEthWakePattern c s = .next u → kept u = kept s := by
  intro u h
  unfold execEthWakePattern at h
  rw [Host.Outcome.next.injEq] at h
  rw [← h]
  simp
theorem execEthLinkRestart_kept (c : Fin 8) (s : State) : ∀ u, execEthLinkRestart c s = .next u → kept u = kept s := by
  intro u h
  unfold execEthLinkRestart at h
  rw [Host.Outcome.next.injEq] at h
  rw [← h]
  simp
@[simp] theorem ptpSend_kept (s : State) (i type : Nat) (event unicast valid : Bool) (log : Nat) (body : List Byte) : kept (ptpSend s i type event unicast valid log body) = kept s := by
  unfold ptpSend
  split <;> simp
@[simp] theorem ptpFree_kept (s : State) (n : Nat) : kept (ptpFree s n).1 = kept s := by simp [ptpFree]
@[simp] theorem sendAnnounce_kept (s : State) (i : Nat) : kept (sendAnnounce s i) = kept s := by simp [sendAnnounce]
@[simp] theorem sendSync_kept (s : State) (i : Nat) : kept (sendSync s i) = kept s := by
  unfold sendSync
  dsimp only
  (repeat' split) <;> simp_all
@[simp] theorem sendDelayReq_kept (s : State) (i : Nat) : kept (sendDelayReq s i) = kept s := by simp [sendDelayReq]
@[simp] theorem ptpInterval_kept (s : State) (i : Nat) (what : PtpSend) : kept (ptpInterval s i what) = kept s := by
  unfold ptpInterval
  split <;> simp
@[simp] theorem ptpDrain_kept (s : State) (i : Nat) : kept (ptpDrain s i) = kept s := by simp [ptpDrain]
theorem execPtpMessageSend_kept (inst : Fin 2) (what : PtpSend) (s : State) : ∀ u, execPtpMessageSend inst what s = .next u → kept u = kept s := by
  intro u h
  unfold execPtpMessageSend at h
  split at h <;> (rw [Host.Outcome.next.injEq] at h; rw [← h]) <;> simp
@[simp] theorem ptpFollow_kept (s : State) (i : Nat) (gm : BitVec 64) (cls : Nat) : kept (ptpFollow s i gm cls) = kept s := by simp [ptpFollow]
@[simp] theorem ptpLead_kept (s : State) (i : Nat) : kept (ptpLead s i) = kept s := by
  unfold ptpLead
  dsimp only
  split <;> simp
@[simp] theorem ptpAnnounce_kept (s : State) (i : Nat) (gm : BitVec 64) (cls : Nat) (best : Bool) : kept (ptpAnnounce s i gm cls best) = kept s := by simp [ptpAnnounce]
@[simp] theorem ptpServo_kept (s : State) (i : Nat) (perr steer : Word) : kept (ptpServo s i perr steer) = kept s := by
  unfold ptpServo
  split <;> simp
@[simp] theorem ptpDelayReq_kept (s : State) (i : Nat) : kept (ptpDelayReq s i) = kept s := by simp [ptpDelayReq]
@[simp] theorem ptpManage_kept (s : State) (i : Nat) (get : Option (Fin 4)) : kept (ptpManage s i get) = kept s := by
  unfold ptpManage
  dsimp only
  split <;> simp
@[simp] theorem ptpTake_kept (s : State) (i : Nat) (msg : PtpMsg) : kept (ptpTake s i msg) = kept s := by
  unfold ptpTake
  split <;> simp
@[simp] theorem ptpArrives_kept (s : State) (p i : Nat) (event : Bool) (c : Nat) : kept (ptpArrives s p i event c).1 = kept s := by simp [ptpArrives]
@[simp] theorem ptpDeliver_kept (s : State) (i domain : Nat) (msg : PtpMsg) : kept (ptpDeliver s i domain msg) = kept s := by simp [ptpDeliver]
theorem execPtpMessageReceive_kept (inst : Fin 2) (h : RxHead) (cycle : Fin 10240) (domain : Byte) (msg : PtpMsg) (s : State) : ∀ u, execPtpMessageReceive inst h cycle domain msg s = .next u → kept u = kept s := by
  intro u h
  unfold execPtpMessageReceive at h
  dsimp only at h
  split at h <;> (rw [Host.Outcome.next.injEq] at h; rw [← h]) <;> simp
@[simp] theorem setPlateId_kept (s : State) (b : Nat) (hash : Word) (id : Nat) : kept (setPlateId s b hash id) = kept s := by simp [setPlateId]
theorem execPlateLoad_kept (c : Fin 8) (s : State) : ∀ u, execPlateLoad c s = .next u → kept u = kept s := by
  intro u h
  unfold execPlateLoad at h
  rw [Host.Outcome.next.injEq] at h
  rw [← h]
  refine serve_kept _ _ _ _ _ _ ?_
  intro s q
  try dsimp only
  (repeat' split) <;> first | simp | rfl | simp_all
@[simp] theorem fillBank_kept (s : State) (d : List Byte) (b : Nat) : kept (fillBank s d b) = kept s := by simp [fillBank]
@[simp] theorem loadDone_kept (s : State) (j : LoadJob) (d : List Byte) : kept (loadDone s j d) = kept s := by simp [loadDone]
@[simp] theorem loadFailed_kept (s : State) (j : LoadJob) (d : List Byte) (r : Nat × Nat) : kept (loadFailed s j d r) = kept s := by simp [loadFailed]
theorem execPlateLoaded_kept (data : List Byte) (s : State) : ∀ u, execPlateLoaded data s = .next u → kept u = kept s := by
  intro u h
  unfold execPlateLoaded at h
  dsimp only at h
  (repeat' split at h) <;> cases h <;> simp_all
theorem execPlateLoadFailed_kept (data : List Byte) (readErr : Option Nat) (s : State) : ∀ u, execPlateLoadFailed data readErr s = .next u → kept u = kept s := by
  intro u h
  unfold execPlateLoadFailed at h
  dsimp only at h
  (repeat' split at h) <;> cases h <;> simp_all
theorem execPlateArm_kept (c : Fin 8) (s : State) : ∀ u, execPlateArm c s = .next u → kept u = kept s := by
  intro u h
  unfold execPlateArm at h
  rw [Host.Outcome.next.injEq] at h
  rw [← h]
  simp
@[simp] theorem armPower_kept (s : State) (mask : Nat) : kept (armPower s mask) = kept s := by simp [armPower]
@[simp] theorem armEdges_kept (s : State) (b r : Nat) : kept (armEdges s b r) = kept s := by simp [armEdges]
@[simp] theorem armDone_kept (s : State) (j : ArmJob) : kept (armDone s j) = kept s := by
  unfold armDone
  dsimp only
  split <;> simp
@[simp] theorem armFailed_kept (s : State) (j : ArmJob) (r : Nat × Nat) : kept (armFailed s j r) = kept s := by simp [armFailed]
theorem execPlateArmed_kept (s : State) : ∀ u, execPlateArmed s = .next u → kept u = kept s := by
  intro u h
  unfold execPlateArmed at h
  (repeat' split at h) <;> cases h <;> simp_all
theorem execPlateDisarm_kept (c : Fin 8) (s : State) : ∀ u, execPlateDisarm c s = .next u → kept u = kept s := by
  intro u h
  unfold execPlateDisarm at h
  rw [Host.Outcome.next.injEq] at h
  rw [← h]
  simp
theorem execPlateInfo_kept (c : Fin 8) (s : State) : ∀ u, execPlateInfo c s = .next u → kept u = kept s := by
  intro u h
  unfold execPlateInfo at h
  rw [Host.Outcome.next.injEq] at h
  rw [← h]
  simp
@[simp] theorem engStart_kept (s : State) : kept (engStart s) = kept s := by simp [engStart]
@[simp] theorem mbSubmit_kept (s : State) (c : Nat) : kept (mbSubmit s c) = kept s := by simp [mbSubmit]
@[simp] theorem mbServeNow_kept (s : State) (c : Nat) : kept (mbServeNow s c) = kept s := by simp [mbServeNow]
@[simp] theorem mbRing_kept (s : State) (c : Nat) : kept (mbRing s c) = kept s := by simp [mbRing]
@[simp] theorem mbWrite_kept (s : State) (c off : Nat) (data : List Byte) : kept (mbWrite s c off data) = kept s := by simp [mbWrite]
theorem execMbDoorbell_kept (c : Fin 8) (ring : Bool) (s : State) : ∀ u, execMbDoorbell c ring s = .next u → kept u = kept s := by
  intro u h
  unfold execMbDoorbell at h
  split at h <;> (rw [Host.Outcome.next.injEq] at h; rw [← h]) <;> simp
theorem execMbRequestWrite_kept (c : Fin 8) (off : Fin 512) (data : List Byte) (s : State) : ∀ u, execMbRequestWrite c off data s = .next u → kept u = kept s := by
  intro u h
  unfold execMbRequestWrite at h
  split at h <;> (rw [Host.Outcome.next.injEq] at h; rw [← h]) <;> simp
@[simp] theorem meterStart_kept (s : State) : kept (meterStart s) = kept s := by simp [meterStart]
@[simp] theorem pairStart_kept (s : State) : kept (pairStart s) = kept s := by simp [pairStart]
@[simp] theorem witStart_kept (s : State) : kept (witStart s) = kept s := by simp [witStart]
@[simp] theorem pmStart_kept (s : State) (ext : Option Byte) : kept (pmStart s ext) = kept s := by simp [pmStart]
@[simp] theorem fnStart_kept (s : State) (f : Nat) (ext : Option Byte) : kept (fnStart s f ext) = kept s := by simp [fnStart]
@[simp] theorem fnPass_kept (s : State) (f : Nat) (ext : Option Byte) : kept (fnPass s f ext) = kept s := by simp [fnPass]
@[simp] theorem fnRefuse_kept (s : State) (f code field : Nat) : kept (fnRefuse s f code field) = kept s := by simp [fnRefuse]
@[simp] theorem fnCheckEnd_kept (s : State) (f : Nat) (ext : Option Byte) : kept (fnCheckEnd s f ext) = kept s := by
  unfold fnCheckEnd
  split <;> simp
theorem execFnEnabled_kept (f : Fin 256) (ext : Option Byte) (s : State) : ∀ u, execFnEnabled f ext s = .next u → kept u = kept s := by
  intro u h
  unfold execFnEnabled at h
  split at h <;> (rw [Host.Outcome.next.injEq] at h; rw [← h]) <;> simp
@[simp] theorem fnStop_kept (s : State) (f : Nat) : kept (fnStop s f) = kept s := by simp [fnStop]
@[simp] theorem fnStopEnd_kept (s : State) (f : Nat) : kept (fnStopEnd s f) = kept s := by simp [fnStopEnd]
theorem execFnStopped_kept (f : Fin 256) (s : State) : ∀ u, execFnStopped f s = .next u → kept u = kept s := by
  intro u h
  unfold execFnStopped at h
  split at h <;> (rw [Host.Outcome.next.injEq] at h; rw [← h]) <;> simp
@[simp] theorem fnHold_kept (s : State) (f : Nat) (on : Bool) : kept (fnHold s f on) = kept s := by simp [fnHold]
@[simp] theorem fnServe_kept (s : State) (f : Nat) (on : Bool) : kept (fnServe s f on) = kept s := by simp [fnServe]
@[simp] theorem fnWrite_kept (s : State) (f : Nat) (on : Bool) : kept (fnWrite s f on) = kept s := by simp [fnWrite]
theorem execFnEnable_kept (f : Fin 256) (s : State) : ∀ u, execFnEnable f s = .next u → kept u = kept s := by
  intro u h
  unfold execFnEnable at h
  split at h <;> (rw [Host.Outcome.next.injEq] at h; rw [← h]) <;> simp
theorem execFnDisable_kept (f : Fin 256) (s : State) : ∀ u, execFnDisable f s = .next u → kept u = kept s := by
  intro u h
  unfold execFnDisable at h
  split at h <;> (rw [Host.Outcome.next.injEq] at h; rw [← h]) <;> simp
@[simp] theorem cfgStore_kept (s : State) (f o : Nat) (r0 : List Word) : kept (cfgStore s f o r0) = kept s := by
  fun_induction cfgStore <;> simp_all
theorem execFnCfgWrite_kept (c : Fin 8) (s : State) : ∀ u, execFnCfgWrite c s = .next u → kept u = kept s := by
  intro u h
  unfold execFnCfgWrite at h
  rw [Host.Outcome.next.injEq] at h
  rw [← h]
  refine serve_kept _ _ _ _ _ _ ?_
  intro s q
  try dsimp only
  (repeat' split) <;> first | simp | rfl | simp_all
theorem execFnCfgRead_kept (c : Fin 8) (s : State) : ∀ u, execFnCfgRead c s = .next u → kept u = kept s := by
  intro u h
  unfold execFnCfgRead at h
  rw [Host.Outcome.next.injEq] at h
  rw [← h]
  simp
@[simp] theorem cfgDefault_kept (s : State) (f : Nat) : kept (cfgDefault s f) = kept s := by simp [cfgDefault]
theorem execFnCfgDefault_kept (c : Fin 8) (s : State) : ∀ u, execFnCfgDefault c s = .next u → kept u = kept s := by
  intro u h
  unfold execFnCfgDefault at h
  rw [Host.Outcome.next.injEq] at h
  rw [← h]
  refine serve_kept _ _ _ _ _ _ ?_
  intro s q
  try dsimp only
  (repeat' split) <;> first | simp | rfl | simp_all
theorem execFnQuery_kept (c : Fin 8) (s : State) : ∀ u, execFnQuery c s = .next u → kept u = kept s := by
  intro u h
  unfold execFnQuery at h
  rw [Host.Outcome.next.injEq] at h
  rw [← h]
  simp
theorem execSysInfo_kept (c : Fin 8) (s : State) : ∀ u, execSysInfo c s = .next u → kept u = kept s := by
  intro u h
  unfold execSysInfo at h
  rw [Host.Outcome.next.injEq] at h
  rw [← h]
  simp
theorem execMbEcho_kept (c : Fin 8) (s : State) : ∀ u, execMbEcho c s = .next u → kept u = kept s := by
  intro u h
  unfold execMbEcho at h
  rw [Host.Outcome.next.injEq] at h
  rw [← h]
  simp
theorem execCpRestart_kept (c : Fin 8) (s : State) : ∀ u, execCpRestart c s = .next u → kept u = kept s := by
  intro u h
  unfold execCpRestart at h
  rw [Host.Outcome.next.injEq] at h
  rw [← h]
  simp
@[simp] theorem watchdog_kept (s : State) : kept (watchdog s) = kept s := by simp [watchdog]
theorem execCpWatchdog_kept (s : State) : ∀ u, execCpWatchdog s = .next u → kept u = kept s := by
  intro u h
  unfold execCpWatchdog at h
  split at h <;> (rw [Host.Outcome.next.injEq] at h; rw [← h]) <;> simp
@[simp] theorem watchdogAge_kept (s : State) : kept (watchdogAge s) = kept s := by simp [watchdogAge]
@[simp] theorem logCut_kept (s : State) (x : Bool × Nat) : kept (logCut s x) = kept s := by simp [logCut]
@[simp] theorem serveHeld_kept (s : State) : kept (serveHeld s) = kept s := by
  unfold serveHeld
  dsimp only
  rw [kept_foldl _ _ _ (by intro s x; split <;> simp)]
  simp
@[simp] theorem cpRuns_kept (s : State) : kept (cpRuns s) = kept s := by simp [cpRuns]
theorem execCpRestarted_kept (s : State) : ∀ u, execCpRestarted s = .next u → kept u = kept s := by
  intro u h
  unfold execCpRestarted at h
  split at h <;> (rw [Host.Outcome.next.injEq] at h; rw [← h]) <;> simp
@[simp] theorem linkUp_kept (s : State) (speed width : Nat) (bme msix pme : Bool) (mps mrrs : Nat) : kept (linkUp s speed width bme msix pme mps mrrs) = kept s := by simp [linkUp]
theorem execHlLinkUp_kept (speed : Fin 4) (width : Fin 3) (bme : Bool) (msix : Bool) (pme : Bool) (mps : BitVec 16) (mrrs : BitVec 16) (s : State) : ∀ u, execHlLinkUp speed width bme msix pme mps mrrs s = .next u → kept u = kept s := by
  intro u h
  unfold execHlLinkUp at h
  split at h <;> (rw [Host.Outcome.next.injEq] at h; rw [← h]) <;> simp
@[simp] theorem ringsOff_kept (s : State) : kept (ringsOff s) = kept s := by simp [ringsOff]
@[simp] theorem configDefaults_kept (s : State) (d3 : Bool) : kept (configDefaults s d3) = kept s := by simp [configDefaults]
@[simp] theorem endpointReset_kept (s : State) (cause : Nat) : kept (endpointReset s cause) = kept s := by simp [endpointReset]
theorem execEndpointReset_kept (cause : Fin 6) (s : State) : ∀ u, execEndpointReset cause s = .next u → kept u = kept s := by
  intro u h
  unfold execEndpointReset at h
  split at h <;> (rw [Host.Outcome.next.injEq] at h; rw [← h]) <;> simp
@[simp] theorem dmaStop_kept (s : State) (r err : Nat) (d : Option Desc) : kept (dmaStop s r err d) = kept s := by
  unfold dmaStop
  (repeat' split) <;> simp_all
theorem execDmaError_kept (r : Fin 4) (err : Fin 5) (d : Option Desc) (s : State) : ∀ u, execDmaError r err d s = .next u → kept u = kept s := by
  intro u h
  unfold execDmaError at h
  split at h <;> (rw [Host.Outcome.next.injEq] at h; rw [← h]) <;> simp
@[simp] theorem irqEnable_kept (s : State) (w : Word) : kept (irqEnable s w) = kept s := by simp [irqEnable]
theorem execIrqEnableWrite_kept (w : Word) (s : State) : ∀ u, execIrqEnableWrite w s = .next u → kept u = kept s := by
  intro u h
  unfold execIrqEnableWrite at h
  split at h <;> (rw [Host.Outcome.next.injEq] at h; rw [← h]) <;> simp
@[simp] theorem semTake_kept (s : State) (k a : Nat) : kept (semTake s k a) = kept s := by
  unfold semTake
  split <;> simp
theorem execSemaphoreRead_kept (a : Fin 4) (k : Fin 32) (s : State) : ∀ u, execSemaphoreRead a k s = .next u → kept u = kept s := by
  intro u h
  unfold execSemaphoreRead at h
  split at h <;> (rw [Host.Outcome.next.injEq] at h; rw [← h]) <;> simp
@[simp] theorem semWrite_kept (s : State) (k a : Nat) : kept (semWrite s k a) = kept s := by simp [semWrite]
theorem execSemaphoreWrite_kept (a : Fin 4) (k : Fin 32) (s : State) : ∀ u, execSemaphoreWrite a k s = .next u → kept u = kept s := by
  intro u h
  unfold execSemaphoreWrite at h
  split at h <;> (rw [Host.Outcome.next.injEq] at h; rw [← h]) <;> simp
@[simp] theorem ringSize_kept (s : State) (r : Nat) : kept (ringSize s r) = kept s := by simp [ringSize]
@[simp] theorem ringOn_kept (s : State) (r : Nat) : kept (ringOn s r) = kept s := by
  unfold ringOn
  dsimp only
  split <;> simp
theorem execRingEnable_kept (r : Fin 4) (s : State) : ∀ u, execRingEnable r s = .next u → kept u = kept s := by
  intro u h
  unfold execRingEnable at h
  split at h <;> (rw [Host.Outcome.next.injEq] at h; rw [← h]) <;> simp
@[simp] theorem ringHead_kept (s : State) (r v : Nat) : kept (ringHead s r v) = kept s := by simp [ringHead]
theorem execRingHeadWrite_kept (r : Fin 4) (head : BitVec 17) (s : State) : ∀ u, execRingHeadWrite r head s = .next u → kept u = kept s := by
  intro u h
  unfold execRingHeadWrite at h
  split at h <;> (rw [Host.Outcome.next.injEq] at h; rw [← h]) <;> simp
theorem execHlLinkInfo_kept (c : Fin 8) (s : State) : ∀ u, execHlLinkInfo c s = .next u → kept u = kept s := by
  intro u h
  unfold execHlLinkInfo at h
  rw [Host.Outcome.next.injEq] at h
  rw [← h]
  simp
theorem execStagingCrc_kept (c : Fin 8) (s : State) : ∀ u, execStagingCrc c s = .next u → kept u = kept s := by
  intro u h
  unfold execStagingCrc at h
  rw [Host.Outcome.next.injEq] at h
  rw [← h]
  simp
@[simp] theorem bootFrom_kept (s : State) (st : Straps) : kept (bootFrom s st) = kept s := by simp [bootFrom]
theorem execPermanentRailsValid_kept (st : Straps) (s : State) : ∀ u, execPermanentRailsValid st s = .next u → kept u = kept s := by
  intro u h
  unfold execPermanentRailsValid at h
  split at h <;> (rw [Host.Outcome.next.injEq] at h; rw [← h]) <;> simp
@[simp] theorem pgRise_kept (s : State) (g : Nat) : kept (pgRise s g) = kept s := by simp [pgRise]
theorem execSeqPgRise_kept (g : Fin 6) (s : State) : ∀ u, execSeqPgRise g s = .next u → kept u = kept s := by
  intro u h
  unfold execSeqPgRise at h
  split at h <;> (rw [Host.Outcome.next.injEq] at h; rw [← h]) <;> simp
@[simp] theorem drainLog_kept (s : State) : kept (drainLog s) = kept s := by simp [drainLog]
@[simp] theorem measured_kept (s : State) (k mv : Nat) : kept (measured s k mv) = kept s := by simp [measured]
@[simp] theorem windowOut_kept (s : State) (k mv : Nat) : kept (windowOut s k mv) = kept s := by simp [windowOut]
theorem execRailWindow_kept (k : Fin 10) (mv : BitVec 16) (s : State) : ∀ u, execRailWindow k mv s = .next u → kept u = kept s := by
  intro u h
  unfold execRailWindow at h
  split at h <;> (rw [Host.Outcome.next.injEq] at h; rw [← h]) <;> simp
theorem execRailWindowClear_kept (k : Fin 10) (mv : BitVec 16) (s : State) : ∀ u, execRailWindowClear k mv s = .next u → kept u = kept s := by
  intro u h
  unfold execRailWindowClear at h
  split at h <;> (rw [Host.Outcome.next.injEq] at h; rw [← h]) <;> simp
@[simp] theorem readSensor_kept (s : State) (r : List Int) (i : Nat) : kept (readSensor s r i) = kept s := by simp [readSensor]
@[simp] theorem countThresholds_kept (s : State) (t : Int) : kept (countThresholds s t) = kept s := by simp [countThresholds]
@[simp] theorem warmStep_kept (s : State) (i : Nat) (t : Int) : kept (warmStep s i t) = kept s := by simp [warmStep]
@[simp] theorem hotStep_kept (s : State) (i : Nat) (t : Int) : kept (hotStep s i t) = kept s := by simp [hotStep]
@[simp] theorem avsSend_kept (s : State) (mv : Nat) : kept (avsSend s mv) = kept s := by simp [avsSend]
theorem execAvsStep_kept (mv : BitVec 10) (s : State) : ∀ u, execAvsStep mv s = .next u → kept u = kept s := by
  intro u h
  unfold execAvsStep at h
  split at h <;> (rw [Host.Outcome.next.injEq] at h; rw [← h]) <;> simp
@[simp] theorem startCal_kept (s : State) (cal : List CalResult) : kept (startCal s cal) = kept s := by simp [startCal]
@[simp] theorem bootEvents_kept (s : State) (ms : Nat) (copyB : Bool) : kept (bootEvents s ms copyB) = kept s := by
  unfold bootEvents
  dsimp only
  split <;> simp
@[simp] theorem bootDone_kept (s : State) (i : RunImage) (copyB : Bool) (ms : Nat) (cal : List CalResult) : kept (bootDone s i copyB ms cal) = kept s := by simp [bootDone]
theorem execPmBootDone_kept (a b : List Byte) (ms : BitVec 16) (cal : List CalResult) (s : State) : ∀ u, execPmBootDone a b ms cal s = .next u → kept u = kept s := by
  intro u h
  unfold execPmBootDone at h
  (repeat' split at h) <;> cases h <;> simp_all
@[simp] theorem bootVerify_kept (s : State) : kept (bootVerify s) = kept s := by
  unfold bootVerify
  dsimp only
  split <;> simp
theorem execBootGo_kept (s : State) : ∀ u, execBootGo s = .next u → kept u = kept s := by
  intro u h
  unfold execBootGo at h
  split at h <;> (rw [Host.Outcome.next.injEq] at h; rw [← h]) <;> simp
theorem execBootFailure_kept (a b : List Byte) (s : State) : ∀ u, execBootFailure a b s = .next u → kept u = kept s := by
  intro u h
  unfold execBootFailure at h
  split at h <;> (rw [Host.Outcome.next.injEq] at h; rw [← h]) <;> simp
@[simp] theorem enterDormant_kept (s : State) (p : List Byte) : kept (enterDormant s p) = kept s := by simp [enterDormant]
theorem execPmDormant_kept (c : Fin 8) (s : State) : ∀ u, execPmDormant c s = .next u → kept u = kept s := by
  have e : ∀ (s : State) (q : Req), kept (match dormantRefusal s q.payload with
      | some code => (s, Reply.refused code 0)
      | none => (s, Reply.ok [])).1 = kept s := by
    intro s q
    split <;> rfl
  intro u h
  unfold execPmDormant at h
  rw [Host.Outcome.next.injEq] at h
  rw [← h]
  split
  · rw [enterDormant_kept]
    exact serve_kept _ _ _ _ _ _ e
  · exact serve_kept _ _ _ _ _ _ e
theorem execPmReadings_kept (c : Fin 8) (mv : List (BitVec 16)) (s : State) : ∀ u, execPmReadings c mv s = .next u → kept u = kept s := by
  intro u h
  unfold execPmReadings at h
  rw [Host.Outcome.next.injEq] at h
  rw [← h]
  simp
@[simp] theorem arbitrate_kept (s : State) (t : Nat) (l : List BusReq) : kept (arbitrate s t l) = kept s := by simp [arbitrate]
@[simp] theorem unmapped_kept (s : State) (a space cycle : Nat) : kept (unmapped s a space cycle) = kept s := by simp [unmapped]
@[simp] theorem irqClear_kept (s : State) (w : Word) : kept (irqClear s w) = kept s := by simp [irqClear]
@[simp] theorem msixWrite_kept (s : State) (i : Nat) (w : Word) : kept (msixWrite s i w) = kept s := by simp [msixWrite]
@[simp] theorem hlCtlWrite_kept (s : State) (w : Word) : kept (hlCtlWrite s w) = kept s := by simp [hlCtlWrite]
@[simp] theorem ringCtlWrite_kept (s : State) (r : Nat) (w : Word) : kept (ringCtlWrite s r w) = kept s := by simp [ringCtlWrite]
@[simp] theorem ringWrite_kept (s : State) (r o : Nat) (w : Word) : kept (ringWrite s r o w) = kept s := by simp [ringWrite]
@[simp] theorem plainWrite_kept (s : State) (off : Nat) (w : Word) : kept (plainWrite s off w) = kept s := by
  unfold plainWrite
  split <;> simp
@[simp] theorem regWrite_kept (s : State) (a off : Nat) (w : Word) : kept (regWrite s a off w) = kept s := by simp [regWrite]
@[simp] theorem mbxWrite_kept (s : State) (off : Nat) (be : BitVec 4) (w : Word) : kept (mbxWrite s off be w) = kept s := by simp [mbxWrite]
@[simp] theorem bar0Write_kept (s : State) (a off : Nat) (be : BitVec 4) (w : Word) (cycle : Nat) : kept (bar0Write s a off be w cycle) = kept s := by simp [bar0Write]
@[simp] theorem stagingWrite_kept (s : State) (o : Nat) (be : BitVec 4) (w : Word) : kept (stagingWrite s o be w) = kept s := by simp [stagingWrite]
@[simp] theorem bar2Write_kept (s : State) (a off : Nat) (be : BitVec 4) (w : Word) (cycle : Nat) : kept (bar2Write s a off be w cycle) = kept s := by simp [bar2Write]
@[simp] theorem logRead_kept (s : State) (a : Nat) (bank : Bool) (slot dw : Nat) (first : Bool) : kept (logRead s a bank slot dw first).1 = kept s := by simp [logRead]
@[simp] theorem latchStamp_kept (s : State) (n : Nat) : kept (latchStamp s n) = kept s := by simp [latchStamp]
@[simp] theorem regRead_kept (s : State) (a off cycle : Nat) : kept (regRead s a off cycle).1 = kept s := by
  unfold regRead
  (repeat' split) <;> simp_all
@[simp] theorem bar0Read_kept (s : State) (a off cycle : Nat) (first : Bool) : kept (bar0Read s a off cycle first).1 = kept s := by simp [bar0Read]
@[simp] theorem bar2Read_kept (s : State) (a off cycle : Nat) (first : Bool) : kept (bar2Read s a off cycle first).1 = kept s := by simp [bar2Read]
@[simp] theorem decodeError_kept (s : State) (m t cycle : Nat) : kept (decodeError s m t cycle) = kept s := by simp [decodeError]
@[simp] theorem sramWrite_kept (s : State) (addr : Nat) (be : BitVec 4) (w : Word) : kept (sramWrite s addr be w) = kept s := by simp [sramWrite]
@[simp] theorem matrixWrite_kept (s : State) (m t addr : Nat) (be : BitVec 4) (w : Word) (cycle : Nat) (rivals : List BusReq) : kept (matrixWrite s m t addr be w cycle rivals) = kept s := by simp [matrixWrite]
@[simp] theorem matrixRead_kept (s : State) (m t addr cycle : Nat) (rivals : List BusReq) : kept (matrixRead s m t addr cycle rivals).1 = kept s := by simp [matrixRead]
@[simp] theorem spaceWrite_kept (s : State) (a : Nat) (sp : Space) (off : Nat) (be : BitVec 4) (w : Word) (cycle : Nat) : kept (spaceWrite s a sp off be w cycle) = kept s := by
  unfold spaceWrite
  split <;> simp
@[simp] theorem spaceRead_kept (s : State) (a : Nat) (sp : Space) (off cycle : Nat) (first : Bool) : kept (spaceRead s a sp off cycle first).1 = kept s := by
  unfold spaceRead
  split <;> simp
theorem execRegisterWrite_kept (a : Fin 4) (sp : Space) (off : BitVec 24) (be : BitVec 4) (w : Word) (cycle : Fin 10240) (s : State) : ∀ u, execRegisterWrite a sp off be w cycle s = .next u → kept u = kept s := by
  intro u h
  unfold execRegisterWrite at h
  split at h <;> (rw [Host.Outcome.next.injEq] at h; rw [← h]) <;> simp
theorem readReturn_kept (x : State × Word) : kept (readReturn x) = kept x.1 := by simp [readReturn]
theorem execReadClearCounter_kept (a : Fin 4) (sp : Space) (off : BitVec 24) (cycle : Fin 10240) (s : State) : ∀ u, execReadClearCounter a sp off cycle s = .next u → kept u = kept s := by
  intro u h
  dsimp only [execReadClearCounter] at h
  obtain rfl | rfl := next_ite h
  · simp [readReturn]
  · rfl
theorem execSctrLoRead_kept (cycle : Fin 10240) (s : State) : ∀ u, execSctrLoRead cycle s = .next u → kept u = kept s := by
  intro u h
  dsimp only [execSctrLoRead] at h
  obtain rfl | rfl := next_ite h
  · simp [readReturn]
  · rfl
theorem execSapStampLoRead_kept (n : Fin 16) (s : State) : ∀ u, execSapStampLoRead n s = .next u → kept u = kept s := by
  intro u h
  dsimp only [execSapStampLoRead] at h
  obtain rfl | rfl := next_ite h
  · simp [readReturn]
  · rfl
@[simp] theorem spiBad_kept (s : State) (cmd : Byte) : kept (spiBad s cmd) = kept s := by simp [spiBad]
@[simp] theorem spiGood_kept (s : State) : kept (spiGood s) = kept s := by simp [spiGood]
@[simp] theorem spiDwords_kept (s : State) (sp : Space) (off : Nat) (r0 : List (Word × Nat)) : kept (spiDwords s sp off r0) = kept s := by
  fun_induction spiDwords <;> simp_all
@[simp] theorem spiWriteRun_kept (s : State) (cmd space : Byte) (off : Nat) (data : List Byte) (cycles : List (Fin 10240)) : kept (spiWriteRun s cmd space off data cycles) = kept s := by
  unfold spiWriteRun
  split <;> simp
theorem execSpiWrite_kept (cmd : Byte) (space : Byte) (off : BitVec 24) (data : List Byte) (cycles : List (Fin 10240)) (s : State) : ∀ u, execSpiWrite cmd space off data cycles s = .next u → kept u = kept s := by
  intro u h
  unfold execSpiWrite at h
  split at h <;> (rw [Host.Outcome.next.injEq] at h; rw [← h]) <;> simp
@[simp] theorem spiReadDwords_kept (s : State) (sp : Space) (off cycle : Nat) (late : List Nat) (i : Nat) (r0 : Nat) : kept (spiReadDwords s sp off cycle late i r0).1 = kept s := by
  induction r0 generalizing s off i with
  | zero => rfl
  | succ n ih =>
    simp only [spiReadDwords]
    rw [ih]
    split <;> simp
@[simp] theorem spiReadRun_kept (s : State) (space : Byte) (off bytes : Nat) (late : List Nat) (cycle : Nat) : kept (spiReadRun s space off bytes late cycle) = kept s := by
  unfold spiReadRun
  split <;> simp
theorem execSpiRead_kept (space : Byte) (off : BitVec 24) (bytes : BitVec 16) (late : List Nat) (cycle : Fin 10240) (s : State) : ∀ u, execSpiRead space off bytes late cycle s = .next u → kept u = kept s := by
  intro u h
  unfold execSpiRead at h
  split at h <;> (rw [Host.Outcome.next.injEq] at h; rw [← h]) <;> simp
theorem execSpiStatus_kept (s : State) : ∀ u, execSpiStatus s = .next u → kept u = kept s := by
  intro u h
  unfold execSpiStatus at h
  split at h <;> (rw [Host.Outcome.next.injEq] at h; rw [← h]) <;> simp
theorem execSpiIdentity_kept (s : State) : ∀ u, execSpiIdentity s = .next u → kept u = kept s := by
  intro u h
  unfold execSpiIdentity at h
  split at h <;> (rw [Host.Outcome.next.injEq] at h; rw [← h]) <;> simp
@[simp] theorem stopStep_kept (s : State) : kept (stopStep s) = kept s := by simp [stopStep]
@[simp] theorem startStep_kept (s : State) (late : Bool) : kept (startStep s late) = kept s := by simp [startStep]
@[simp] theorem swapBeginStep_kept (s : State) : kept (swapBeginStep s) = kept s := by simp [swapBeginStep]
@[simp] theorem swapDoneStep_kept (s : State) : kept (swapDoneStep s) = kept s := by simp [swapDoneStep]
@[simp] theorem upStop_kept (s : State) : kept (upStop s) = kept s := by simp [upStop]
@[simp] theorem upBanks_kept (s : State) : kept (upBanks s) = kept s := by simp [upBanks]
@[simp] theorem upAtomics_kept (s : State) : kept (upAtomics s) = kept s := by simp [upAtomics]
@[simp] theorem upPaired_kept (s : State) : kept (upPaired s) = kept s := by simp [upPaired]
@[simp] theorem upDirects_kept (s : State) : kept (upDirects s) = kept s := by simp [upDirects]
@[simp] theorem upCancels_kept (s : State) : kept (upCancels s) = kept s := by simp [upCancels]
@[simp] theorem upRampSet_kept (s : State) : kept (upRampSet s) = kept s := by simp [upRampSet]
@[simp] theorem upRamps_kept (s : State) : kept (upRamps s) = kept s := by simp [upRamps]
@[simp] theorem updates_kept (s : State) : kept (updates s) = kept s := by simp [updates]
theorem execCoefficientChunkApply_kept (s : State) : ∀ u, execCoefficientChunkApply s = .next u → kept u = kept s := by
  intro u h
  unfold execCoefficientChunkApply at h
  rw [Host.Outcome.next.injEq] at h
  rw [← h]
  simp
theorem execEngineStopped_kept (s : State) : ∀ u, execEngineStopped s = .next u → kept u = kept s := by
  intro u h
  unfold execEngineStopped at h
  rw [Host.Outcome.next.injEq] at h
  rw [← h]
  simp
theorem execEngineStarted_kept (s : State) : ∀ u, execEngineStarted s = .next u → kept u = kept s := by
  intro u h
  unfold execEngineStarted at h
  rw [Host.Outcome.next.injEq] at h
  rw [← h]
  simp
theorem execSwapBegin_kept (s : State) : ∀ u, execSwapBegin s = .next u → kept u = kept s := by
  intro u h
  unfold execSwapBegin at h
  rw [Host.Outcome.next.injEq] at h
  rw [← h]
  simp
theorem execSwapDone_kept (s : State) : ∀ u, execSwapDone s = .next u → kept u = kept s := by
  intro u h
  unfold execSwapDone at h
  rw [Host.Outcome.next.injEq] at h
  rw [← h]
  simp
theorem execAtomicSetApply_kept (s : State) : ∀ u, execAtomicSetApply s = .next u → kept u = kept s := by
  intro u h
  unfold execAtomicSetApply at h
  rw [Host.Outcome.next.injEq] at h
  rw [← h]
  refine atNext_kept _ _ ?_
  intro s
  split
  · rfl
  · dsimp only
    split <;> simp
theorem execPairedQuantityApply_kept (s : State) : ∀ u, execPairedQuantityApply s = .next u → kept u = kept s := by
  intro u h
  unfold execPairedQuantityApply at h
  rw [Host.Outcome.next.injEq] at h
  rw [← h]
  simp
theorem execDirectWriteApply_kept (s : State) : ∀ u, execDirectWriteApply s = .next u → kept u = kept s := by
  intro u h
  unfold execDirectWriteApply at h
  rw [Host.Outcome.next.injEq] at h
  rw [← h]
  refine atNext_kept _ _ ?_
  intro s
  split
  · rfl
  · dsimp only
    split <;> simp
theorem execRampCancelApply_kept (s : State) : ∀ u, execRampCancelApply s = .next u → kept u = kept s := by
  intro u h
  unfold execRampCancelApply at h
  rw [Host.Outcome.next.injEq] at h
  rw [← h]
  simp
theorem execRampSetApply_kept (s : State) : ∀ u, execRampSetApply s = .next u → kept u = kept s := by
  intro u h
  unfold execRampSetApply at h
  rw [Host.Outcome.next.injEq] at h
  rw [← h]
  simp
theorem execRampInstall_kept (s : State) : ∀ u, execRampInstall s = .next u → kept u = kept s := by
  intro u h
  unfold execRampInstall at h
  rw [Host.Outcome.next.injEq] at h
  rw [← h]
  simp
theorem execRampDone_kept (i : Fin 1024) (s : State) : ∀ u, execRampDone i s = .next u → kept u = kept s := by
  intro u h
  unfold execRampDone at h
  rw [Host.Outcome.next.injEq] at h
  rw [← h]
  simp
@[simp] theorem sdOverdue_kept (s : State) : kept (sdOverdue s) = kept s := by
  unfold sdOverdue
  split <;> simp
@[simp] theorem replayMissed_kept (s : State) : kept (replayMissed s) = kept s := by
  unfold replayMissed
  split <;> simp
@[simp] theorem closeSp_kept (s : State) : kept (closeSp s) = kept s := by simp [closeSp]
@[simp] theorem turn_kept (s : State) : kept (turn s) = kept s := by simp [turn]
@[simp] theorem curveStep_kept (s : State) : kept (curveStep s) = kept s := by simp [curveStep]
@[simp] theorem takeHit_kept (s : State) (h : ScrubHit) : kept (takeHit s h) = kept s := by simp [takeHit]
@[simp] theorem gateSap_kept (s : State) (n : Nat) : kept (gateSap s n) = kept s := by simp [gateSap]
@[simp] theorem gatePsc_kept (s : State) : kept (gatePsc s) = kept s := by simp [gatePsc]
@[simp] theorem gateUnits_kept (s : State) : kept (gateUnits s) = kept s := by simp [gateUnits]
@[simp] theorem refreshGates_kept (s : State) : kept (refreshGates s) = kept s := by simp [refreshGates]
@[simp] theorem pressBoundary_kept (s : State) (hits : List ScrubHit) : kept (pressBoundary s hits) = kept s := by simp [pressBoundary]
@[simp] theorem sinkRead_kept (s : State) : kept (sinkRead s) = kept s := by simp [sinkRead]
@[simp] theorem captureImage_kept (s : State) : kept (captureImage s) = kept s := by simp [captureImage]
@[simp] theorem inputWrite_kept (s : State) : kept (inputWrite s) = kept s := by simp [inputWrite]
@[simp] theorem meterBoundary_kept (s : State) : kept (meterBoundary s) = kept s := by simp [meterBoundary]
@[simp] theorem takeSinks_kept (s : State) : kept (takeSinks s) = kept s := by simp [takeSinks]
@[simp] theorem takeInputs_kept (s : State) : kept (takeInputs s) = kept s := by simp [takeInputs]
@[simp] theorem faultAbort_kept (s : State) : kept (faultAbort s) = kept s := by simp [faultAbort]
@[simp] theorem prune_kept (s : State) : kept (prune s) = kept s := by simp [prune]
@[simp] theorem pairBoundary_kept (s : State) : kept (pairBoundary s) = kept s := by simp [pairBoundary]
@[simp] theorem window_kept (s : State) (hits : List ScrubHit) : kept (window s hits) = kept s := by simp [window]
theorem execSpHeartbeatTimeout_kept (s : State) : ∀ u, execSpHeartbeatTimeout s = .next u → kept u = kept s := by
  intro u h
  unfold execSpHeartbeatTimeout at h
  split at h <;> (rw [Host.Outcome.next.injEq] at h; rw [← h]) <;> simp
@[simp] theorem postPtr_kept (s : State) (p t j n : Nat) (pm : Bool) : kept (postPtr s p t j n pm) = kept s := by simp [postPtr]
@[simp] theorem postCptr_kept (s : State) (p t j m : Nat) (cpm : Bool) : kept (postCptr s p t j m cpm) = kept s := by simp [postCptr]
@[simp] theorem readStateBy_kept (s : State) (p t j n : Nat) (disp : BitVec 8) (pm : Bool) : kept (readStateBy s p t j n disp pm) = kept s := by simp [readStateBy]
@[simp] theorem xPost_kept (s : State) (h : Issue) (t j : Nat) (x : XOp) : kept (xPost s h t j x) = kept s := by
  unfold xPost
  split <;> simp
@[simp] theorem noteCoef_kept (s : State) (p b j m : Nat) (disp : BitVec 8) : kept (noteCoef s p b j m disp) = kept s := by simp [noteCoef]
@[simp] theorem cPost_kept (s : State) (h : Issue) (t j : Nat) (c : COp) : kept (cPost s h t j c) = kept s := by
  unfold cPost
  split <;> simp
theorem execNop_kept (h : Issue) (s : State) : ∀ u, execNop h s = .next u → kept u = kept s := by
  intro u h
  unfold execNop at h
  rw [Host.Outcome.next.injEq] at h
  rw [← h]
  simp
theorem execVli_kept (h : Issue) (d : Fin 16) (imm : Word) (s : State) : ∀ u, execVli h d imm s = .next u → kept u = kept s := by
  intro u h
  unfold execVli at h
  rw [Host.Outcome.next.injEq] at h
  rw [← h]
  simp
theorem execMov_kept (h : Issue) (d a : Fin 16) (s : State) : ∀ u, execMov h d a s = .next u → kept u = kept s := by
  intro u h
  unfold execMov at h
  rw [Host.Outcome.next.injEq] at h
  rw [← h]
  simp
theorem execLaneid_kept (h : Issue) (d : Fin 16) (s : State) : ∀ u, execLaneid h d s = .next u → kept u = kept s := by
  intro u h
  unfold execLaneid at h
  rw [Host.Outcome.next.injEq] at h
  rw [← h]
  simp
theorem execPset_kept (h : Issue) (n : Fin 8) (base : BitVec 15) (len ofs : BitVec 16) (s : State) : ∀ u, execPset h n base len ofs s = .next u → kept u = kept s := by
  intro u h
  unfold execPset at h
  rw [Host.Outcome.next.injEq] at h
  rw [← h]
  simp
theorem execPpos_kept (h : Issue) (n : Fin 8) (value : BitVec 15) (s : State) : ∀ u, execPpos h n value s = .next u → kept u = kept s := by
  intro u h
  unfold execPpos at h
  rw [Host.Outcome.next.injEq] at h
  rw [← h]
  simp
theorem execCset_kept (h : Issue) (n : Fin 4) (cptr : BitVec 11) (cofs : BitVec 12) (s : State) : ∀ u, execCset h n cptr cofs s = .next u → kept u = kept s := by
  intro u h
  unfold execCset at h
  rw [Host.Outcome.next.injEq] at h
  rw [← h]
  simp
theorem execMset_kept (h : Issue) (pd : Fin 4) (imm : Word) (s : State) : ∀ u, execMset h pd imm s = .next u → kept u = kept s := by
  intro u h
  unfold execMset at h
  rw [Host.Outcome.next.injEq] at h
  rw [← h]
  simp
theorem execMlog_kept (h : Issue) (pd pa pb : Fin 4) (op : LogOp) (s : State) : ∀ u, execMlog h pd pa pb op s = .next u → kept u = kept s := by
  intro u h
  unfold execMlog at h
  rw [Host.Outcome.next.injEq] at h
  rw [← h]
  simp
@[simp] theorem setSrch_kept (s : State) (p t j : Nat) (x : Srch) : kept (setSrch s p t j x) = kept s := by simp [setSrch]
theorem execSrinit_kept (h : Issue) (minimum : Bool) (s : State) : ∀ u, execSrinit h minimum s = .next u → kept u = kept s := by
  intro u h
  unfold execSrinit at h
  rw [Host.Outcome.next.injEq] at h
  rw [← h]
  simp
theorem execRds_kept (h : Issue) (d : Fin 16) (index : Bool) (s : State) : ∀ u, execRds h d index s = .next u → kept u = kept s := by
  intro u h
  unfold execRds at h
  rw [Host.Outcome.next.injEq] at h
  rw [← h]
  simp
theorem execRep_kept (h : Issue) (count : BitVec 16) (s : State) : ∀ u, execRep h count s = .next u → kept u = kept s := by
  intro u h
  unfold execRep at h
  rw [Host.Outcome.next.injEq] at h
  rw [← h]
  simp
theorem execRepEnd_kept (h : Issue) (s : State) : ∀ u, execRepEnd h s = .next u → kept u = kept s := by
  intro u h
  unfold execRepEnd at h
  rw [Host.Outcome.next.injEq] at h
  rw [← h]
  simp
theorem execNorm_kept (h : Issue) (d : Fin 16) (la seg : Fin 4) (s : State) : ∀ u, execNorm h d la seg s = .next u → kept u = kept s := by
  intro u h
  unfold execNorm at h
  rw [Host.Outcome.next.injEq] at h
  rw [← h]
  simp
theorem execExpx_kept (h : Issue) (d a : Fin 16) (s : State) : ∀ u, execExpx h d a s = .next u → kept u = kept s := by
  intro u h
  unfold execExpx at h
  rw [Host.Outcome.next.injEq] at h
  rw [← h]
  simp
@[simp] theorem setLa_kept (s : State) (p t j : Nat) (k : Fin 4) (x : Acc) : kept (setLa s p t j k x) = kept s := by simp [setLa]
@[simp] theorem accumulate_kept (s : State) (p t j : Nat) (k : Fin 4) (x : Ex) : kept (accumulate s p t j k x) = kept s := by simp [accumulate]
theorem execMac_kept (h : Issue) (la : Fin 4) (x : XOp) (c : COp) (s : State) : ∀ u, execMac h la x c s = .next u → kept u = kept s := by
  intro u h
  unfold execMac at h
  rw [Host.Outcome.next.injEq] at h
  rw [← h]
  simp
theorem execXmac_kept (h : Issue) (la : Fin 4) (x : XOp) (m : Fin 4) (disp : BitVec 8) (cpm : Bool) (s : State) : ∀ u, execXmac h la x m disp cpm s = .next u → kept u = kept s := by
  intro u h
  unfold execXmac at h
  rw [Host.Outcome.next.injEq] at h
  rw [← h]
  simp
theorem execAadd_kept (h : Issue) (la : Fin 4) (x : XOp) (s : State) : ∀ u, execAadd h la x s = .next u → kept u = kept s := by
  intro u h
  unfold execAadd at h
  rw [Host.Outcome.next.injEq] at h
  rw [← h]
  simp
theorem execAclr_kept (h : Issue) (la : Fin 4) (s : State) : ∀ u, execAclr h la s = .next u → kept u = kept s := by
  intro u h
  unfold execAclr at h
  rw [Host.Outcome.next.injEq] at h
  rw [← h]
  simp
theorem execArd_kept (h : Issue) (d : Fin 16) (la : Fin 4) (s : State) : ∀ u, execArd h d la s = .next u → kept u = kept s := by
  intro u h
  unfold execArd at h
  rw [Host.Outcome.next.injEq] at h
  rw [← h]
  simp
theorem execAins_kept (h : Issue) (la seg : Fin 4) (a b : Fin 16) (s : State) : ∀ u, execAins h la seg a b s = .next u → kept u = kept s := by
  intro u h
  unfold execAins at h
  rw [Host.Outcome.next.injEq] at h
  rw [← h]
  simp
@[simp] theorem searchLane_kept (s : State) (h : Issue) (t j l : Nat) (maximum : Bool) (x : XOp) (imm : BitVec 16) (istep lstep : BitVec 6) : kept (searchLane s h t j l maximum x imm istep lstep) = kept s := by simp [searchLane]
theorem execMinx_kept (h : Issue) (x : XOp) (imm : BitVec 16) (istep lstep : BitVec 6) (s : State) : ∀ u, execMinx h x imm istep lstep s = .next u → kept u = kept s := by
  intro u h
  unfold execMinx at h
  rw [Host.Outcome.next.injEq] at h
  rw [← h]
  simp
theorem execMaxx_kept (h : Issue) (x : XOp) (imm : BitVec 16) (istep lstep : BitVec 6) (s : State) : ∀ u, execMaxx h x imm istep lstep s = .next u → kept u = kept s := by
  intro u h
  unfold execMaxx at h
  rw [Host.Outcome.next.injEq] at h
  rw [← h]
  simp
theorem execXred_kept (h : Issue) (minimum : Bool) (s : State) : ∀ u, execXred h minimum s = .next u → kept u = kept s := by
  intro u e
  unfold execXred at e
  rw [Host.Outcome.next.injEq] at e
  rw [← e]
  refine issue_kept _ _ _ _ ?_
  intro s t m
  split
  · rfl
  · exact eachLane_kept _ _ _ _ (by simp)
@[simp] theorem clearPress_kept (s : State) (p : Nat) : kept (clearPress s p) = kept s := by simp [clearPress]
theorem execPressFaultClear_kept (c : Fin 8) (s : State) : ∀ u, execPressFaultClear c s = .next u → kept u = kept s := by
  intro u h
  unfold execPressFaultClear at h
  rw [Host.Outcome.next.injEq] at h
  rw [← h]
  simp
@[simp] theorem floatOp_kept (i : Instr) (h : Issue) (d : Fin 16) (s : State) (f : (Fin 16 → Word) → FR) : kept (floatOp i h d s f) = kept s := by simp [floatOp]
theorem execFadd_kept (h : Issue) (d a b : Fin 16) (s : State) : ∀ u, execFadd h d a b s = .next u → kept u = kept s := by
  intro u h
  unfold execFadd at h
  rw [Host.Outcome.next.injEq] at h
  rw [← h]
  simp
theorem execFsub_kept (h : Issue) (d a b : Fin 16) (s : State) : ∀ u, execFsub h d a b s = .next u → kept u = kept s := by
  intro u h
  unfold execFsub at h
  rw [Host.Outcome.next.injEq] at h
  rw [← h]
  simp
theorem execFmul_kept (h : Issue) (d a b : Fin 16) (s : State) : ∀ u, execFmul h d a b s = .next u → kept u = kept s := by
  intro u h
  unfold execFmul at h
  rw [Host.Outcome.next.injEq] at h
  rw [← h]
  simp
theorem execFma_kept (h : Issue) (d a b c : Fin 16) (s : State) : ∀ u, execFma h d a b c s = .next u → kept u = kept s := by
  intro u h
  unfold execFma at h
  rw [Host.Outcome.next.injEq] at h
  rw [← h]
  simp
theorem execFabs_kept (h : Issue) (d a : Fin 16) (s : State) : ∀ u, execFabs h d a s = .next u → kept u = kept s := by
  intro u h
  unfold execFabs at h
  rw [Host.Outcome.next.injEq] at h
  rw [← h]
  simp
theorem execFneg_kept (h : Issue) (d a : Fin 16) (s : State) : ∀ u, execFneg h d a s = .next u → kept u = kept s := by
  intro u h
  unfold execFneg at h
  rw [Host.Outcome.next.injEq] at h
  rw [← h]
  simp
theorem execFmin_kept (h : Issue) (d a b : Fin 16) (s : State) : ∀ u, execFmin h d a b s = .next u → kept u = kept s := by
  intro u h
  unfold execFmin at h
  rw [Host.Outcome.next.injEq] at h
  rw [← h]
  simp
theorem execFmax_kept (h : Issue) (d a b : Fin 16) (s : State) : ∀ u, execFmax h d a b s = .next u → kept u = kept s := by
  intro u h
  unfold execFmax at h
  rw [Host.Outcome.next.injEq] at h
  rw [← h]
  simp
theorem execLog2a_kept (h : Issue) (d a : Fin 16) (s : State) : ∀ u, execLog2a h d a s = .next u → kept u = kept s := by
  intro u h
  unfold execLog2a at h
  rw [Host.Outcome.next.injEq] at h
  rw [← h]
  simp
theorem execExp2a_kept (h : Issue) (d a : Fin 16) (s : State) : ∀ u, execExp2a h d a s = .next u → kept u = kept s := by
  intro u h
  unfold execExp2a at h
  rw [Host.Outcome.next.injEq] at h
  rw [← h]
  simp
theorem execRcpa_kept (h : Issue) (d a : Fin 16) (s : State) : ∀ u, execRcpa h d a s = .next u → kept u = kept s := by
  intro u h
  unfold execRcpa at h
  rw [Host.Outcome.next.injEq] at h
  rw [← h]
  simp
theorem execRsqa_kept (h : Issue) (d a : Fin 16) (s : State) : ∀ u, execRsqa h d a s = .next u → kept u = kept s := by
  intro u h
  unfold execRsqa at h
  rw [Host.Outcome.next.injEq] at h
  rw [← h]
  simp
theorem execFcmp_kept (h : Issue) (pd : Fin 4) (a b : Fin 16) (rel : Rel) (s : State) : ∀ u, execFcmp h pd a b rel s = .next u → kept u = kept s := by
  intro u h
  unfold execFcmp at h
  rw [Host.Outcome.next.injEq] at h
  rw [← h]
  simp
theorem execFsel_kept (h : Issue) (d a b : Fin 16) (pd : Fin 4) (s : State) : ∀ u, execFsel h d a b pd s = .next u → kept u = kept s := by
  intro u h
  unfold execFsel at h
  rw [Host.Outcome.next.injEq] at h
  rw [← h]
  simp
theorem execLd_kept (h : Issue) (d : Fin 16) (n : Fin 8) (disp : BitVec 8) (pm : Bool) (s : State) : ∀ u, execLd h d n disp pm s = .next u → kept u = kept s := by
  intro u h
  unfold execLd at h
  rw [Host.Outcome.next.injEq] at h
  rw [← h]
  simp
theorem execSt_kept (h : Issue) (a : Fin 16) (n : Fin 8) (disp : BitVec 8) (pm : Bool) (s : State) : ∀ u, execSt h a n disp pm s = .next u → kept u = kept s := by
  intro u h
  unfold execSt at h
  rw [Host.Outcome.next.injEq] at h
  rw [← h]
  simp
theorem execLdc_kept (h : Issue) (d : Fin 16) (m : Fin 4) (disp : BitVec 8) (cpm : Bool) (s : State) : ∀ u, execLdc h d m disp cpm s = .next u → kept u = kept s := by
  intro u h
  unfold execLdc at h
  rw [Host.Outcome.next.injEq] at h
  rw [← h]
  simp
theorem execLdx_kept (h : Issue) (d : Fin 16) (a : BitVec 14) (s : State) : ∀ u, execLdx h d a s = .next u → kept u = kept s := by
  intro u h
  unfold execLdx at h
  rw [Host.Outcome.next.injEq] at h
  rw [← h]
  simp
@[simp] theorem pushStx_kept (s : State) (p t a : Nat) (w : Word) : kept (pushStx s p t a w) = kept s := by simp [pushStx]
@[simp] theorem storeArea_kept (s : State) (p a : Nat) (r : Fin 16) (ls : List Nat) : kept (storeArea s p a r ls) = kept s := by simp [storeArea]
@[simp] theorem noteStore_kept (s : State) (p k : Nat) (ls : List Nat) (addr : Nat → Nat → Nat) (data : Nat → Word) : kept (noteStore s p k ls addr data) = kept s := by simp [noteStore]
theorem execStx_kept (h : Issue) (a : Fin 16) (vec : Bool) (lane : Fin 32) (xaddr : BitVec 14) (s : State) : ∀ u, execStx h a vec lane xaddr s = .next u → kept u = kept s := by
  intro u h
  unfold execStx at h
  rw [Host.Outcome.next.injEq] at h
  rw [← h]
  simp
theorem execLdd_kept (h : Issue) (d tr : Fin 16) (lg : Fin 4) (pk : Bool) (rs : BitVec 5) (rb : BitVec 22) (s : State) : ∀ u, execLdd h d tr lg pk rs rb s = .next u → kept u = kept s := by
  intro u h
  unfold execLdd at h
  rw [Host.Outcome.next.injEq] at h
  rw [← h]
  simp
@[simp] theorem pushSample_kept (s : State) (p t : Nat) (pk : Bool) (x : Nat × Nat) (w : Word) : kept (pushSample s p t pk x w) = kept s := by simp [pushSample]
theorem execStd_kept (h : Issue) (a tr : Fin 16) (lg : Fin 4) (pk : Bool) (rs : BitVec 5) (rb : BitVec 22) (s : State) : ∀ u, execStd h a tr lg pk rs rb s = .next u → kept u = kept s := by
  intro u h
  unfold execStd at h
  rw [Host.Outcome.next.injEq] at h
  rw [← h]
  simp
theorem execStm_kept (h : Issue) (a : Fin 16) (vec : Bool) (lane : Fin 32) (srch : Bool) (maddr : BitVec 14) (s : State) : ∀ u, execStm h a vec lane srch maddr s = .next u → kept u = kept s := by
  intro u h
  unfold execStm at h
  rw [Host.Outcome.next.injEq] at h
  rw [← h]
  simp
@[simp] theorem takeArp_kept (s : State) (p : Nat) (b : List Byte) : kept (takeArp s p b) = kept s := by simp [takeArp]
@[simp] theorem takeIcmp_kept (s : State) (p src : Nat) (b : List Byte) : kept (takeIcmp s p src b) = kept s := by simp [takeIcmp]
@[simp] theorem takeIgmp_kept (s : State) (p : Nat) (b : List Byte) : kept (takeIgmp s p b) = kept s := by simp [takeIgmp]
@[simp] theorem toCp_kept (s : State) (p : Nat) (f : State → State) (hf : ∀ (s : State), kept (f s) = kept s) : kept (toCp s p f) = kept s := by simp [toCp, hf]
@[simp] theorem takePtp_kept (s : State) (p port c : Nat) (m : List Byte) : kept (takePtp s p port c m) = kept s := by
  unfold takePtp
  dsimp only
  split <;> simp
@[simp] theorem hsAct_kept (code : Nat) (s : State) (l : Link) (p : List Byte) : kept (hsAct code s l p) = kept s := by simp [hsAct]
@[simp] theorem takePairFrame_kept (s : State) (k c : Nat) (x : PairFrame) : kept (takePairFrame s k c x) = kept s := by
  unfold takePairFrame
  split <;> (apply pairDeliver_kept; intros; simp)
@[simp] theorem takeFromWitness_kept (s : State) (type : Nat) (m : OmMsg) : kept (takeFromWitness s type m) = kept s := by
  unfold takeFromWitness
  split
  · split <;> simp
  · apply omDeliver_kept
    intros
    split <;> simp
@[simp] theorem takeFromNode_kept (s : State) (j : Fin 64) (type : Nat) (m : OmMsg) : kept (takeFromNode s j type m) = kept s := by
  unfold takeFromNode
  split
  · split <;> simp
  · apply witDeliver_kept
    intros
    simp
@[simp] theorem takeOmzor_kept (s : State) (p : Nat) (b : List Byte) : kept (takeOmzor s p b) = kept s := by
  unfold takeOmzor
  dsimp only
  (repeat' split) <;> simp_all
@[simp] theorem classifyUdp_kept (s : State) (p c : Nat) (b : List Byte) : kept (classifyUdp s p c b) = kept s := by
  unfold classifyUdp
  dsimp only
  split <;> simp
@[simp] theorem classify_kept (s : State) (p c src : Nat) (x : RxParts) : kept (classify s p c src x) = kept s := by
  unfold classify
  (repeat' split) <;> simp_all
@[simp] theorem receive_kept (s : State) (p c : Nat) (b : List Byte) (bad full : Bool) : kept (receive s p c b bad full) = kept s := by simp [receive]

end Sys2Proof.Machine
end

