-- ==== Sys2Proof/Laws/Memory.lean ====
section
/-! SUPPORT. Sparse memories: a read after a write, and the canonical form that every operation keeps. -/

namespace Sys2Proof.Machine

theorem memGet_filter_ne {w : Nat} (m : Cells w) (a : Nat) (b : Nat) (h : b ≠ a) :
    memGet (m.filter (fun c => c.1 != a)) b = memGet m b := by
  induction m with
  | nil => rfl
  | cons c t ih =>
    by_cases hc : c.1 = a
    · have hb : c.1 ≠ b := fun e => h (e.symm.trans hc)
      simp [memGet, hc, ih, Ne.symm h]
    · simp only [List.filter_cons, bne_iff_ne, ne_eq, hc, not_false_eq_true, if_true, memGet, ih]

theorem memGet_filter_eq {w : Nat} (m : Cells w) (a : Nat) : memGet (m.filter (fun c => c.1 != a)) a = 0 := by
  induction m with
  | nil => rfl
  | cons c t ih =>
    by_cases hc : c.1 = a
    · simp [hc, ih]
    · simp only [List.filter_cons, bne_iff_ne, ne_eq, hc, not_false_eq_true, if_true, memGet, if_false, ih]

theorem memGet_memIns {w : Nat} (m : Cells w) (a : Nat) (v : BitVec w) (b : Nat) (h : ∀ c ∈ m, c.1 ≠ a) :
    memGet (memIns m a v) b = if a = b then v else memGet m b := by
  induction m with
  | nil => simp [memIns, memGet]
  | cons c t ih =>
    have hc : c.1 ≠ a := h c (by simp)
    have ht := ih (fun d hd => h d (by simp [hd]))
    simp only [memIns]
    split
    · simp [memGet]
    · simp only [memGet, ht]
      by_cases hab : a = b
      · subst hab
        simp [hc]
      · simp [hab]

/-- A read after a write. -/
theorem memGet_memSet {w : Nat} (m : Cells w) (a : Nat) (v : BitVec w) (b : Nat) :
    memGet (memSet m a v) b = if a = b then v else memGet m b := by
  unfold memSet
  by_cases hv : v = 0
  · by_cases hab : a = b
    · subst hab
      simp [hv, memGet_filter_eq]
    · simp [hv, hab, memGet_filter_ne m a b (Ne.symm hab)]
  · simp only [hv, if_false]
    rw [memGet_memIns _ _ _ _ (by simp)]
    by_cases hab : a = b
    · simp [hab]
    · simp [hab, memGet_filter_ne m a b (Ne.symm hab)]

@[simp] theorem memGet_memSet_same {w : Nat} (m : Cells w) (a : Nat) (v : BitVec w) : memGet (memSet m a v) a = v := by
  simp [memGet_memSet]

theorem memGet_memSet_other {w : Nat} (m : Cells w) (a : Nat) (v : BitVec w) (b : Nat) (h : a ≠ b) :
    memGet (memSet m a v) b = memGet m b := by
  simp [memGet_memSet, h]

/-- A read after a write of consecutive addresses. -/
theorem memGet_memSetList {w : Nat} (l : List (BitVec w)) (m : Cells w) (a b : Nat) :
    memGet (memSetList m a l) b = if a ≤ b ∧ b < a + l.length then l.getD (b - a) 0 else memGet m b := by
  induction l generalizing m a with
  | nil => simp [memSetList]
  | cons v t ih =>
    simp only [memSetList, ih, memGet_memSet, List.length_cons]
    by_cases h1 : a = b
    · subst h1
      simp
    · by_cases h2 : a + 1 ≤ b ∧ b < a + 1 + t.length
      · have h3 : a ≤ b ∧ b < a + (t.length + 1) := by omega
        have h4 : b - a = (b - (a + 1)) + 1 := by omega
        rw [if_pos h2, if_pos h3, h4, List.getD_cons_succ]
      · have h3 : ¬ (a ≤ b ∧ b < a + (t.length + 1)) := by omega
        rw [if_neg h2, if_neg h3, if_neg h1]

/-- What was written is what the same range reads. -/
theorem memGetList_memSetList {w : Nat} (m : Cells w) (a : Nat) (l : List (BitVec w)) :
    memGetList (memSetList m a l) a l.length = l := by
  apply List.ext_getElem
  · simp [memGetList]
  · intro i h1 h2
    simp [memGetList, memGet_memSetList, h2]

/-- A range outside the one written reads as before. -/
theorem memGetList_memSetList_other {w : Nat} (m : Cells w) (a : Nat) (l : List (BitVec w)) (b n : Nat)
    (h : b + n ≤ a ∨ a + l.length ≤ b) : memGetList (memSetList m a l) b n = memGetList m b n := by
  unfold memGetList
  apply List.map_congr_left
  intro i hi
  have hi : i < n := by simpa using hi
  rw [memGet_memSetList, if_neg (by omega)]

/-! ### The canonical form -/

theorem memWf_filter {w : Nat} (m : Cells w) (p : Nat × BitVec w → Bool) (h : memWf m = true) : memWf (m.filter p) = true := by
  induction m with
  | nil => rfl
  | cons c t ih =>
    simp only [memWf, Bool.and_eq_true, List.all_eq_true, decide_eq_true_eq] at h
    obtain ⟨⟨h1, h2⟩, h3⟩ := h
    by_cases hp : p c = true
    · simp only [List.filter_cons, hp, if_true, memWf, Bool.and_eq_true, List.all_eq_true, decide_eq_true_eq]
      exact ⟨⟨h1, fun d hd => h2 d (List.mem_filter.mp hd).1⟩, ih h3⟩
    · simpa [hp] using ih h3

theorem memIns_mem {w : Nat} (m : Cells w) (a : Nat) (v : BitVec w) (d : Nat × BitVec w) (h : d ∈ memIns m a v) :
    d = (a, v) ∨ d ∈ m := by
  induction m with
  | nil => simpa [memIns] using h
  | cons c t ih =>
    simp only [memIns] at h
    split at h
    · simpa using h
    · rcases List.mem_cons.mp h with rfl | h
      · simp
      · rcases ih h with h | h <;> simp [h]

theorem memWf_memIns {w : Nat} (m : Cells w) (a : Nat) (v : BitVec w) (hv : v ≠ 0) (hm : memWf m = true) (ha : ∀ c ∈ m, c.1 ≠ a) :
    memWf (memIns m a v) = true := by
  induction m with
  | nil => simpa [memIns, memWf] using hv
  | cons c t ih =>
    simp only [memWf, Bool.and_eq_true, List.all_eq_true, decide_eq_true_eq] at hm
    obtain ⟨⟨h1, h2⟩, h3⟩ := hm
    have hc : c.1 ≠ a := ha c (by simp)
    simp only [memIns]
    split
    · rename_i hlt
      simp only [memWf, Bool.and_eq_true, List.all_eq_true, decide_eq_true_eq, List.mem_cons, bne_iff_ne, ne_eq]
      refine ⟨⟨hv, ?_⟩, ⟨⟨by simpa using h1, h2⟩, h3⟩⟩
      rintro d (rfl | hd)
      · exact hlt
      · exact lt_trans hlt (h2 d hd)
    · rename_i hlt
      simp only [memWf, Bool.and_eq_true, List.all_eq_true, decide_eq_true_eq]
      refine ⟨⟨h1, ?_⟩, ih h3 (fun d hd => ha d (by simp [hd]))⟩
      intro d hd
      rcases memIns_mem _ _ _ _ hd with rfl | hd
      · simp only
        omega
      · exact h2 d hd

/-- A write keeps the canonical form. -/
theorem memWf_memSet {w : Nat} (m : Cells w) (a : Nat) (v : BitVec w) (h : memWf m = true) : memWf (memSet m a v) = true := by
  unfold memSet
  split
  · exact memWf_filter _ _ h
  · rename_i hv
    exact memWf_memIns _ _ _ hv (memWf_filter _ _ h) (by simp)

theorem memWf_memSetList {w : Nat} (l : List (BitVec w)) (m : Cells w) (a : Nat) (h : memWf m = true) :
    memWf (memSetList m a l) = true := by
  induction l generalizing m a with
  | nil => exact h
  | cons v t ih => exact ih _ _ (memWf_memSet _ _ _ h)

@[simp] theorem memWf_nil {w : Nat} : memWf ([] : Cells w) = true := rfl

end Sys2Proof.Machine
end

