-- ==== Sys2Proof/Laws/State.lean ====
section
/-! SUPPORT. What the named updates of the state leave as it was: one lemma per field and update. -/

namespace Sys2Proof.Machine

@[simp] theorem setR_pending (s : State) (o : Nat) (w : Word) : (setR s o w).pending = s.pending := rfl
@[simp] theorem setR_out (s : State) (o : Nat) (w : Word) : (setR s o w).out = s.out := rfl
@[simp] theorem setR_free (s : State) (o : Nat) (w : Word) : (setR s o w).free = s.free := rfl
@[simp] theorem setR_sctr (s : State) (o : Nat) (w : Word) : (setR s o w).sctr = s.sctr := rfl
@[simp] theorem setR_log (s : State) (o : Nat) (w : Word) : (setR s o w).log = s.log := rfl
@[simp] theorem setR_cp (s : State) (o : Nat) (w : Word) : (setR s o w).cp = s.cp := rfl
@[simp] theorem setR_host (s : State) (o : Nat) (w : Word) : (setR s o w).host = s.host := rfl
@[simp] theorem setR_clock (s : State) (o : Nat) (w : Word) : (setR s o w).clock = s.clock := rfl
@[simp] theorem setR_dsp (s : State) (o : Nat) (w : Word) : (setR s o w).dsp = s.dsp := rfl
@[simp] theorem setR_eng (s : State) (o : Nat) (w : Word) : (setR s o w).eng = s.eng := rfl
@[simp] theorem setR_net (s : State) (o : Nat) (w : Word) : (setR s o w).net = s.net := rfl
@[simp] theorem setR_sec (s : State) (o : Nat) (w : Word) : (setR s o w).sec = s.sec := rfl
@[simp] theorem setR_pm (s : State) (o : Nat) (w : Word) : (setR s o w).pm = s.pm := rfl
@[simp] theorem setR_sap (s : State) (o : Nat) (w : Word) : (setR s o w).sap = s.sap := rfl
@[simp] theorem setR_conv (s : State) (o : Nat) (w : Word) : (setR s o w).conv = s.conv := rfl
@[simp] theorem setR_paired (s : State) (o : Nat) (w : Word) : (setR s o w).paired = s.paired := rfl
@[simp] theorem setR_psc (s : State) (o : Nat) (w : Word) : (setR s o w).psc = s.psc := rfl
@[simp] theorem setR_pair (s : State) (o : Nat) (w : Word) : (setR s o w).pair = s.pair := rfl
@[simp] theorem setR_wit (s : State) (o : Nat) (w : Word) : (setR s o w).wit = s.wit := rfl
@[simp] theorem setR_rs (s : State) (o : Nat) (w : Word) : (setR s o w).rs = s.rs := rfl
@[simp] theorem setR_tw (s : State) (o : Nat) (w : Word) : (setR s o w).tw = s.tw := rfl

@[simp] theorem setF_pending (s : State) (f : Fld) (v : Nat) : (setF s f v).pending = s.pending := rfl
@[simp] theorem setF_out (s : State) (f : Fld) (v : Nat) : (setF s f v).out = s.out := rfl
@[simp] theorem setF_free (s : State) (f : Fld) (v : Nat) : (setF s f v).free = s.free := rfl
@[simp] theorem setF_sctr (s : State) (f : Fld) (v : Nat) : (setF s f v).sctr = s.sctr := rfl
@[simp] theorem setF_log (s : State) (f : Fld) (v : Nat) : (setF s f v).log = s.log := rfl
@[simp] theorem setF_cp (s : State) (f : Fld) (v : Nat) : (setF s f v).cp = s.cp := rfl
@[simp] theorem setF_host (s : State) (f : Fld) (v : Nat) : (setF s f v).host = s.host := rfl
@[simp] theorem setF_clock (s : State) (f : Fld) (v : Nat) : (setF s f v).clock = s.clock := rfl
@[simp] theorem setF_dsp (s : State) (f : Fld) (v : Nat) : (setF s f v).dsp = s.dsp := rfl
@[simp] theorem setF_eng (s : State) (f : Fld) (v : Nat) : (setF s f v).eng = s.eng := rfl
@[simp] theorem setF_net (s : State) (f : Fld) (v : Nat) : (setF s f v).net = s.net := rfl
@[simp] theorem setF_sec (s : State) (f : Fld) (v : Nat) : (setF s f v).sec = s.sec := rfl
@[simp] theorem setF_pm (s : State) (f : Fld) (v : Nat) : (setF s f v).pm = s.pm := rfl
@[simp] theorem setF_sap (s : State) (f : Fld) (v : Nat) : (setF s f v).sap = s.sap := rfl
@[simp] theorem setF_conv (s : State) (f : Fld) (v : Nat) : (setF s f v).conv = s.conv := rfl
@[simp] theorem setF_paired (s : State) (f : Fld) (v : Nat) : (setF s f v).paired = s.paired := rfl
@[simp] theorem setF_psc (s : State) (f : Fld) (v : Nat) : (setF s f v).psc = s.psc := rfl
@[simp] theorem setF_pair (s : State) (f : Fld) (v : Nat) : (setF s f v).pair = s.pair := rfl
@[simp] theorem setF_wit (s : State) (f : Fld) (v : Nat) : (setF s f v).wit = s.wit := rfl
@[simp] theorem setF_rs (s : State) (f : Fld) (v : Nat) : (setF s f v).rs = s.rs := rfl
@[simp] theorem setF_tw (s : State) (f : Fld) (v : Nat) : (setF s f v).tw = s.tw := rfl

@[simp] theorem putF_pending (s : State) (f : Fld) (b : Bool) : (putF s f b).pending = s.pending := rfl
@[simp] theorem putF_out (s : State) (f : Fld) (b : Bool) : (putF s f b).out = s.out := rfl
@[simp] theorem putF_free (s : State) (f : Fld) (b : Bool) : (putF s f b).free = s.free := rfl
@[simp] theorem putF_sctr (s : State) (f : Fld) (b : Bool) : (putF s f b).sctr = s.sctr := rfl
@[simp] theorem putF_log (s : State) (f : Fld) (b : Bool) : (putF s f b).log = s.log := rfl
@[simp] theorem putF_cp (s : State) (f : Fld) (b : Bool) : (putF s f b).cp = s.cp := rfl
@[simp] theorem putF_host (s : State) (f : Fld) (b : Bool) : (putF s f b).host = s.host := rfl
@[simp] theorem putF_clock (s : State) (f : Fld) (b : Bool) : (putF s f b).clock = s.clock := rfl
@[simp] theorem putF_dsp (s : State) (f : Fld) (b : Bool) : (putF s f b).dsp = s.dsp := rfl
@[simp] theorem putF_eng (s : State) (f : Fld) (b : Bool) : (putF s f b).eng = s.eng := rfl
@[simp] theorem putF_net (s : State) (f : Fld) (b : Bool) : (putF s f b).net = s.net := rfl
@[simp] theorem putF_sec (s : State) (f : Fld) (b : Bool) : (putF s f b).sec = s.sec := rfl
@[simp] theorem putF_pm (s : State) (f : Fld) (b : Bool) : (putF s f b).pm = s.pm := rfl
@[simp] theorem putF_sap (s : State) (f : Fld) (b : Bool) : (putF s f b).sap = s.sap := rfl
@[simp] theorem putF_conv (s : State) (f : Fld) (b : Bool) : (putF s f b).conv = s.conv := rfl
@[simp] theorem putF_paired (s : State) (f : Fld) (b : Bool) : (putF s f b).paired = s.paired := rfl
@[simp] theorem putF_psc (s : State) (f : Fld) (b : Bool) : (putF s f b).psc = s.psc := rfl
@[simp] theorem putF_pair (s : State) (f : Fld) (b : Bool) : (putF s f b).pair = s.pair := rfl
@[simp] theorem putF_wit (s : State) (f : Fld) (b : Bool) : (putF s f b).wit = s.wit := rfl
@[simp] theorem putF_rs (s : State) (f : Fld) (b : Bool) : (putF s f b).rs = s.rs := rfl
@[simp] theorem putF_tw (s : State) (f : Fld) (b : Bool) : (putF s f b).tw = s.tw := rfl

@[simp] theorem bump_pending (s : State) (o n : Nat) : (bump s o n).pending = s.pending := rfl
@[simp] theorem bump_out (s : State) (o n : Nat) : (bump s o n).out = s.out := rfl
@[simp] theorem bump_free (s : State) (o n : Nat) : (bump s o n).free = s.free := rfl
@[simp] theorem bump_sctr (s : State) (o n : Nat) : (bump s o n).sctr = s.sctr := rfl
@[simp] theorem bump_log (s : State) (o n : Nat) : (bump s o n).log = s.log := rfl
@[simp] theorem bump_cp (s : State) (o n : Nat) : (bump s o n).cp = s.cp := rfl
@[simp] theorem bump_host (s : State) (o n : Nat) : (bump s o n).host = s.host := rfl
@[simp] theorem bump_clock (s : State) (o n : Nat) : (bump s o n).clock = s.clock := rfl
@[simp] theorem bump_dsp (s : State) (o n : Nat) : (bump s o n).dsp = s.dsp := rfl
@[simp] theorem bump_eng (s : State) (o n : Nat) : (bump s o n).eng = s.eng := rfl
@[simp] theorem bump_net (s : State) (o n : Nat) : (bump s o n).net = s.net := rfl
@[simp] theorem bump_sec (s : State) (o n : Nat) : (bump s o n).sec = s.sec := rfl
@[simp] theorem bump_pm (s : State) (o n : Nat) : (bump s o n).pm = s.pm := rfl
@[simp] theorem bump_sap (s : State) (o n : Nat) : (bump s o n).sap = s.sap := rfl
@[simp] theorem bump_conv (s : State) (o n : Nat) : (bump s o n).conv = s.conv := rfl
@[simp] theorem bump_paired (s : State) (o n : Nat) : (bump s o n).paired = s.paired := rfl
@[simp] theorem bump_psc (s : State) (o n : Nat) : (bump s o n).psc = s.psc := rfl
@[simp] theorem bump_pair (s : State) (o n : Nat) : (bump s o n).pair = s.pair := rfl
@[simp] theorem bump_wit (s : State) (o n : Nat) : (bump s o n).wit = s.wit := rfl
@[simp] theorem bump_rs (s : State) (o n : Nat) : (bump s o n).rs = s.rs := rfl
@[simp] theorem bump_tw (s : State) (o n : Nat) : (bump s o n).tw = s.tw := rfl

@[simp] theorem emit_pending (s : State) (o : Out) : (emit s o).pending = s.pending := rfl
@[simp] theorem emit_free (s : State) (o : Out) : (emit s o).free = s.free := rfl
@[simp] theorem emit_sctr (s : State) (o : Out) : (emit s o).sctr = s.sctr := rfl
@[simp] theorem emit_regs (s : State) (o : Out) : (emit s o).regs = s.regs := rfl
@[simp] theorem emit_log (s : State) (o : Out) : (emit s o).log = s.log := rfl
@[simp] theorem emit_cp (s : State) (o : Out) : (emit s o).cp = s.cp := rfl
@[simp] theorem emit_host (s : State) (o : Out) : (emit s o).host = s.host := rfl
@[simp] theorem emit_clock (s : State) (o : Out) : (emit s o).clock = s.clock := rfl
@[simp] theorem emit_dsp (s : State) (o : Out) : (emit s o).dsp = s.dsp := rfl
@[simp] theorem emit_eng (s : State) (o : Out) : (emit s o).eng = s.eng := rfl
@[simp] theorem emit_net (s : State) (o : Out) : (emit s o).net = s.net := rfl
@[simp] theorem emit_sec (s : State) (o : Out) : (emit s o).sec = s.sec := rfl
@[simp] theorem emit_pm (s : State) (o : Out) : (emit s o).pm = s.pm := rfl
@[simp] theorem emit_sap (s : State) (o : Out) : (emit s o).sap = s.sap := rfl
@[simp] theorem emit_conv (s : State) (o : Out) : (emit s o).conv = s.conv := rfl
@[simp] theorem emit_paired (s : State) (o : Out) : (emit s o).paired = s.paired := rfl
@[simp] theorem emit_psc (s : State) (o : Out) : (emit s o).psc = s.psc := rfl
@[simp] theorem emit_pair (s : State) (o : Out) : (emit s o).pair = s.pair := rfl
@[simp] theorem emit_wit (s : State) (o : Out) : (emit s o).wit = s.wit := rfl
@[simp] theorem emit_rs (s : State) (o : Out) : (emit s o).rs = s.rs := rfl
@[simp] theorem emit_tw (s : State) (o : Out) : (emit s o).tw = s.tw := rfl

@[simp] theorem nextFree_pending (s : State) : (nextFree s).pending = s.pending := rfl
@[simp] theorem nextFree_out (s : State) : (nextFree s).out = s.out := rfl
@[simp] theorem nextFree_sctr (s : State) : (nextFree s).sctr = s.sctr := rfl
@[simp] theorem nextFree_regs (s : State) : (nextFree s).regs = s.regs := rfl
@[simp] theorem nextFree_log (s : State) : (nextFree s).log = s.log := rfl
@[simp] theorem nextFree_cp (s : State) : (nextFree s).cp = s.cp := rfl
@[simp] theorem nextFree_host (s : State) : (nextFree s).host = s.host := rfl
@[simp] theorem nextFree_clock (s : State) : (nextFree s).clock = s.clock := rfl
@[simp] theorem nextFree_dsp (s : State) : (nextFree s).dsp = s.dsp := rfl
@[simp] theorem nextFree_eng (s : State) : (nextFree s).eng = s.eng := rfl
@[simp] theorem nextFree_net (s : State) : (nextFree s).net = s.net := rfl
@[simp] theorem nextFree_sec (s : State) : (nextFree s).sec = s.sec := rfl
@[simp] theorem nextFree_pm (s : State) : (nextFree s).pm = s.pm := rfl
@[simp] theorem nextFree_sap (s : State) : (nextFree s).sap = s.sap := rfl
@[simp] theorem nextFree_conv (s : State) : (nextFree s).conv = s.conv := rfl
@[simp] theorem nextFree_paired (s : State) : (nextFree s).paired = s.paired := rfl
@[simp] theorem nextFree_psc (s : State) : (nextFree s).psc = s.psc := rfl
@[simp] theorem nextFree_pair (s : State) : (nextFree s).pair = s.pair := rfl
@[simp] theorem nextFree_wit (s : State) : (nextFree s).wit = s.wit := rfl
@[simp] theorem nextFree_rs (s : State) : (nextFree s).rs = s.rs := rfl
@[simp] theorem nextFree_tw (s : State) : (nextFree s).tw = s.tw := rfl

@[simp] theorem nextFrees_pending (s : State) (n : Nat) : (nextFrees s n).pending = s.pending := rfl
@[simp] theorem nextFrees_out (s : State) (n : Nat) : (nextFrees s n).out = s.out := rfl
@[simp] theorem nextFrees_sctr (s : State) (n : Nat) : (nextFrees s n).sctr = s.sctr := rfl
@[simp] theorem nextFrees_regs (s : State) (n : Nat) : (nextFrees s n).regs = s.regs := rfl
@[simp] theorem nextFrees_log (s : State) (n : Nat) : (nextFrees s n).log = s.log := rfl
@[simp] theorem nextFrees_cp (s : State) (n : Nat) : (nextFrees s n).cp = s.cp := rfl
@[simp] theorem nextFrees_host (s : State) (n : Nat) : (nextFrees s n).host = s.host := rfl
@[simp] theorem nextFrees_clock (s : State) (n : Nat) : (nextFrees s n).clock = s.clock := rfl
@[simp] theorem nextFrees_dsp (s : State) (n : Nat) : (nextFrees s n).dsp = s.dsp := rfl
@[simp] theorem nextFrees_eng (s : State) (n : Nat) : (nextFrees s n).eng = s.eng := rfl
@[simp] theorem nextFrees_net (s : State) (n : Nat) : (nextFrees s n).net = s.net := rfl
@[simp] theorem nextFrees_sec (s : State) (n : Nat) : (nextFrees s n).sec = s.sec := rfl
@[simp] theorem nextFrees_pm (s : State) (n : Nat) : (nextFrees s n).pm = s.pm := rfl
@[simp] theorem nextFrees_sap (s : State) (n : Nat) : (nextFrees s n).sap = s.sap := rfl
@[simp] theorem nextFrees_conv (s : State) (n : Nat) : (nextFrees s n).conv = s.conv := rfl
@[simp] theorem nextFrees_paired (s : State) (n : Nat) : (nextFrees s n).paired = s.paired := rfl
@[simp] theorem nextFrees_psc (s : State) (n : Nat) : (nextFrees s n).psc = s.psc := rfl
@[simp] theorem nextFrees_pair (s : State) (n : Nat) : (nextFrees s n).pair = s.pair := rfl
@[simp] theorem nextFrees_wit (s : State) (n : Nat) : (nextFrees s n).wit = s.wit := rfl
@[simp] theorem nextFrees_rs (s : State) (n : Nat) : (nextFrees s n).rs = s.rs := rfl
@[simp] theorem nextFrees_tw (s : State) (n : Nat) : (nextFrees s n).tw = s.tw := rfl

@[simp] theorem setFn_pending (s : State) (f st : Nat) : (setFn s f st).pending = s.pending := rfl
@[simp] theorem setFn_out (s : State) (f st : Nat) : (setFn s f st).out = s.out := rfl
@[simp] theorem setFn_free (s : State) (f st : Nat) : (setFn s f st).free = s.free := rfl
@[simp] theorem setFn_sctr (s : State) (f st : Nat) : (setFn s f st).sctr = s.sctr := rfl
@[simp] theorem setFn_log (s : State) (f st : Nat) : (setFn s f st).log = s.log := rfl
@[simp] theorem setFn_cp (s : State) (f st : Nat) : (setFn s f st).cp = s.cp := rfl
@[simp] theorem setFn_host (s : State) (f st : Nat) : (setFn s f st).host = s.host := rfl
@[simp] theorem setFn_clock (s : State) (f st : Nat) : (setFn s f st).clock = s.clock := rfl
@[simp] theorem setFn_dsp (s : State) (f st : Nat) : (setFn s f st).dsp = s.dsp := rfl
@[simp] theorem setFn_eng (s : State) (f st : Nat) : (setFn s f st).eng = s.eng := rfl
@[simp] theorem setFn_net (s : State) (f st : Nat) : (setFn s f st).net = s.net := rfl
@[simp] theorem setFn_sec (s : State) (f st : Nat) : (setFn s f st).sec = s.sec := rfl
@[simp] theorem setFn_pm (s : State) (f st : Nat) : (setFn s f st).pm = s.pm := rfl
@[simp] theorem setFn_sap (s : State) (f st : Nat) : (setFn s f st).sap = s.sap := rfl
@[simp] theorem setFn_conv (s : State) (f st : Nat) : (setFn s f st).conv = s.conv := rfl
@[simp] theorem setFn_paired (s : State) (f st : Nat) : (setFn s f st).paired = s.paired := rfl
@[simp] theorem setFn_psc (s : State) (f st : Nat) : (setFn s f st).psc = s.psc := rfl
@[simp] theorem setFn_pair (s : State) (f st : Nat) : (setFn s f st).pair = s.pair := rfl
@[simp] theorem setFn_wit (s : State) (f st : Nat) : (setFn s f st).wit = s.wit := rfl
@[simp] theorem setFn_rs (s : State) (f st : Nat) : (setFn s f st).rs = s.rs := rfl
@[simp] theorem setFn_tw (s : State) (f st : Nat) : (setFn s f st).tw = s.tw := rfl

@[simp] theorem commit_pending (s : State) (c : Nat) : (commit s c).pending = s.pending := rfl
@[simp] theorem commit_out (s : State) (c : Nat) : (commit s c).out = s.out := rfl
@[simp] theorem commit_free (s : State) (c : Nat) : (commit s c).free = s.free := rfl
@[simp] theorem commit_sctr (s : State) (c : Nat) : (commit s c).sctr = s.sctr := rfl
@[simp] theorem commit_regs (s : State) (c : Nat) : (commit s c).regs = s.regs := rfl
@[simp] theorem commit_log (s : State) (c : Nat) : (commit s c).log = s.log := rfl
@[simp] theorem commit_host (s : State) (c : Nat) : (commit s c).host = s.host := rfl
@[simp] theorem commit_clock (s : State) (c : Nat) : (commit s c).clock = s.clock := rfl
@[simp] theorem commit_dsp (s : State) (c : Nat) : (commit s c).dsp = s.dsp := rfl
@[simp] theorem commit_eng (s : State) (c : Nat) : (commit s c).eng = s.eng := rfl
@[simp] theorem commit_net (s : State) (c : Nat) : (commit s c).net = s.net := rfl
@[simp] theorem commit_sec (s : State) (c : Nat) : (commit s c).sec = s.sec := rfl
@[simp] theorem commit_pm (s : State) (c : Nat) : (commit s c).pm = s.pm := rfl
@[simp] theorem commit_sap (s : State) (c : Nat) : (commit s c).sap = s.sap := rfl
@[simp] theorem commit_conv (s : State) (c : Nat) : (commit s c).conv = s.conv := rfl
@[simp] theorem commit_paired (s : State) (c : Nat) : (commit s c).paired = s.paired := rfl
@[simp] theorem commit_psc (s : State) (c : Nat) : (commit s c).psc = s.psc := rfl
@[simp] theorem commit_pair (s : State) (c : Nat) : (commit s c).pair = s.pair := rfl
@[simp] theorem commit_wit (s : State) (c : Nat) : (commit s c).wit = s.wit := rfl
@[simp] theorem commit_rs (s : State) (c : Nat) : (commit s c).rs = s.rs := rfl
@[simp] theorem commit_tw (s : State) (c : Nat) : (commit s c).tw = s.tw := rfl

@[simp] theorem accept_pending (s : State) (c : Nat) : (accept s c).pending = s.pending := rfl
@[simp] theorem accept_out (s : State) (c : Nat) : (accept s c).out = s.out := rfl
@[simp] theorem accept_free (s : State) (c : Nat) : (accept s c).free = s.free := rfl
@[simp] theorem accept_sctr (s : State) (c : Nat) : (accept s c).sctr = s.sctr := rfl
@[simp] theorem accept_log (s : State) (c : Nat) : (accept s c).log = s.log := rfl
@[simp] theorem accept_host (s : State) (c : Nat) : (accept s c).host = s.host := rfl
@[simp] theorem accept_clock (s : State) (c : Nat) : (accept s c).clock = s.clock := rfl
@[simp] theorem accept_dsp (s : State) (c : Nat) : (accept s c).dsp = s.dsp := rfl
@[simp] theorem accept_eng (s : State) (c : Nat) : (accept s c).eng = s.eng := rfl
@[simp] theorem accept_net (s : State) (c : Nat) : (accept s c).net = s.net := rfl
@[simp] theorem accept_sec (s : State) (c : Nat) : (accept s c).sec = s.sec := rfl
@[simp] theorem accept_pm (s : State) (c : Nat) : (accept s c).pm = s.pm := rfl
@[simp] theorem accept_sap (s : State) (c : Nat) : (accept s c).sap = s.sap := rfl
@[simp] theorem accept_conv (s : State) (c : Nat) : (accept s c).conv = s.conv := rfl
@[simp] theorem accept_paired (s : State) (c : Nat) : (accept s c).paired = s.paired := rfl
@[simp] theorem accept_psc (s : State) (c : Nat) : (accept s c).psc = s.psc := rfl
@[simp] theorem accept_pair (s : State) (c : Nat) : (accept s c).pair = s.pair := rfl
@[simp] theorem accept_wit (s : State) (c : Nat) : (accept s c).wit = s.wit := rfl
@[simp] theorem accept_rs (s : State) (c : Nat) : (accept s c).rs = s.rs := rfl
@[simp] theorem accept_tw (s : State) (c : Nat) : (accept s c).tw = s.tw := rfl

@[simp] theorem setPress_pending (s : State) (p : Nat) (x : Press) : (setPress s p x).pending = s.pending := rfl
@[simp] theorem setPress_out (s : State) (p : Nat) (x : Press) : (setPress s p x).out = s.out := rfl
@[simp] theorem setPress_free (s : State) (p : Nat) (x : Press) : (setPress s p x).free = s.free := rfl
@[simp] theorem setPress_sctr (s : State) (p : Nat) (x : Press) : (setPress s p x).sctr = s.sctr := rfl
@[simp] theorem setPress_regs (s : State) (p : Nat) (x : Press) : (setPress s p x).regs = s.regs := rfl
@[simp] theorem setPress_log (s : State) (p : Nat) (x : Press) : (setPress s p x).log = s.log := rfl
@[simp] theorem setPress_cp (s : State) (p : Nat) (x : Press) : (setPress s p x).cp = s.cp := rfl
@[simp] theorem setPress_host (s : State) (p : Nat) (x : Press) : (setPress s p x).host = s.host := rfl
@[simp] theorem setPress_clock (s : State) (p : Nat) (x : Press) : (setPress s p x).clock = s.clock := rfl
@[simp] theorem setPress_eng (s : State) (p : Nat) (x : Press) : (setPress s p x).eng = s.eng := rfl
@[simp] theorem setPress_net (s : State) (p : Nat) (x : Press) : (setPress s p x).net = s.net := rfl
@[simp] theorem setPress_sec (s : State) (p : Nat) (x : Press) : (setPress s p x).sec = s.sec := rfl
@[simp] theorem setPress_pm (s : State) (p : Nat) (x : Press) : (setPress s p x).pm = s.pm := rfl
@[simp] theorem setPress_sap (s : State) (p : Nat) (x : Press) : (setPress s p x).sap = s.sap := rfl
@[simp] theorem setPress_conv (s : State) (p : Nat) (x : Press) : (setPress s p x).conv = s.conv := rfl
@[simp] theorem setPress_paired (s : State) (p : Nat) (x : Press) : (setPress s p x).paired = s.paired := rfl
@[simp] theorem setPress_psc (s : State) (p : Nat) (x : Press) : (setPress s p x).psc = s.psc := rfl
@[simp] theorem setPress_pair (s : State) (p : Nat) (x : Press) : (setPress s p x).pair = s.pair := rfl
@[simp] theorem setPress_wit (s : State) (p : Nat) (x : Press) : (setPress s p x).wit = s.wit := rfl
@[simp] theorem setPress_rs (s : State) (p : Nat) (x : Press) : (setPress s p x).rs = s.rs := rfl
@[simp] theorem setPress_tw (s : State) (p : Nat) (x : Press) : (setPress s p x).tw = s.tw := rfl

@[simp] theorem setLane_pending (s : State) (p j : Nat) (l : Lane) : (setLane s p j l).pending = s.pending := rfl
@[simp] theorem setLane_out (s : State) (p j : Nat) (l : Lane) : (setLane s p j l).out = s.out := rfl
@[simp] theorem setLane_free (s : State) (p j : Nat) (l : Lane) : (setLane s p j l).free = s.free := rfl
@[simp] theorem setLane_sctr (s : State) (p j : Nat) (l : Lane) : (setLane s p j l).sctr = s.sctr := rfl
@[simp] theorem setLane_regs (s : State) (p j : Nat) (l : Lane) : (setLane s p j l).regs = s.regs := rfl
@[simp] theorem setLane_log (s : State) (p j : Nat) (l : Lane) : (setLane s p j l).log = s.log := rfl
@[simp] theorem setLane_cp (s : State) (p j : Nat) (l : Lane) : (setLane s p j l).cp = s.cp := rfl
@[simp] theorem setLane_host (s : State) (p j : Nat) (l : Lane) : (setLane s p j l).host = s.host := rfl
@[simp] theorem setLane_clock (s : State) (p j : Nat) (l : Lane) : (setLane s p j l).clock = s.clock := rfl
@[simp] theorem setLane_eng (s : State) (p j : Nat) (l : Lane) : (setLane s p j l).eng = s.eng := rfl
@[simp] theorem setLane_net (s : State) (p j : Nat) (l : Lane) : (setLane s p j l).net = s.net := rfl
@[simp] theorem setLane_sec (s : State) (p j : Nat) (l : Lane) : (setLane s p j l).sec = s.sec := rfl
@[simp] theorem setLane_pm (s : State) (p j : Nat) (l : Lane) : (setLane s p j l).pm = s.pm := rfl
@[simp] theorem setLane_sap (s : State) (p j : Nat) (l : Lane) : (setLane s p j l).sap = s.sap := rfl
@[simp] theorem setLane_conv (s : State) (p j : Nat) (l : Lane) : (setLane s p j l).conv = s.conv := rfl
@[simp] theorem setLane_paired (s : State) (p j : Nat) (l : Lane) : (setLane s p j l).paired = s.paired := rfl
@[simp] theorem setLane_psc (s : State) (p j : Nat) (l : Lane) : (setLane s p j l).psc = s.psc := rfl
@[simp] theorem setLane_pair (s : State) (p j : Nat) (l : Lane) : (setLane s p j l).pair = s.pair := rfl
@[simp] theorem setLane_wit (s : State) (p j : Nat) (l : Lane) : (setLane s p j l).wit = s.wit := rfl
@[simp] theorem setLane_rs (s : State) (p j : Nat) (l : Lane) : (setLane s p j l).rs = s.rs := rfl
@[simp] theorem setLane_tw (s : State) (p j : Nat) (l : Lane) : (setLane s p j l).tw = s.tw := rfl

@[simp] theorem push_pending (s : State) (p t : Nat) (w : Wr) : (push s p t w).pending = s.pending := rfl
@[simp] theorem push_out (s : State) (p t : Nat) (w : Wr) : (push s p t w).out = s.out := rfl
@[simp] theorem push_free (s : State) (p t : Nat) (w : Wr) : (push s p t w).free = s.free := rfl
@[simp] theorem push_sctr (s : State) (p t : Nat) (w : Wr) : (push s p t w).sctr = s.sctr := rfl
@[simp] theorem push_regs (s : State) (p t : Nat) (w : Wr) : (push s p t w).regs = s.regs := rfl
@[simp] theorem push_log (s : State) (p t : Nat) (w : Wr) : (push s p t w).log = s.log := rfl
@[simp] theorem push_cp (s : State) (p t : Nat) (w : Wr) : (push s p t w).cp = s.cp := rfl
@[simp] theorem push_host (s : State) (p t : Nat) (w : Wr) : (push s p t w).host = s.host := rfl
@[simp] theorem push_clock (s : State) (p t : Nat) (w : Wr) : (push s p t w).clock = s.clock := rfl
@[simp] theorem push_eng (s : State) (p t : Nat) (w : Wr) : (push s p t w).eng = s.eng := rfl
@[simp] theorem push_net (s : State) (p t : Nat) (w : Wr) : (push s p t w).net = s.net := rfl
@[simp] theorem push_sec (s : State) (p t : Nat) (w : Wr) : (push s p t w).sec = s.sec := rfl
@[simp] theorem push_pm (s : State) (p t : Nat) (w : Wr) : (push s p t w).pm = s.pm := rfl
@[simp] theorem push_sap (s : State) (p t : Nat) (w : Wr) : (push s p t w).sap = s.sap := rfl
@[simp] theorem push_conv (s : State) (p t : Nat) (w : Wr) : (push s p t w).conv = s.conv := rfl
@[simp] theorem push_paired (s : State) (p t : Nat) (w : Wr) : (push s p t w).paired = s.paired := rfl
@[simp] theorem push_psc (s : State) (p t : Nat) (w : Wr) : (push s p t w).psc = s.psc := rfl
@[simp] theorem push_pair (s : State) (p t : Nat) (w : Wr) : (push s p t w).pair = s.pair := rfl
@[simp] theorem push_wit (s : State) (p t : Nat) (w : Wr) : (push s p t w).wit = s.wit := rfl
@[simp] theorem push_rs (s : State) (p t : Nat) (w : Wr) : (push s p t w).rs = s.rs := rfl
@[simp] theorem push_tw (s : State) (p t : Nat) (w : Wr) : (push s p t w).tw = s.tw := rfl

@[simp] theorem setV_pending (s : State) (p t j : Nat) (r : Fin 16) (w : Word) : (setV s p t j r w).pending = s.pending := rfl
@[simp] theorem setV_out (s : State) (p t j : Nat) (r : Fin 16) (w : Word) : (setV s p t j r w).out = s.out := rfl
@[simp] theorem setV_free (s : State) (p t j : Nat) (r : Fin 16) (w : Word) : (setV s p t j r w).free = s.free := rfl
@[simp] theorem setV_sctr (s : State) (p t j : Nat) (r : Fin 16) (w : Word) : (setV s p t j r w).sctr = s.sctr := rfl
@[simp] theorem setV_regs (s : State) (p t j : Nat) (r : Fin 16) (w : Word) : (setV s p t j r w).regs = s.regs := rfl
@[simp] theorem setV_log (s : State) (p t j : Nat) (r : Fin 16) (w : Word) : (setV s p t j r w).log = s.log := rfl
@[simp] theorem setV_cp (s : State) (p t j : Nat) (r : Fin 16) (w : Word) : (setV s p t j r w).cp = s.cp := rfl
@[simp] theorem setV_host (s : State) (p t j : Nat) (r : Fin 16) (w : Word) : (setV s p t j r w).host = s.host := rfl
@[simp] theorem setV_clock (s : State) (p t j : Nat) (r : Fin 16) (w : Word) : (setV s p t j r w).clock = s.clock := rfl
@[simp] theorem setV_eng (s : State) (p t j : Nat) (r : Fin 16) (w : Word) : (setV s p t j r w).eng = s.eng := rfl
@[simp] theorem setV_net (s : State) (p t j : Nat) (r : Fin 16) (w : Word) : (setV s p t j r w).net = s.net := rfl
@[simp] theorem setV_sec (s : State) (p t j : Nat) (r : Fin 16) (w : Word) : (setV s p t j r w).sec = s.sec := rfl
@[simp] theorem setV_pm (s : State) (p t j : Nat) (r : Fin 16) (w : Word) : (setV s p t j r w).pm = s.pm := rfl
@[simp] theorem setV_sap (s : State) (p t j : Nat) (r : Fin 16) (w : Word) : (setV s p t j r w).sap = s.sap := rfl
@[simp] theorem setV_conv (s : State) (p t j : Nat) (r : Fin 16) (w : Word) : (setV s p t j r w).conv = s.conv := rfl
@[simp] theorem setV_paired (s : State) (p t j : Nat) (r : Fin 16) (w : Word) : (setV s p t j r w).paired = s.paired := rfl
@[simp] theorem setV_psc (s : State) (p t j : Nat) (r : Fin 16) (w : Word) : (setV s p t j r w).psc = s.psc := rfl
@[simp] theorem setV_pair (s : State) (p t j : Nat) (r : Fin 16) (w : Word) : (setV s p t j r w).pair = s.pair := rfl
@[simp] theorem setV_wit (s : State) (p t j : Nat) (r : Fin 16) (w : Word) : (setV s p t j r w).wit = s.wit := rfl
@[simp] theorem setV_rs (s : State) (p t j : Nat) (r : Fin 16) (w : Word) : (setV s p t j r w).rs = s.rs := rfl
@[simp] theorem setV_tw (s : State) (p t j : Nat) (r : Fin 16) (w : Word) : (setV s p t j r w).tw = s.tw := rfl

@[simp] theorem pushDelay_pending (s : State) (x : DWr) : (pushDelay s x).pending = s.pending := rfl
@[simp] theorem pushDelay_out (s : State) (x : DWr) : (pushDelay s x).out = s.out := rfl
@[simp] theorem pushDelay_free (s : State) (x : DWr) : (pushDelay s x).free = s.free := rfl
@[simp] theorem pushDelay_sctr (s : State) (x : DWr) : (pushDelay s x).sctr = s.sctr := rfl
@[simp] theorem pushDelay_regs (s : State) (x : DWr) : (pushDelay s x).regs = s.regs := rfl
@[simp] theorem pushDelay_log (s : State) (x : DWr) : (pushDelay s x).log = s.log := rfl
@[simp] theorem pushDelay_cp (s : State) (x : DWr) : (pushDelay s x).cp = s.cp := rfl
@[simp] theorem pushDelay_host (s : State) (x : DWr) : (pushDelay s x).host = s.host := rfl
@[simp] theorem pushDelay_clock (s : State) (x : DWr) : (pushDelay s x).clock = s.clock := rfl
@[simp] theorem pushDelay_eng (s : State) (x : DWr) : (pushDelay s x).eng = s.eng := rfl
@[simp] theorem pushDelay_net (s : State) (x : DWr) : (pushDelay s x).net = s.net := rfl
@[simp] theorem pushDelay_sec (s : State) (x : DWr) : (pushDelay s x).sec = s.sec := rfl
@[simp] theorem pushDelay_pm (s : State) (x : DWr) : (pushDelay s x).pm = s.pm := rfl
@[simp] theorem pushDelay_sap (s : State) (x : DWr) : (pushDelay s x).sap = s.sap := rfl
@[simp] theorem pushDelay_conv (s : State) (x : DWr) : (pushDelay s x).conv = s.conv := rfl
@[simp] theorem pushDelay_paired (s : State) (x : DWr) : (pushDelay s x).paired = s.paired := rfl
@[simp] theorem pushDelay_psc (s : State) (x : DWr) : (pushDelay s x).psc = s.psc := rfl
@[simp] theorem pushDelay_pair (s : State) (x : DWr) : (pushDelay s x).pair = s.pair := rfl
@[simp] theorem pushDelay_wit (s : State) (x : DWr) : (pushDelay s x).wit = s.wit := rfl
@[simp] theorem pushDelay_rs (s : State) (x : DWr) : (pushDelay s x).rs = s.rs := rfl
@[simp] theorem pushDelay_tw (s : State) (x : DWr) : (pushDelay s x).tw = s.tw := rfl

@[simp] theorem pushMeter_pending (s : State) (p t a : Nat) (w : Word) : (pushMeter s p t a w).pending = s.pending := rfl
@[simp] theorem pushMeter_out (s : State) (p t a : Nat) (w : Word) : (pushMeter s p t a w).out = s.out := rfl
@[simp] theorem pushMeter_free (s : State) (p t a : Nat) (w : Word) : (pushMeter s p t a w).free = s.free := rfl
@[simp] theorem pushMeter_sctr (s : State) (p t a : Nat) (w : Word) : (pushMeter s p t a w).sctr = s.sctr := rfl
@[simp] theorem pushMeter_regs (s : State) (p t a : Nat) (w : Word) : (pushMeter s p t a w).regs = s.regs := rfl
@[simp] theorem pushMeter_log (s : State) (p t a : Nat) (w : Word) : (pushMeter s p t a w).log = s.log := rfl
@[simp] theorem pushMeter_cp (s : State) (p t a : Nat) (w : Word) : (pushMeter s p t a w).cp = s.cp := rfl
@[simp] theorem pushMeter_host (s : State) (p t a : Nat) (w : Word) : (pushMeter s p t a w).host = s.host := rfl
@[simp] theorem pushMeter_clock (s : State) (p t a : Nat) (w : Word) : (pushMeter s p t a w).clock = s.clock := rfl
@[simp] theorem pushMeter_eng (s : State) (p t a : Nat) (w : Word) : (pushMeter s p t a w).eng = s.eng := rfl
@[simp] theorem pushMeter_net (s : State) (p t a : Nat) (w : Word) : (pushMeter s p t a w).net = s.net := rfl
@[simp] theorem pushMeter_sec (s : State) (p t a : Nat) (w : Word) : (pushMeter s p t a w).sec = s.sec := rfl
@[simp] theorem pushMeter_pm (s : State) (p t a : Nat) (w : Word) : (pushMeter s p t a w).pm = s.pm := rfl
@[simp] theorem pushMeter_sap (s : State) (p t a : Nat) (w : Word) : (pushMeter s p t a w).sap = s.sap := rfl
@[simp] theorem pushMeter_conv (s : State) (p t a : Nat) (w : Word) : (pushMeter s p t a w).conv = s.conv := rfl
@[simp] theorem pushMeter_paired (s : State) (p t a : Nat) (w : Word) : (pushMeter s p t a w).paired = s.paired := rfl
@[simp] theorem pushMeter_psc (s : State) (p t a : Nat) (w : Word) : (pushMeter s p t a w).psc = s.psc := rfl
@[simp] theorem pushMeter_pair (s : State) (p t a : Nat) (w : Word) : (pushMeter s p t a w).pair = s.pair := rfl
@[simp] theorem pushMeter_wit (s : State) (p t a : Nat) (w : Word) : (pushMeter s p t a w).wit = s.wit := rfl
@[simp] theorem pushMeter_rs (s : State) (p t a : Nat) (w : Word) : (pushMeter s p t a w).rs = s.rs := rfl
@[simp] theorem pushMeter_tw (s : State) (p t a : Nat) (w : Word) : (pushMeter s p t a w).tw = s.tw := rfl

@[simp] theorem decidePq_pending (s : State) (n : Nat) (r : PqRec) : (decidePq s n r).pending = s.pending := rfl
@[simp] theorem decidePq_out (s : State) (n : Nat) (r : PqRec) : (decidePq s n r).out = s.out := rfl
@[simp] theorem decidePq_free (s : State) (n : Nat) (r : PqRec) : (decidePq s n r).free = s.free := rfl
@[simp] theorem decidePq_sctr (s : State) (n : Nat) (r : PqRec) : (decidePq s n r).sctr = s.sctr := rfl
@[simp] theorem decidePq_regs (s : State) (n : Nat) (r : PqRec) : (decidePq s n r).regs = s.regs := rfl
@[simp] theorem decidePq_log (s : State) (n : Nat) (r : PqRec) : (decidePq s n r).log = s.log := rfl
@[simp] theorem decidePq_cp (s : State) (n : Nat) (r : PqRec) : (decidePq s n r).cp = s.cp := rfl
@[simp] theorem decidePq_host (s : State) (n : Nat) (r : PqRec) : (decidePq s n r).host = s.host := rfl
@[simp] theorem decidePq_clock (s : State) (n : Nat) (r : PqRec) : (decidePq s n r).clock = s.clock := rfl
@[simp] theorem decidePq_dsp (s : State) (n : Nat) (r : PqRec) : (decidePq s n r).dsp = s.dsp := rfl
@[simp] theorem decidePq_eng (s : State) (n : Nat) (r : PqRec) : (decidePq s n r).eng = s.eng := rfl
@[simp] theorem decidePq_net (s : State) (n : Nat) (r : PqRec) : (decidePq s n r).net = s.net := rfl
@[simp] theorem decidePq_sec (s : State) (n : Nat) (r : PqRec) : (decidePq s n r).sec = s.sec := rfl
@[simp] theorem decidePq_pm (s : State) (n : Nat) (r : PqRec) : (decidePq s n r).pm = s.pm := rfl
@[simp] theorem decidePq_sap (s : State) (n : Nat) (r : PqRec) : (decidePq s n r).sap = s.sap := rfl
@[simp] theorem decidePq_conv (s : State) (n : Nat) (r : PqRec) : (decidePq s n r).conv = s.conv := rfl
@[simp] theorem decidePq_psc (s : State) (n : Nat) (r : PqRec) : (decidePq s n r).psc = s.psc := rfl
@[simp] theorem decidePq_pair (s : State) (n : Nat) (r : PqRec) : (decidePq s n r).pair = s.pair := rfl
@[simp] theorem decidePq_wit (s : State) (n : Nat) (r : PqRec) : (decidePq s n r).wit = s.wit := rfl
@[simp] theorem decidePq_rs (s : State) (n : Nat) (r : PqRec) : (decidePq s n r).rs = s.rs := rfl
@[simp] theorem decidePq_tw (s : State) (n : Nat) (r : PqRec) : (decidePq s n r).tw = s.tw := rfl

end Sys2Proof.Machine
end

