-- ==== Sys2Proof/Laws/Registers.lean ====
section
/-! SUPPORT. Registers and their fields: a read after a write, of the same register or field and of another. -/

namespace Sys2Proof.Machine

@[simp] theorem getR_setR (s : State) (o : Nat) (w : Word) (o' : Nat) : getR (setR s o w) o' = if o = o' then w else getR s o' :=
  memGet_memSet _ _ _ _

theorem getR_setR_same (s : State) (o : Nat) (w : Word) : getR (setR s o w) o = w := by simp

theorem getR_setR_other (s : State) (o : Nat) (w : Word) (o' : Nat) (h : o ≠ o') : getR (setR s o w) o' = getR s o' := by
  simp [h]

/-- A register reads the same in states with the same registers. -/
theorem getR_congr {s t : State} (h : s.regs = t.regs) (o : Nat) : getR s o = getR t o := by
  unfold getR
  rw [h]

theorem getF_congr {s t : State} (h : s.regs = t.regs) (f : Fld) : getF s f = getF t f := by
  unfold getF
  rw [getR_congr h]

theorem Fld.ones_bit (f : Fld) (i : Nat) : (Fld.ones f).getLsbD i = (decide (i < 32) && decide (i < f.w)) := by
  simp [Fld.ones, BitVec.getLsbD_ofNat, Nat.testBit_two_pow_sub_one]

/-- A field reads what was written to it, cut to its width. -/
theorem fldGet_fldSet (w : Word) (f : Fld) (v : Nat) (h : f.lo + f.w ≤ 32) : fldGet (fldSet w f v) f = v % 2 ^ f.w := by
  have hw : f.w ≤ 32 := by omega
  have e : (fldSet w f v >>> f.lo) &&& Fld.ones f = BitVec.ofNat 32 v &&& Fld.ones f := by
    apply BitVec.eq_of_getLsbD_eq
    intro i hi
    simp only [fldSet, BitVec.getLsbD_and, BitVec.getLsbD_ushiftRight, BitVec.getLsbD_or, BitVec.getLsbD_not,
      BitVec.getLsbD_shiftLeft, Fld.ones_bit]
    by_cases hiw : i < f.w
    · have h1 : f.lo + i < 32 := by omega
      simp [hiw, h1, hi]
    · simp [hiw]
  have hlt : 2 ^ f.w ≤ 2 ^ 32 := Nat.pow_le_pow_right (by decide) hw
  have hpos : 0 < 2 ^ f.w := Nat.pos_of_ne_zero (by simp)
  have h1 : (2 ^ f.w - 1) % 2 ^ 32 = 2 ^ f.w - 1 := Nat.mod_eq_of_lt (by omega)
  unfold fldGet
  rw [e, BitVec.toNat_and]
  simp only [Fld.ones, BitVec.toNat_ofNat, h1, Nat.and_two_pow_sub_one_eq_mod]
  exact Nat.mod_mod_of_dvd v (Nat.pow_dvd_pow 2 hw)

/-- Another field of the same word reads as before. -/
theorem fldGet_fldSet_other (w : Word) (f g : Fld) (v : Nat) (h : f.lo + f.w ≤ g.lo ∨ g.lo + g.w ≤ f.lo) :
    fldGet (fldSet w f v) g = fldGet w g := by
  have e : (fldSet w f v >>> g.lo) &&& Fld.ones g = (w >>> g.lo) &&& Fld.ones g := by
    apply BitVec.eq_of_getLsbD_eq
    intro i hi
    simp only [fldSet, BitVec.getLsbD_and, BitVec.getLsbD_ushiftRight, BitVec.getLsbD_or, BitVec.getLsbD_not,
      BitVec.getLsbD_shiftLeft, Fld.ones_bit]
    by_cases hig : i < g.w
    · by_cases h32 : g.lo + i < 32
      · rcases h with h | h
        · have h1 : ¬ (g.lo + i - f.lo < f.w) := by omega
          simp [hig, h32, h1]
        · have h1 : g.lo + i < f.lo := by omega
          simp [hig, h32, h1]
      · simp [hig, hi, h32, BitVec.getLsbD_of_ge w (g.lo + i) (by omega)]
    · simp [hig]
  unfold fldGet
  rw [e]

theorem getF_setR_other (s : State) (o : Nat) (w : Word) (f : Fld) (h : o ≠ f.off) : getF (setR s o w) f = getF s f := by
  simp [getF, h]

theorem getF_setF_same (s : State) (f : Fld) (v : Nat) (h : f.lo + f.w ≤ 32) : getF (setF s f v) f = v % 2 ^ f.w := by
  simp [getF, setF, fldGet_fldSet _ _ _ h]

theorem getF_setF_reg (s : State) (f g : Fld) (v : Nat) (h : f.off ≠ g.off) : getF (setF s f v) g = getF s g := by
  simp [getF, setF, h]

theorem getF_setF_fld (s : State) (f g : Fld) (v : Nat) (h : f.lo + f.w ≤ g.lo ∨ g.lo + g.w ≤ f.lo) :
    getF (setF s f v) g = getF s g := by
  by_cases ho : f.off = g.off
  · simp [getF, setF, ho, fldGet_fldSet_other _ _ _ _ h]
  · exact getF_setF_reg s f g v ho

theorem getR_setF_other (s : State) (f : Fld) (v o : Nat) (h : f.off ≠ o) : getR (setF s f v) o = getR s o := by
  simp [setF, h]

theorem isF_putF_same (s : State) (f : Fld) (b : Bool) (h : f.lo + f.w ≤ 32) (hw : f.w = 1) : isF (putF s f b) f = b := by
  simp only [isF, putF, getF_setF_same _ _ _ h, hw]
  cases b <;> rfl

theorem isF_putF_other (s : State) (f g : Fld) (b : Bool)
    (h : f.off ≠ g.off ∨ f.lo + f.w ≤ g.lo ∨ g.lo + g.w ≤ f.lo) : isF (putF s f b) g = isF s g := by
  unfold isF putF
  rcases h with h | h
  · rw [getF_setF_reg _ _ _ _ h]
  · rw [getF_setF_fld _ _ _ _ h]

theorem getR_bump_same (s : State) (o n : Nat) : getR (bump s o n) o = satAdd (getR s o) n := by simp [bump]

theorem getR_bump_other (s : State) (o n o' : Nat) (h : o ≠ o') : getR (bump s o n) o' = getR s o' := by simp [bump, h]

/-- A counter never falls. -/
theorem satAdd_mono (w : Word) (n : Nat) : w.toNat ≤ (satAdd w n).toNat := by
  have h := w.isLt
  simp only [satAdd, BitVec.toNat_ofNat]
  omega

/-- Register writes keep the register file canonical. -/
theorem memWf_setR (s : State) (o : Nat) (w : Word) (h : memWf s.regs = true) : memWf (setR s o w).regs = true :=
  memWf_memSet _ _ _ h

theorem memWf_setF (s : State) (f : Fld) (v : Nat) (h : memWf s.regs = true) : memWf (setF s f v).regs = true :=
  memWf_setR _ _ _ h

end Sys2Proof.Machine
end

