-- ==== Sys2Proof/Laws/Mailbox.lean ====
section
/-! SUPPORT. Serving a mailbox request, said once: what taking a channel, a response and a completion interrupt do. -/

namespace Sys2Proof.Machine

@[simp] theorem respBytes_length (st c t d : Nat) (p : List Byte) : (respBytes st c t d p).length = 12 + p.length := by
  simp [respBytes, le]
  omega

/-- A request reads the same in states with the same mailbox areas. -/
theorem reqOf_congr {s t : State} (h : s.cp.mbx = t.cp.mbx) (c : Nat) : reqOf s c = reqOf t c := by
  unfold reqOf
  rw [h]

@[simp] theorem reqOf_accept (s : State) (c d : Nat) : reqOf (accept s c) d = reqOf s d := reqOf_congr rfl d

@[simp] theorem fnPresent_accept (s : State) (c f : Nat) : fnPresent (accept s c) f = fnPresent s f := by
  have e : getF (accept s c) F.ID_DEVICE_ORDER = getF s F.ID_DEVICE_ORDER := by
    unfold accept
    rw [getF_setR_other _ _ _ _ (by simp only [R.MB_ACCEPT_SCTR, F.ID_DEVICE_ORDER, R.ID_DEVICE]; omega)]
    exact getF_setF_reg _ _ _ _ (by simp only [F.MB_STAT_STATE, R.MB_STAT, F.ID_DEVICE_ORDER, R.ID_DEVICE]; omega)
  simp [fnPresent, modelA, e]

/-! ### Interrupts -/

@[simp] theorem sendIrq_cp (s : State) (b : Nat) : (sendIrq s b).cp = s.cp := by
  unfold sendIrq
  dsimp only
  split <;> rfl

@[simp] theorem raiseIrq_cp (s : State) (b : Nat) : (raiseIrq s b).cp = s.cp := by
  unfold raiseIrq
  dsimp only
  split
  · rw [sendIrq_cp]
    rfl
  · rfl

/-- A completion interrupt leaves every register but the interrupt status and the pending-bit array. -/
theorem getR_raiseIrq (s : State) (b o : Nat) (h1 : o ≠ R.IRQ_STATUS) (h2 : o ≠ R.MSIX_PBA 0) :
    getR (raiseIrq s b) o = getR s o := by
  have hs : ∀ t : State, getR (sendIrq t b) o = getR t o := by
    intro t
    unfold sendIrq
    dsimp only
    split
    · exact getR_setR_other _ _ _ _ (Ne.symm h2)
    · rfl
  unfold raiseIrq
  dsimp only
  split
  · rw [hs, getR_setR_other _ _ _ _ (Ne.symm h1)]
  · exact getR_setR_other _ _ _ _ (Ne.symm h1)

/-! ### Responses -/

theorem mbStat_ne_irq (c : Nat) : R.MB_STAT c ≠ R.IRQ_STATUS := by
  simp only [R.MB_STAT, R.IRQ_STATUS]
  omega

theorem mbStat_ne_pba (c : Nat) (h : c < 8) : R.MB_STAT c ≠ R.MSIX_PBA 0 := by
  simp only [R.MB_STAT, R.MSIX_PBA]
  omega

/-- A channel that is finished shows DONE and its response. -/
theorem finishWith_answered (s : State) (c st code detail : Nat) (p : List Byte) (hw : Bool) (h : c < 8) :
    Answered (finishWith s c st code detail p hw) c st code (reqOf s c).tag detail p := by
  have hmb : (finishWith s c st code detail p hw).cp.mbx =
      memSetList s.cp.mbx (mbRspArea c) (respBytes st code (reqOf s c).tag detail p) := by
    unfold finishWith
    dsimp only
    split
    · rw [raiseIrq_cp]
      rfl
    · rfl
  have hst : getF (finishWith s c st code detail p hw) (F.MB_STAT_STATE c) = mbDone := by
    have hbase : ∀ u : State, getF (setR (putF (setF u (F.MB_STAT_STATE c) mbDone) (F.MB_STAT_HW_ANSWER c) hw)
        (R.MB_DONE_SCTR c) (s.sctr.setWidth 32)) (F.MB_STAT_STATE c) = mbDone := by
      intro u
      rw [getF_setR_other _ _ _ _ (by simp only [R.MB_DONE_SCTR, F.MB_STAT_STATE, R.MB_STAT]; omega)]
      unfold putF
      rw [getF_setF_fld _ _ _ _ (by simp only [F.MB_STAT_HW_ANSWER, F.MB_STAT_STATE]; omega)]
      rw [getF_setF_same _ _ _ (by simp [F.MB_STAT_STATE])]
      rfl
    unfold finishWith
    dsimp only
    split
    · have hi : ∀ u : State, getF (raiseIrq u c) (F.MB_STAT_STATE c) = getF u (F.MB_STAT_STATE c) := by
        intro u
        exact congrArg (fldGet · _) (getR_raiseIrq u c (R.MB_STAT c) (mbStat_ne_irq c) (mbStat_ne_pba c h))
      rw [hi]
      exact hbase _
    · exact hbase _
  refine ⟨hst, ?_⟩
  rw [hmb]
  have := memGetList_memSetList s.cp.mbx (mbRspArea c) (respBytes st code (reqOf s c).tag detail p)
  rwa [respBytes_length] at this

/-- A served command whose header is well formed is answered with what its body replies. -/
theorem serve_replies (s : State) (c op : Nat) (lenOk : Nat → Bool) (body : State → Req → State × Reply)
    (ht : Taken s c op) (hh : HeaderOk s c lenOk) (hr : (body (accept s c) (reqOf s c)).2 ≠ .later) :
    serve s c op lenOk false body =
      finish (body (accept s c) (reqOf s c)).1 c (body (accept s c) (reqOf s c)).2 false := by
  obtain ⟨h1, h2, h3, h4, h5⟩ := hh
  have hc : headerCheck (accept s c) (reqOf s c) lenOk false = none := by
    have h6 : (reqOf s c).flags / 2 = 0 := by omega
    have h7 : ¬ (496 < (reqOf s c).len) := by omega
    simp [headerCheck, h6, h2, h7, h4, h5]
  have hk : canServe s c op = true := ht
  simp only [serve, hk, if_true, reqOf_accept, hc]

/-- The same of a command with a target function. -/
theorem serve_replies_fn (s : State) (c op : Nat) (lenOk : Nat → Bool) (body : State → Req → State × Reply)
    (ht : Taken s c op) (hh : HeaderFnOk s c lenOk) (hr : (body (accept s c) (reqOf s c)).2 ≠ .later) :
    serve s c op lenOk true body =
      finish (body (accept s c) (reqOf s c)).1 c (body (accept s c) (reqOf s c)).2 false := by
  obtain ⟨h1, h2, h3, h4, h5⟩ := hh
  have hc : headerCheck (accept s c) (reqOf s c) lenOk true = none := by
    have h6 : (reqOf s c).flags / 2 = 0 := by omega
    have h7 : ¬ (496 < (reqOf s c).len) := by omega
    simp [headerCheck, h6, h2, h7, h4, h5]
  have hk : canServe s c op = true := ht
  simp only [serve, hk, if_true, reqOf_accept, hc]

/-- A served command that waits for the hardware keeps its channel RUNNING. -/
theorem serve_waits (s : State) (c op : Nat) (lenOk : Nat → Bool) (body : State → Req → State × Reply)
    (ht : Taken s c op) (hh : HeaderOk s c lenOk) (hr : (body (accept s c) (reqOf s c)).2 = .later) :
    serve s c op lenOk false body = (body (accept s c) (reqOf s c)).1 := by
  obtain ⟨h1, h2, h3, h4, h5⟩ := hh
  have hc : headerCheck (accept s c) (reqOf s c) lenOk false = none := by
    have h6 : (reqOf s c).flags / 2 = 0 := by omega
    have h7 : ¬ (496 < (reqOf s c).len) := by omega
    simp [headerCheck, h6, h2, h7, h4, h5]
  have hk : canServe s c op = true := ht
  simp only [serve, hk, if_true, reqOf_accept, hc]
  generalize body (accept s c) (reqOf s c) = x at hr
  obtain ⟨u, r⟩ := x
  cases r <;> simp_all

/-- A channel that the CP does not take, or that holds another command, is left alone (log entry 3). -/
theorem serve_not_taken (s : State) (c op : Nat) (lenOk : Nat → Bool) (anyFn : Bool) (body : State → Req → State × Reply)
    (h : ¬ Taken s c op) : serve s c op lenOk anyFn body = s := by
  unfold Taken at h
  simp [serve, h]

end Sys2Proof.Machine
end

