-- ==== Sys2Proof/Laws/Reports.lean ====
section
/-! SUPPORT. An event, a sticky fault, an interrupt and a mailbox response, said once: which registers they touch, and that they leave
every other part of the state. -/

namespace Sys2Proof.Machine

/-- `t` is `s` but for what an event, a fault, an interrupt or a response touches. -/
def Reported (s t : State) : Prop :=
  ∃ o f r l c h, t = { s with out := o, free := f, regs := r, log := l, cp := c, host := h }

theorem Reported.refl (s : State) : Reported s s := ⟨_, _, _, _, _, _, rfl⟩

theorem Reported.trans {s t u : State} (h : Reported s t) (k : Reported t u) : Reported s u := by
  obtain ⟨o, f, r, l, c, h, rfl⟩ := h
  obtain ⟨o, f, r, l, c, h, rfl⟩ := k
  exact ⟨_, _, _, _, _, _, rfl⟩

theorem Reported.ite {s a b : State} {c : Prop} [Decidable c] (h : Reported s a) (k : Reported s b) :
    Reported s (if c then a else b) := by
  split <;> assumption

theorem setR_reported (s : State) (o : Nat) (w : Word) : Reported s (setR s o w) := ⟨_, _, _, _, _, _, rfl⟩
theorem setF_reported (s : State) (f : Fld) (v : Nat) : Reported s (setF s f v) := ⟨_, _, _, _, _, _, rfl⟩
theorem putF_reported (s : State) (f : Fld) (b : Bool) : Reported s (putF s f b) := ⟨_, _, _, _, _, _, rfl⟩
theorem bump_reported (s : State) (o n : Nat) : Reported s (bump s o n) := ⟨_, _, _, _, _, _, rfl⟩
theorem emit_reported (s : State) (o : Out) : Reported s (emit s o) := ⟨_, _, _, _, _, _, rfl⟩
theorem log_reported (s : State) (l : Recorder) : Reported s { s with log := l } := ⟨_, _, _, _, _, _, rfl⟩
theorem cp_reported (s : State) (c : Cp) : Reported s { s with cp := c } := ⟨_, _, _, _, _, _, rfl⟩
theorem host_reported (s : State) (h : HostLink) : Reported s { s with host := h } := ⟨_, _, _, _, _, _, rfl⟩
theorem nextFree_reported (s : State) : Reported s (nextFree s) := ⟨_, _, _, _, _, _, rfl⟩

theorem sendIrq_reported (s : State) (b : Nat) : Reported s (sendIrq s b) := by
  unfold sendIrq
  exact .ite ((host_reported _ _).trans (setR_reported _ _ _)) ((host_reported _ _).trans (emit_reported _ _))

theorem raiseIrq_reported (s : State) (b : Nat) : Reported s (raiseIrq s b) := by
  unfold raiseIrq
  exact .ite ((setR_reported _ _ _).trans (sendIrq_reported _ _)) (setR_reported _ _ _)

theorem refreshFaults_reported (s : State) : Reported s (refreshFaults s) := by
  unfold refreshFaults
  exact .ite (setR_reported _ _ _)
    (((setR_reported _ _ _).trans (.ite (setF_reported _ _ _) (.refl _))).trans (raiseIrq_reported _ _))

theorem setFaults_reported (s : State) (c : Nat) (m : Word) : Reported s (setFaults s c m) :=
  (setR_reported _ _ _).trans (refreshFaults_reported _)

theorem setFault_reported (s : State) (c b : Nat) : Reported s (setFault s c b) := setFaults_reported s c _

theorem refreshFifo_reported (s : State) : Reported s (refreshFifo s) := (putF_reported _ _ _).trans (setF_reported _ _ _)

theorem countDrop_reported (s : State) (v : Nat) : Reported s (countDrop s v) :=
  ((bump_reported _ _ _).trans (setFault_reported _ _ _)).trans (log_reported _ _)

theorem enqueue_reported (s : State) (e : Rec) : Reported s (enqueue s e) := by
  unfold enqueue
  refine .ite ((log_reported _ _).trans (refreshFifo_reported _)) (.ite ?_ (countDrop_reported _ _))
  split
  · exact ((log_reported _ _).trans (countDrop_reported _ _)).trans (refreshFifo_reported _)
  · exact .refl _

theorem offer_reported (s : State) (e : Rec) : Reported s (offer s e) := by
  unfold offer
  refine .ite (.refl _) ?_
  split
  · exact (log_reported _ _).trans (bump_reported _ _ _)
  · split
    · exact (log_reported _ _).trans (bump_reported _ _ _)
    · exact enqueue_reported _ _

theorem logAt_reported (s : State) (frac : BitVec 16) (code source sev : Nat) (args : List Byte) :
    Reported s (logAt s frac code source sev args) := offer_reported _ _

theorem logEv_reported (s : State) (code source sev : Nat) (args : List Byte) :
    Reported s (logEv s code source sev args) := (nextFree_reported _).trans (logAt_reported _ _ _ _ _ _)

theorem finishWith_reported (s : State) (c st code detail : Nat) (p : List Byte) (hw : Bool) :
    Reported s (finishWith s c st code detail p hw) := by
  have h : ∀ x : Cp, Reported s (setR (putF (setF { s with cp := x } (F.MB_STAT_STATE c) mbDone) (F.MB_STAT_HW_ANSWER c) hw)
      (R.MB_DONE_SCTR c) (s.sctr.setWidth 32)) := fun _ => ⟨_, _, _, _, _, _, rfl⟩
  unfold finishWith
  exact .ite ((h _).trans (raiseIrq_reported _ _)) (h _)

theorem finish_reported (s : State) (c : Nat) (r : Reply) (hw : Bool) : Reported s (finish s c r hw) :=
  finishWith_reported _ _ _ _ _ _ _

theorem accept_reported (s : State) (c : Nat) : Reported s (accept s c) := ⟨_, _, _, _, _, _, rfl⟩

theorem Reported.pending {s t : State} (h : Reported s t) : t.pending = s.pending := by
  obtain ⟨_, _, _, _, _, _, rfl⟩ := h
  rfl
theorem Reported.sctr {s t : State} (h : Reported s t) : t.sctr = s.sctr := by
  obtain ⟨_, _, _, _, _, _, rfl⟩ := h
  rfl
theorem Reported.clock {s t : State} (h : Reported s t) : t.clock = s.clock := by
  obtain ⟨_, _, _, _, _, _, rfl⟩ := h
  rfl
theorem Reported.dsp {s t : State} (h : Reported s t) : t.dsp = s.dsp := by
  obtain ⟨_, _, _, _, _, _, rfl⟩ := h
  rfl
theorem Reported.eng {s t : State} (h : Reported s t) : t.eng = s.eng := by
  obtain ⟨_, _, _, _, _, _, rfl⟩ := h
  rfl
theorem Reported.net {s t : State} (h : Reported s t) : t.net = s.net := by
  obtain ⟨_, _, _, _, _, _, rfl⟩ := h
  rfl
theorem Reported.sec {s t : State} (h : Reported s t) : t.sec = s.sec := by
  obtain ⟨_, _, _, _, _, _, rfl⟩ := h
  rfl
theorem Reported.pm {s t : State} (h : Reported s t) : t.pm = s.pm := by
  obtain ⟨_, _, _, _, _, _, rfl⟩ := h
  rfl
theorem Reported.sap {s t : State} (h : Reported s t) : t.sap = s.sap := by
  obtain ⟨_, _, _, _, _, _, rfl⟩ := h
  rfl
theorem Reported.conv {s t : State} (h : Reported s t) : t.conv = s.conv := by
  obtain ⟨_, _, _, _, _, _, rfl⟩ := h
  rfl
theorem Reported.paired {s t : State} (h : Reported s t) : t.paired = s.paired := by
  obtain ⟨_, _, _, _, _, _, rfl⟩ := h
  rfl
theorem Reported.psc {s t : State} (h : Reported s t) : t.psc = s.psc := by
  obtain ⟨_, _, _, _, _, _, rfl⟩ := h
  rfl
theorem Reported.pair {s t : State} (h : Reported s t) : t.pair = s.pair := by
  obtain ⟨_, _, _, _, _, _, rfl⟩ := h
  rfl
theorem Reported.wit {s t : State} (h : Reported s t) : t.wit = s.wit := by
  obtain ⟨_, _, _, _, _, _, rfl⟩ := h
  rfl
theorem Reported.rs {s t : State} (h : Reported s t) : t.rs = s.rs := by
  obtain ⟨_, _, _, _, _, _, rfl⟩ := h
  rfl
theorem Reported.tw {s t : State} (h : Reported s t) : t.tw = s.tw := by
  obtain ⟨_, _, _, _, _, _, rfl⟩ := h
  rfl

@[simp] theorem raiseIrq_pending (s : State) (b : Nat) : (raiseIrq s b).pending = s.pending := (raiseIrq_reported _ _).pending
@[simp] theorem raiseIrq_sctr (s : State) (b : Nat) : (raiseIrq s b).sctr = s.sctr := (raiseIrq_reported _ _).sctr
@[simp] theorem raiseIrq_clock (s : State) (b : Nat) : (raiseIrq s b).clock = s.clock := (raiseIrq_reported _ _).clock
@[simp] theorem raiseIrq_dsp (s : State) (b : Nat) : (raiseIrq s b).dsp = s.dsp := (raiseIrq_reported _ _).dsp
@[simp] theorem raiseIrq_eng (s : State) (b : Nat) : (raiseIrq s b).eng = s.eng := (raiseIrq_reported _ _).eng
@[simp] theorem raiseIrq_net (s : State) (b : Nat) : (raiseIrq s b).net = s.net := (raiseIrq_reported _ _).net
@[simp] theorem raiseIrq_sec (s : State) (b : Nat) : (raiseIrq s b).sec = s.sec := (raiseIrq_reported _ _).sec
@[simp] theorem raiseIrq_pm (s : State) (b : Nat) : (raiseIrq s b).pm = s.pm := (raiseIrq_reported _ _).pm
@[simp] theorem raiseIrq_sap (s : State) (b : Nat) : (raiseIrq s b).sap = s.sap := (raiseIrq_reported _ _).sap
@[simp] theorem raiseIrq_conv (s : State) (b : Nat) : (raiseIrq s b).conv = s.conv := (raiseIrq_reported _ _).conv
@[simp] theorem raiseIrq_paired (s : State) (b : Nat) : (raiseIrq s b).paired = s.paired := (raiseIrq_reported _ _).paired
@[simp] theorem raiseIrq_psc (s : State) (b : Nat) : (raiseIrq s b).psc = s.psc := (raiseIrq_reported _ _).psc
@[simp] theorem raiseIrq_pair (s : State) (b : Nat) : (raiseIrq s b).pair = s.pair := (raiseIrq_reported _ _).pair
@[simp] theorem raiseIrq_wit (s : State) (b : Nat) : (raiseIrq s b).wit = s.wit := (raiseIrq_reported _ _).wit
@[simp] theorem raiseIrq_rs (s : State) (b : Nat) : (raiseIrq s b).rs = s.rs := (raiseIrq_reported _ _).rs
@[simp] theorem raiseIrq_tw (s : State) (b : Nat) : (raiseIrq s b).tw = s.tw := (raiseIrq_reported _ _).tw

@[simp] theorem setFaults_pending (s : State) (c : Nat) (m : Word) : (setFaults s c m).pending = s.pending := (setFaults_reported _ _ _).pending
@[simp] theorem setFaults_sctr (s : State) (c : Nat) (m : Word) : (setFaults s c m).sctr = s.sctr := (setFaults_reported _ _ _).sctr
@[simp] theorem setFaults_clock (s : State) (c : Nat) (m : Word) : (setFaults s c m).clock = s.clock := (setFaults_reported _ _ _).clock
@[simp] theorem setFaults_dsp (s : State) (c : Nat) (m : Word) : (setFaults s c m).dsp = s.dsp := (setFaults_reported _ _ _).dsp
@[simp] theorem setFaults_eng (s : State) (c : Nat) (m : Word) : (setFaults s c m).eng = s.eng := (setFaults_reported _ _ _).eng
@[simp] theorem setFaults_net (s : State) (c : Nat) (m : Word) : (setFaults s c m).net = s.net := (setFaults_reported _ _ _).net
@[simp] theorem setFaults_sec (s : State) (c : Nat) (m : Word) : (setFaults s c m).sec = s.sec := (setFaults_reported _ _ _).sec
@[simp] theorem setFaults_pm (s : State) (c : Nat) (m : Word) : (setFaults s c m).pm = s.pm := (setFaults_reported _ _ _).pm
@[simp] theorem setFaults_sap (s : State) (c : Nat) (m : Word) : (setFaults s c m).sap = s.sap := (setFaults_reported _ _ _).sap
@[simp] theorem setFaults_conv (s : State) (c : Nat) (m : Word) : (setFaults s c m).conv = s.conv := (setFaults_reported _ _ _).conv
@[simp] theorem setFaults_paired (s : State) (c : Nat) (m : Word) : (setFaults s c m).paired = s.paired := (setFaults_reported _ _ _).paired
@[simp] theorem setFaults_psc (s : State) (c : Nat) (m : Word) : (setFaults s c m).psc = s.psc := (setFaults_reported _ _ _).psc
@[simp] theorem setFaults_pair (s : State) (c : Nat) (m : Word) : (setFaults s c m).pair = s.pair := (setFaults_reported _ _ _).pair
@[simp] theorem setFaults_wit (s : State) (c : Nat) (m : Word) : (setFaults s c m).wit = s.wit := (setFaults_reported _ _ _).wit
@[simp] theorem setFaults_rs (s : State) (c : Nat) (m : Word) : (setFaults s c m).rs = s.rs := (setFaults_reported _ _ _).rs
@[simp] theorem setFaults_tw (s : State) (c : Nat) (m : Word) : (setFaults s c m).tw = s.tw := (setFaults_reported _ _ _).tw

@[simp] theorem setFault_pending (s : State) (c b : Nat) : (setFault s c b).pending = s.pending := (setFault_reported _ _ _).pending
@[simp] theorem setFault_sctr (s : State) (c b : Nat) : (setFault s c b).sctr = s.sctr := (setFault_reported _ _ _).sctr
@[simp] theorem setFault_clock (s : State) (c b : Nat) : (setFault s c b).clock = s.clock := (setFault_reported _ _ _).clock
@[simp] theorem setFault_dsp (s : State) (c b : Nat) : (setFault s c b).dsp = s.dsp := (setFault_reported _ _ _).dsp
@[simp] theorem setFault_eng (s : State) (c b : Nat) : (setFault s c b).eng = s.eng := (setFault_reported _ _ _).eng
@[simp] theorem setFault_net (s : State) (c b : Nat) : (setFault s c b).net = s.net := (setFault_reported _ _ _).net
@[simp] theorem setFault_sec (s : State) (c b : Nat) : (setFault s c b).sec = s.sec := (setFault_reported _ _ _).sec
@[simp] theorem setFault_pm (s : State) (c b : Nat) : (setFault s c b).pm = s.pm := (setFault_reported _ _ _).pm
@[simp] theorem setFault_sap (s : State) (c b : Nat) : (setFault s c b).sap = s.sap := (setFault_reported _ _ _).sap
@[simp] theorem setFault_conv (s : State) (c b : Nat) : (setFault s c b).conv = s.conv := (setFault_reported _ _ _).conv
@[simp] theorem setFault_paired (s : State) (c b : Nat) : (setFault s c b).paired = s.paired := (setFault_reported _ _ _).paired
@[simp] theorem setFault_psc (s : State) (c b : Nat) : (setFault s c b).psc = s.psc := (setFault_reported _ _ _).psc
@[simp] theorem setFault_pair (s : State) (c b : Nat) : (setFault s c b).pair = s.pair := (setFault_reported _ _ _).pair
@[simp] theorem setFault_wit (s : State) (c b : Nat) : (setFault s c b).wit = s.wit := (setFault_reported _ _ _).wit
@[simp] theorem setFault_rs (s : State) (c b : Nat) : (setFault s c b).rs = s.rs := (setFault_reported _ _ _).rs
@[simp] theorem setFault_tw (s : State) (c b : Nat) : (setFault s c b).tw = s.tw := (setFault_reported _ _ _).tw

@[simp] theorem logAt_pending (s : State) (frac : BitVec 16) (code source sev : Nat) (args : List Byte) : (logAt s frac code source sev args).pending = s.pending := (logAt_reported _ _ _ _ _ _).pending
@[simp] theorem logAt_sctr (s : State) (frac : BitVec 16) (code source sev : Nat) (args : List Byte) : (logAt s frac code source sev args).sctr = s.sctr := (logAt_reported _ _ _ _ _ _).sctr
@[simp] theorem logAt_clock (s : State) (frac : BitVec 16) (code source sev : Nat) (args : List Byte) : (logAt s frac code source sev args).clock = s.clock := (logAt_reported _ _ _ _ _ _).clock
@[simp] theorem logAt_dsp (s : State) (frac : BitVec 16) (code source sev : Nat) (args : List Byte) : (logAt s frac code source sev args).dsp = s.dsp := (logAt_reported _ _ _ _ _ _).dsp
@[simp] theorem logAt_eng (s : State) (frac : BitVec 16) (code source sev : Nat) (args : List Byte) : (logAt s frac code source sev args).eng = s.eng := (logAt_reported _ _ _ _ _ _).eng
@[simp] theorem logAt_net (s : State) (frac : BitVec 16) (code source sev : Nat) (args : List Byte) : (logAt s frac code source sev args).net = s.net := (logAt_reported _ _ _ _ _ _).net
@[simp] theorem logAt_sec (s : State) (frac : BitVec 16) (code source sev : Nat) (args : List Byte) : (logAt s frac code source sev args).sec = s.sec := (logAt_reported _ _ _ _ _ _).sec
@[simp] theorem logAt_pm (s : State) (frac : BitVec 16) (code source sev : Nat) (args : List Byte) : (logAt s frac code source sev args).pm = s.pm := (logAt_reported _ _ _ _ _ _).pm
@[simp] theorem logAt_sap (s : State) (frac : BitVec 16) (code source sev : Nat) (args : List Byte) : (logAt s frac code source sev args).sap = s.sap := (logAt_reported _ _ _ _ _ _).sap
@[simp] theorem logAt_conv (s : State) (frac : BitVec 16) (code source sev : Nat) (args : List Byte) : (logAt s frac code source sev args).conv = s.conv := (logAt_reported _ _ _ _ _ _).conv
@[simp] theorem logAt_paired (s : State) (frac : BitVec 16) (code source sev : Nat) (args : List Byte) : (logAt s frac code source sev args).paired = s.paired := (logAt_reported _ _ _ _ _ _).paired
@[simp] theorem logAt_psc (s : State) (frac : BitVec 16) (code source sev : Nat) (args : List Byte) : (logAt s frac code source sev args).psc = s.psc := (logAt_reported _ _ _ _ _ _).psc
@[simp] theorem logAt_pair (s : State) (frac : BitVec 16) (code source sev : Nat) (args : List Byte) : (logAt s frac code source sev args).pair = s.pair := (logAt_reported _ _ _ _ _ _).pair
@[simp] theorem logAt_wit (s : State) (frac : BitVec 16) (code source sev : Nat) (args : List Byte) : (logAt s frac code source sev args).wit = s.wit := (logAt_reported _ _ _ _ _ _).wit
@[simp] theorem logAt_rs (s : State) (frac : BitVec 16) (code source sev : Nat) (args : List Byte) : (logAt s frac code source sev args).rs = s.rs := (logAt_reported _ _ _ _ _ _).rs
@[simp] theorem logAt_tw (s : State) (frac : BitVec 16) (code source sev : Nat) (args : List Byte) : (logAt s frac code source sev args).tw = s.tw := (logAt_reported _ _ _ _ _ _).tw

@[simp] theorem logEv_pending (s : State) (code source sev : Nat) (args : List Byte) : (logEv s code source sev args).pending = s.pending := (logEv_reported _ _ _ _ _).pending
@[simp] theorem logEv_sctr (s : State) (code source sev : Nat) (args : List Byte) : (logEv s code source sev args).sctr = s.sctr := (logEv_reported _ _ _ _ _).sctr
@[simp] theorem logEv_clock (s : State) (code source sev : Nat) (args : List Byte) : (logEv s code source sev args).clock = s.clock := (logEv_reported _ _ _ _ _).clock
@[simp] theorem logEv_dsp (s : State) (code source sev : Nat) (args : List Byte) : (logEv s code source sev args).dsp = s.dsp := (logEv_reported _ _ _ _ _).dsp
@[simp] theorem logEv_eng (s : State) (code source sev : Nat) (args : List Byte) : (logEv s code source sev args).eng = s.eng := (logEv_reported _ _ _ _ _).eng
@[simp] theorem logEv_net (s : State) (code source sev : Nat) (args : List Byte) : (logEv s code source sev args).net = s.net := (logEv_reported _ _ _ _ _).net
@[simp] theorem logEv_sec (s : State) (code source sev : Nat) (args : List Byte) : (logEv s code source sev args).sec = s.sec := (logEv_reported _ _ _ _ _).sec
@[simp] theorem logEv_pm (s : State) (code source sev : Nat) (args : List Byte) : (logEv s code source sev args).pm = s.pm := (logEv_reported _ _ _ _ _).pm
@[simp] theorem logEv_sap (s : State) (code source sev : Nat) (args : List Byte) : (logEv s code source sev args).sap = s.sap := (logEv_reported _ _ _ _ _).sap
@[simp] theorem logEv_conv (s : State) (code source sev : Nat) (args : List Byte) : (logEv s code source sev args).conv = s.conv := (logEv_reported _ _ _ _ _).conv
@[simp] theorem logEv_paired (s : State) (code source sev : Nat) (args : List Byte) : (logEv s code source sev args).paired = s.paired := (logEv_reported _ _ _ _ _).paired
@[simp] theorem logEv_psc (s : State) (code source sev : Nat) (args : List Byte) : (logEv s code source sev args).psc = s.psc := (logEv_reported _ _ _ _ _).psc
@[simp] theorem logEv_pair (s : State) (code source sev : Nat) (args : List Byte) : (logEv s code source sev args).pair = s.pair := (logEv_reported _ _ _ _ _).pair
@[simp] theorem logEv_wit (s : State) (code source sev : Nat) (args : List Byte) : (logEv s code source sev args).wit = s.wit := (logEv_reported _ _ _ _ _).wit
@[simp] theorem logEv_rs (s : State) (code source sev : Nat) (args : List Byte) : (logEv s code source sev args).rs = s.rs := (logEv_reported _ _ _ _ _).rs
@[simp] theorem logEv_tw (s : State) (code source sev : Nat) (args : List Byte) : (logEv s code source sev args).tw = s.tw := (logEv_reported _ _ _ _ _).tw

@[simp] theorem finish_pending (s : State) (c : Nat) (r : Reply) (hw : Bool) : (finish s c r hw).pending = s.pending := (finish_reported _ _ _ _).pending
@[simp] theorem finish_sctr (s : State) (c : Nat) (r : Reply) (hw : Bool) : (finish s c r hw).sctr = s.sctr := (finish_reported _ _ _ _).sctr
@[simp] theorem finish_clock (s : State) (c : Nat) (r : Reply) (hw : Bool) : (finish s c r hw).clock = s.clock := (finish_reported _ _ _ _).clock
@[simp] theorem finish_dsp (s : State) (c : Nat) (r : Reply) (hw : Bool) : (finish s c r hw).dsp = s.dsp := (finish_reported _ _ _ _).dsp
@[simp] theorem finish_eng (s : State) (c : Nat) (r : Reply) (hw : Bool) : (finish s c r hw).eng = s.eng := (finish_reported _ _ _ _).eng
@[simp] theorem finish_net (s : State) (c : Nat) (r : Reply) (hw : Bool) : (finish s c r hw).net = s.net := (finish_reported _ _ _ _).net
@[simp] theorem finish_sec (s : State) (c : Nat) (r : Reply) (hw : Bool) : (finish s c r hw).sec = s.sec := (finish_reported _ _ _ _).sec
@[simp] theorem finish_pm (s : State) (c : Nat) (r : Reply) (hw : Bool) : (finish s c r hw).pm = s.pm := (finish_reported _ _ _ _).pm
@[simp] theorem finish_sap (s : State) (c : Nat) (r : Reply) (hw : Bool) : (finish s c r hw).sap = s.sap := (finish_reported _ _ _ _).sap
@[simp] theorem finish_conv (s : State) (c : Nat) (r : Reply) (hw : Bool) : (finish s c r hw).conv = s.conv := (finish_reported _ _ _ _).conv
@[simp] theorem finish_paired (s : State) (c : Nat) (r : Reply) (hw : Bool) : (finish s c r hw).paired = s.paired := (finish_reported _ _ _ _).paired
@[simp] theorem finish_psc (s : State) (c : Nat) (r : Reply) (hw : Bool) : (finish s c r hw).psc = s.psc := (finish_reported _ _ _ _).psc
@[simp] theorem finish_pair (s : State) (c : Nat) (r : Reply) (hw : Bool) : (finish s c r hw).pair = s.pair := (finish_reported _ _ _ _).pair
@[simp] theorem finish_wit (s : State) (c : Nat) (r : Reply) (hw : Bool) : (finish s c r hw).wit = s.wit := (finish_reported _ _ _ _).wit
@[simp] theorem finish_rs (s : State) (c : Nat) (r : Reply) (hw : Bool) : (finish s c r hw).rs = s.rs := (finish_reported _ _ _ _).rs
@[simp] theorem finish_tw (s : State) (c : Nat) (r : Reply) (hw : Bool) : (finish s c r hw).tw = s.tw := (finish_reported _ _ _ _).tw

/-! ### Registers -/

theorem reports_irq {o : Nat} (h : reports o = false) : o ≠ R.IRQ_STATUS ∧ o ≠ R.MSIX_PBA 0 := by
  simp [reports] at h
  exact ⟨h.1.1.1.1.1.2, h.1.1.1.1.2⟩

theorem getR_raiseIrq_other (s : State) (b o : Nat) (h : reports o = false) : getR (raiseIrq s b) o = getR s o :=
  getR_raiseIrq s b o (reports_irq h).1 (reports_irq h).2

theorem getR_refreshFaults (s : State) (o : Nat) (h : reports o = false) : getR (refreshFaults s) o = getR s o := by
  have h1 : R.SFAULT_SUM ≠ o := by
    rintro rfl
    exact absurd h (by decide)
  have h2 : F.TWT_STAT_ALERT.off ≠ o := by
    rintro rfl
    exact absurd h (by decide)
  unfold refreshFaults
  simp only [apply_ite (getR · o), getR_raiseIrq_other _ _ _ h, getR_setF_other _ _ _ _ h2, getR_setR_other _ _ _ _ h1, ite_self]

/-- A sticky fault of a class shows in no register but the reporting ones. -/
theorem getR_setFaults (s : State) (c : Nat) (m : Word) (o : Nat) (hc : c < 16) (h : reports o = false) :
    getR (setFaults s c m) o = getR s o := by
  have h1 : R.SFAULT c ≠ o := by
    rintro rfl
    have : reports (R.SFAULT c) = true := by
      have h1 : 0x0100 ≤ R.SFAULT c := by simp only [R.SFAULT]; omega
      have h2 : R.SFAULT c < 0x0140 := by simp only [R.SFAULT]; omega
      simp [reports, h1, h2]
    simp [this] at h
  unfold setFaults
  rw [getR_refreshFaults _ _ h, getR_setR_other _ _ _ _ h1]

theorem getR_setFault (s : State) (c b o : Nat) (hc : c < 16) (h : reports o = false) : getR (setFault s c b) o = getR s o :=
  getR_setFaults s c _ o hc h

theorem getR_refreshFifo (s : State) (o : Nat) (h : reports o = false) : getR (refreshFifo s) o = getR s o := by
  have h1 : R.LOG_STAT ≠ o := by
    rintro rfl
    exact absurd h (by decide)
  unfold refreshFifo
  rw [getR_setF_other _ _ _ _ h1]
  exact getR_setF_other _ _ _ _ h1

theorem getR_countDrop (s : State) (v o : Nat) (hv : v < 8) (h : reports o = false) : getR (countDrop s v) o = getR s o := by
  have h1 : R.LOG_DROP v ≠ o := by
    rintro rfl
    have : reports (R.LOG_DROP v) = true := by
      have h1 : 0x9420 ≤ R.LOG_DROP v := by simp only [R.LOG_DROP]; omega
      have h2 : R.LOG_DROP v < 0x9440 := by simp only [R.LOG_DROP]; omega
      simp [reports, h1, h2]
    simp [this] at h
  have e : getR (countDrop s v) o = getR (setFault (bump s (R.LOG_DROP v)) 9 1) o := rfl
  rw [e, getR_setFault _ _ _ _ (by decide) h]
  exact getR_setR_other _ _ _ _ h1

theorem lowestSev_le (l : List Rec) : lowestSev l ≤ 7 := by
  have : ∀ (l : List Rec) (m : Nat), m ≤ 7 → l.foldl (fun m r => min m r.sev) m ≤ 7 := by
    intro l
    induction l with
    | nil => intro m h; exact h
    | cons r l ih => intro m h; exact ih _ (Nat.le_trans (Nat.min_le_left _ _) h)
  exact this l 7 (by omega)

theorem getR_enqueue (s : State) (e : Rec) (o : Nat) (he : e.sev < 8) (h : reports o = false) :
    getR (enqueue s e) o = getR s o := by
  unfold enqueue
  split
  · exact getR_refreshFifo _ _ h
  · dsimp only
    split
    · split
      · rw [getR_refreshFifo _ _ h]
        exact getR_countDrop _ _ _ (by have := lowestSev_le s.log.fifo; omega) h
      · rfl
    · exact getR_countDrop _ _ _ he h

/-- An event shows in no register but the reporting ones. -/
theorem getR_offer (s : State) (e : Rec) (o : Nat) (he : e.sev < 8) (h : reports o = false) :
    getR (offer s e) o = getR s o := by
  have h1 : R.LOG_MERGES ≠ o := by
    rintro rfl
    exact absurd h (by decide)
  unfold offer
  split
  · rfl
  · split
    · exact getR_setR_other _ _ _ _ h1
    · split
      · exact getR_setR_other _ _ _ _ h1
      · exact getR_enqueue _ _ _ he h

theorem getR_logAt (s : State) (frac : BitVec 16) (code source sev : Nat) (args : List Byte) (o : Nat) (he : sev < 8)
    (h : reports o = false) : getR (logAt s frac code source sev args) o = getR s o := getR_offer _ _ _ he h

theorem getR_logEv (s : State) (code source sev : Nat) (args : List Byte) (o : Nat) (he : sev < 8)
    (h : reports o = false) : getR (logEv s code source sev args) o = getR s o := getR_offer _ _ _ he h

/-- A response shows in no register but those of its channel and the reporting ones. -/
theorem getR_finishWith (s : State) (c st code detail : Nat) (p : List Byte) (hw : Bool) (o : Nat) (h : reports o = false)
    (hc : channelReg c o = false) : getR (finishWith s c st code detail p hw) o = getR s o := by
  have h1 : R.MB_STAT c ≠ o := by
    rintro rfl
    simp [channelReg] at hc
  have h2 : R.MB_DONE_SCTR c ≠ o := by
    rintro rfl
    unfold channelReg R.MB_STAT R.MB_DONE_SCTR at hc
    simp at hc
    omega
  have hb : ∀ (x : Cp) (w : Word), getR (setR (putF (setF { s with cp := x } (F.MB_STAT_STATE c) mbDone)
      (F.MB_STAT_HW_ANSWER c) hw) (R.MB_DONE_SCTR c) w) o = getR s o := by
    intro x w
    rw [getR_setR_other _ _ _ _ h2]
    unfold putF
    rw [getR_setF_other _ _ _ _ h1, getR_setF_other _ _ _ _ h1]
    rfl
  unfold finishWith
  dsimp only
  split
  · rw [getR_raiseIrq_other _ _ _ h]
    exact hb _ _
  · exact hb _ _

theorem getR_finish (s : State) (c : Nat) (r : Reply) (hw : Bool) (o : Nat) (h : reports o = false)
    (hc : channelReg c o = false) : getR (finish s c r hw) o = getR s o := getR_finishWith _ _ _ _ _ _ _ _ h hc

/-- Taking a request shows in no register but those of its channel. -/
theorem getR_accept (s : State) (c o : Nat) (hc : channelReg c o = false) : getR (accept s c) o = getR s o := by
  have h1 : R.MB_STAT c ≠ o := by
    rintro rfl
    simp [channelReg] at hc
  have h2 : R.MB_ACCEPT_SCTR c ≠ o := by
    rintro rfl
    unfold channelReg R.MB_STAT R.MB_ACCEPT_SCTR at hc
    simp at hc
    omega
  unfold accept
  rw [getR_setR_other _ _ _ _ h2]
  exact getR_setF_other _ _ _ _ h1

end Sys2Proof.Machine
end

