-- ==== Sys2Proof/Machine/Balls.lean ====
section
/-! DEFINITION. The control balls that this node drives (R56, R336, R351, R352, R446, R478, R517, R524, R529, R540, R573, R574, R576,
R578, R580). What the data balls send is a command's output (log entry 2). -/

namespace Sys2Proof.Machine

/-- Control balls, and the clock outputs at a place of the current sp: an AUD cycle, or for `MCLK_OUT[m]` half of one. -/
inductive Ball where
  | ampEn (g : Fin 4)
  | seqEn (g : Fin 6)
  | faultN
  | thermTripN
  | wakeOutN
  | pcieWakeN
  | yieldN
  | pairOk
  | twtAlertN
  | mclkOut (m : Fin 4) (half : Nat)
  | clockOut (k : Fin 3) (cycle : Nat)
  deriving DecidableEq, Repr

/-- An open-drain ball: low while asserted, else released (R580). -/
def openDrain (asserted : Bool) : Option Bool := if asserted then some false else none

/-- Whether the 1.8 V bank and the clocks it carries are up (R522, R576). -/
def io18Up (s : State) : Bool := groupPg s 2

/-- Whether the core and the blocks it carries are powered: outside OFF and Dormant, and rails not down (R534, R576). -/
def corePowered (s : State) : Bool := groupPg s 0

/-- What ball `b` is driven to: `none` is high impedance, or an open-drain ball released (R578, R580). `PAIR_OK` carries a strap until
the straps are sampled, at the entry to BOOT (R573, R574). -/
def ballLevel (s : State) : Ball → Option Bool
  | .ampEn g => if corePowered s && pscDrives s && modelA s && isF s F.PM_GATE_STAT_PSC then some (s.psc.en.getD g.val false) else none
  | .seqEn g => some (groupEn s g.val)
  | .faultN => openDrain (corePowered s && unmaskedOf s != 0)
  | .thermTripN => openDrain s.pm.thermTrip
  | .wakeOutN => openDrain s.pm.wakeOut
  | .pcieWakeN => openDrain s.host.pcieWake
  | .yieldN => openDrain (corePowered s && s.pair.yieldOut == some s.sctr.toNat)
  | .pairOk => if corePowered s then some (pairOk s) else none
  | .twtAlertN => openDrain (corePowered s && isF s F.TWT_STAT_ALERT)
  | .mclkOut m h => if io18Up s then some (mclkHigh s m.val h) else none
  | .clockOut k c => if io18Up s then some (outHigh s k c) else none

end Sys2Proof.Machine
end

