-- ==== Sys2Proof/Tests/Slice0.lean ====
section
/-! SUPPORT. The author's own tests: what well-formedness refuses, instruction words and examples taken from the spec, and for every
statement with hypotheses a state and operands that meet them, one witness for each of its clauses. -/

namespace Sys2Proof.Tests

open Sys2Proof Sys2Proof.Machine

set_option Elab.async false
set_option maxRecDepth 10000
set_option synthInstance.maxSize 100000
set_option synthInstance.maxHeartbeats 400000

/-! ### Small states -/

/-- A state with fields of registers set. -/
def sets (s : State) (l : List (Fld × Nat)) : State := l.foldl (fun s p => setF s p.1 p.2) s

/-- A state with functions enabled. -/
def ons (s : State) (l : List Nat) : State := l.foldl (fun s f => setFn s f fnEnabled) s

/-- The reset state with every register at zero, so that what a test sets is all there is. -/
def blank : State := { State.reset with regs := [] }

/-- A node that runs, its functions disabled. -/
def running : State := setF blank F.NODE_STAT_STATE 3

/-- A request with TAG 7 waits on channel 0 (R412, R414). -/
def asked (s : State) (op : Nat) (p : List Byte) (fn : Nat := 0) : State :=
  let b := le 2 op ++ le 2 7 ++ le 2 p.length ++ le 2 0 ++ le 1 fn ++ le 3 0 ++ le 4 0 ++ p
  setF { s with cp := { s.cp with mbx := memSetList s.cp.mbx (mbReqArea 0) b } } (F.MB_STAT_STATE 0) mbPending

/-- Channel 0 waits on the same request (R412). -/
def waits (s : State) (op : Nat) (p : List Byte) (fn : Nat := 0) : State := setF (asked s op p fn) (F.MB_STAT_STATE 0) mbRunning


/-! ### What well-formedness refuses: an ill-formed term for each check, and beside it one at the edge of what it accepts -/

/-- A press instruction's issue on press 1 without predication, and one with PE set (R98). -/
def plain1 : Issue := ⟨1, false, 0, false, []⟩
def pred1 : Issue := ⟨1, true, 0, false, []⟩

theorem test_wf_press : Instr.wf (.nop pred1) = false ∧ Instr.wf (.mset pred1 0 0) = false ∧ Instr.wf (.mlog pred1 0 0 0 .and) = false ∧
    Instr.wf (.rep pred1 1) = false ∧ Instr.wf (.rep plain1 0) = false ∧ Instr.wf (.repEnd pred1) = false ∧
    Instr.wf (.pset plain1 0 0 0 0) = false ∧ Instr.wf (.pset plain1 0 0 0x8001 0) = false ∧ Instr.wf (.pset plain1 0 0 0x8000 0) = true ∧
    Instr.wf (.stx plain1 0 false 0 0x27FF) = false ∧ Instr.wf (.stx plain1 0 false 0 0x3000) = false ∧ Instr.wf (.stx plain1 0 true 0 0x2801) = false ∧
    Instr.wf (.stx plain1 0 true 0 0x2FE0) = true ∧ Instr.wf (.ldd plain1 0 0 0 false 3 0) = false ∧ Instr.wf (.std plain1 0 0 0 false 18 0) = false ∧
    Instr.wf (.ldd plain1 0 0 0 false 17 0) = true ∧ Instr.wf (.stm plain1 0 false 0 true 1) = false ∧ Instr.wf (.stm plain1 0 true 0 false 16) = false ∧
    Instr.wf (.stm plain1 0 true 0 true 32) = true := by decide

theorem test_wf_upsets : Instr.wf (.nop { plain1 with upsets := [.memory 0 31 32768 true] }) = false ∧
    Instr.wf (.nop { plain1 with upsets := [.memory 1 31 4096 true] }) = false ∧ Instr.wf (.nop { plain1 with upsets := [.memory 2 1 0 true] }) = false ∧
    Instr.wf (.nop { plain1 with upsets := [.memory 2 0 49152 true] }) = false ∧ Instr.wf (.nop { plain1 with upsets := [.memory 2 0 49151 true] }) = true ∧
    Instr.wf (.spBoundary [⟨0, 0, 0, 32768, false⟩]) = false := by decide

theorem test_wf_events : Instr.wf (.xoFault 0) = false ∧ Instr.wf (.refLos 0 (List.replicate 9 0)) = false ∧
    Instr.wf (.refWindowEnd [] 0 0 []) = false ∧ Instr.wf (.waitToRestoreExpiry 0 (List.replicate 9 0)) = false ∧
    Instr.wf (.dpllStageAdvance 0 (List.replicate 9 0)) = false ∧ Instr.wf (.phaseStepDone (List.replicate 9 0)) = false ∧
    Instr.wf (.ethLinkDown 0 0 false false) = false ∧ Instr.wf (.convUnlocked 0 0) = false ∧ Instr.wf (.sapClockFault 0 0) = false ∧
    Instr.wf (.mbRequestWrite 0 511 [0, 0]) = false ∧ Instr.wf (.mbRequestWrite 0 511 [0]) = true ∧ Instr.wf (.endpointReset 0) = false ∧
    Instr.wf (.hlLinkUp 0 1 true true true 0 0) = false ∧ Instr.wf (.hlLinkUp 1 0 true true true 0 0) = false ∧ Instr.wf (.dmaError 1 0 none) = false ∧
    Instr.wf (.spiWrite 3 0 0 [] []) = false ∧ Instr.wf (.spiWrite 2 0 0 [0, 0, 0, 0] []) = false ∧ Instr.wf (.spiWrite 2 0 0 [0, 0, 0, 0] [1]) = true ∧
    Instr.wf (.logSlotRead false 0 0 0 false) = false ∧ Instr.wf (.logSlotRead false 0 7 2 false) = false ∧
    Instr.wf (.logSlotRead false 0 7 1 false) = true ∧ Instr.wf (.tempReading []) = false ∧ Instr.wf (.pmReadings 0 []) = false ∧
    Instr.wf (.pmBootDone [] [] 0 []) = false := by decide

/-- A frame of the pair link and an Omzor message whose TAG is too short. -/
def shortFrame : PairFrame := ⟨⟨2, 64, 0, none, false, false, false, false, false⟩, 5, 1, 0, 1, 0, [], [0]⟩
def shortMsg : OmMsg := ⟨⟨2, 64, 0, none, false, false, false, false, false⟩, 1, 9, 1, 0, 0, 0, [], [0]⟩

theorem test_wf_messages : Instr.wf (.pairHeartbeatReceive shortFrame 0) = false ∧ Instr.wf (.digestReceive shortFrame) = false ∧
    Instr.wf (.restrikeAccept shortFrame) = false ∧ Instr.wf (.unitPartReceive shortFrame) = false ∧ Instr.wf (.stateDigestReceive shortFrame) = false ∧
    Instr.wf (.omzorHeartbeatReceive none shortMsg) = false ∧ Instr.wf (.roleCommand shortMsg) = false ∧
    Instr.wf (.sessionHello .pair (.receive (.pair [shortFrame]))) = false ∧ Instr.wf (.sessionFinish .witness (.receive (.omzor [shortMsg]))) = false ∧
    Instr.wf (.sessionHello .pair .send) = true := by decide

/-! ### Instruction words, written from the formats of R96, R97 and R102 -/

/-- The instruction of a word, well formed, and its word again. -/
def both (i : Instr) (w : BitVec 64) : Bool := encode i == some w && decode 1 [] w == some i && i.wf

theorem test_words_setup : both (.vli ⟨1, true, 2, true, []⟩ 15 0x3F800000) 0x077C00003F800000 = true ∧
    both (.cset plain1 3 2047 0xFFF) 0x183FFFFFE0000000 = true ∧ both (.rep plain1 0xFFFF) 0x2C0000000000FFFF = true := by decide +kernel

theorem test_words_float : both (.fma plain1 1 2 3 4) 0x4C048D0000000000 = true ∧ both (.fcmp plain1 2 1 14 .ge) 0x6000782A00000000 = true ∧
    both (.log2a plain1 3 4) 0x680D000000000000 = true := by decide +kernel

/-- The example of R102, `MAC LA1,[PTR0]+,[CPTR0]+`, among them. -/
theorem test_words_accumulate : both (.mac plain1 1 (.mem 0 0 true) (.coef 0 0 true)) 0x8014200300000000 = true ∧
    both (.xmac plain1 2 (.v 9) 3 0xFF false) 0x84200026FFC00000 = true ∧ both (.minx plain1 (.ex 0x2000) 0xFFFF 63 1) 0xA0088003FFFFF040 = true := by
  decide +kernel

theorem test_words_memory : both (.ld plain1 7 7 0xFF true) 0xC01FFFC000000000 = true ∧ both (.stx plain1 1 true 31 0x2800) 0xD007F00000002800 = true ∧
    both (.ldd plain1 2 3 3 true 17 0x3FFFFF) 0xD408FC7FFFFF0000 = true ∧ both (.norm plain1 5 3 2) 0xF017800000000000 = true := by decide +kernel

/-- A reserved opcode, SXK 0b11, REL 0b110 and a reserved bit stand for no instruction (R97, R98). -/
theorem test_words_reserved : decode 1 [] 0x3400000000000000 = none ∧ decode 1 [] 0x880C000000000000 = none ∧
    decode 1 [] 0x6000000C00000000 = none ∧ decode 1 [] 1 = none := by decide +kernel

/-! ### The spec's own examples -/

/-- The CRC-32C of "123456789" (R137). -/
theorem test_crc32c : crc32c [0x31, 0x32, 0x33, 0x34, 0x35, 0x36, 0x37, 0x38, 0x39] = 0xE3069283 := by decide +kernel

/-- The examples of R80, R81 and R85: a result below 2^-126, a subnormal operand, a reciprocal, the floor of an accumulated product. -/
theorem test_arithmetic : (fmul 0x00800000 0x3F000000).w = 0 ∧ (fadd 0x00400000 0x3F800000).w = 0x3F800000 ∧ (rcpa 0x40400000).w = 0x3EAAAAA8 ∧
    (accRead (accAdd (accAdd Acc.reset (mulX (cls 0x2B800001) (cls 0x30800000))).1 (mulX (cls 0xAB800001) (cls 0x30800000))).1).1 = 0x9F800000 := by
  decide +kernel

/-- The repeat blocks of R117's example take 66 and 203 slots. -/
theorem test_repeat_slots : expanded [0x2C00000000000010, 0, 0, 0, 0, 0x3000000000000000] 0 [] = 66 ∧
    expanded [0x2C00000000000003, 0, 0x2C00000000000010, 0, 0, 0, 0, 0x3000000000000000, 0x3000000000000000] 0 [] = 203 := by decide +kernel

/-- Frame 2 at 30000/1001 Hz has its boundary at sp 6,407 (R58). -/
theorem test_frame_boundary : frameBoundary 7 2 = 6407 := by decide +kernel

/-- The quality levels of R37. -/
theorem test_quality_levels : [6, 7, 52, 187, 248, 255, 13].map qlOfClass = [2, 3, 5, 5, 8, 15, 10] := by decide +kernel

/-- The schedule of R468: the plate loader's 512 bytes and the CP's read of 4 beats at cycle 5, the target parked on the plate loader. -/
theorem test_bus_schedule :
    schedule { State.reset with host := { State.reset.host with parked := State.reset.host.parked.set 0 3 } } 0
      [⟨3, 0, 0x200100, 32⟩, ⟨0, 5, 0x100, 4⟩] =
    ([⟨3, 0x200100, 16, 0⟩, ⟨0, 0x100, 4, 16⟩, ⟨3, 0x200200, 16, 20⟩], 3) := by decide +kernel

/-- The record bytes of R483's example. -/
theorem test_record_bytes : (recBytes ⟨0x1A2B, 30000011, 256, 0x0461, 0x13, 2, true, false, 2, 30050011, 1⟩).take 30 =
    [0x2B, 0x1A, 0, 0, 0x8B, 0xC3, 0xC9, 1, 0, 0, 0, 1, 0x61, 4, 0x13, 0x0A, 2, 0, 0xDB, 0x86, 0xCA, 1, 1, 0, 0, 0, 0, 0, 0, 0] := by
  decide +kernel

/-- 0.75 V in LINEAR16 with exponent -12 is 0x0C00 (R531). -/
theorem test_linear16 : linear16 (-12) 750 = 0x0C00 := by decide +kernel

/-! ### The statements over all commands -/

theorem test_SctrMovesOnlyAtBoundary_applies : (∃ t, exec .spiStatus State.reset = .next t) ∧ ∀ hits, Instr.spiStatus ≠ .spBoundary hits :=
  ⟨⟨_, rfl⟩, fun _ h => Instr.noConfusion h⟩

/-- A state whose customer key A is programmed and revoked. -/
def keyed : State := { State.reset with sec := { State.reset.sec with otp := { State.reset.sec.otp with keyA := some [7], revokedA := true } } }

theorem test_OtpIsWrittenOnce_applies : (∃ t, exec .powerOnReset keyed = .next t) ∧ keyed.sec.otp.keyA = some [7] ∧ keyed.sec.otp.revokedA = true :=
  ⟨⟨_, rfl⟩, rfl, rfl⟩

theorem test_CommandsKeepOtherParts_applies : Part.cp ∈ mayChange (.mbEcho 0) ∧ (∃ t, exec (.mbEcho 0) (asked running 0x0107 [9]) = .next t) ∧
    Part.sec ∉ mayChange (.mbEcho 0) := ⟨by decide, ⟨_, rfl⟩, by decide⟩

theorem test_EventsKeepOtherParts_applies : Part.cp ∉ mayChange .spiStatus ∧ (∃ t, exec .spiStatus running = .next t) ∧
    Part.sec ∉ mayChange .spiStatus := ⟨by decide, ⟨_, rfl⟩, by decide⟩

theorem test_StepRunsFrontCommand_applies : State.reset.pending = [] := rfl

theorem test_QueueKeptByEveryStep_applies : (∃ t, exec .spiStatus State.reset = .next t) ∧ (∀ c ∈ State.reset.pending, c.wf = true) ∧
    ∃ t, step State.reset = .next t := ⟨⟨_, rfl⟩, fun _ h => absurd h (List.not_mem_nil), ⟨_, rfl⟩⟩

/-! ### Clocks, references and PTP -/

/-- A node that runs with the clock system enabled; slot 0 is in state `st` and the DPLL in stage `stage`. -/
def clocked (st stage : Nat) : State := sets (ons running [0x20]) [(refField 0, st), (F.DPLL_STAT_STAGE, stage)]

/-- A slot AVAILABLE after three bad windows. -/
def threeBad : State :=
  let s := sets (clocked refAvailable stTrack) [(F.MON_CFG_HARD_LIM, 12)]
  { s with sctr := 96000, clock := { s.clock with slots := s.clock.slots.set 0 { RefSlot.reset with bad := 3 } } }

theorem test_ReferenceMonitor_applies :
    (refState (clocked refAbsent 0) 0 = refAbsent ∧ canSignal (clocked refAbsent 0) 0 = true) ∧
    refPresent (clocked refDisqualified 0) 0 = true ∧
    (refState (clocked refWait 0) 0 = refWait ∧ getF (clocked refWait 0) F.WTR_CFG_WTR ≤ (refSlot (clocked refWait 0) 0).good) ∧
    (threeBad.sctr.toNat % 96000 = 0 ∧ threeBad.clock.winAt ≠ threeBad.sctr.toNat ∧
      getF threeBad F.DPLL_STAT_STAGE ≠ stFreerun ∧ getF threeBad F.DPLL_STAT_STAGE ≠ stHoldover ∧
      refPresent threeBad 0 = true ∧ refType threeBad 0 ≠ 1 ∧ refType threeBad 0 ≠ 2 ∧
      refState threeBad 0 = refAvailable ∧ (refSlot threeBad 0).bad = 3 ∧ hardLimit threeBad < (1201 : Word).toInt.natAbs ∧
      ¬ hardLimit threeBad < (1200 : Word).toInt.natAbs) := by decide +kernel

/-- A slew of 10 ps runs, at 1 ppm. -/
def slewing10 : State :=
  setR (sets (clocked refAvailable stTrack) [(F.TIME_STAT_SLEWING, 1), (F.DPLL_CFG_SLEW, 1)]) R.SLEW_REMAIN 10

theorem test_DpllAndOscillator_applies :
    (getF (clocked 4 stAcquire) F.DPLL_STAT_STAGE = stAcquire ∧ (0xFFF0BDC1 : Word).toInt.natAbs < 1000000) ∧
    (getF (clocked 4 stSettle) F.DPLL_STAT_STAGE = stSettle ∧ (99999 : Word).toInt.natAbs < 100000 ∧
      isF (clocked 4 stSettle) F.DPLL_STAT_SWITCHING = false) ∧
    50000000 < (50000001 : Word).toInt.natAbs ∧
    (getF (clocked 4 stTrack) F.DPLL_STAT_STAGE = stTrack ∧ 1000000 < (1000001 : Word).toInt.natAbs) ∧
    (slewing slewing10 = true ∧ (slewRemain slewing10).natAbs ≤ (slewStep slewing10 (slewRemain slewing10)).1 ∧
      isF slewing10 F.DPLL_STAT_SWITCHING = false) ∧
    nodeAlive (clocked 4 stTrack) = true := by decide +kernel

/-- Slot 1 is of type 5; frames at 25 Hz. -/
def framed (stage : Nat) : State := sets (clocked refAvailable stage) [(F.REF_CFG_TYPE 1, 5), (F.OUT_CFG_FRM_OUT_RATE, 1)]

theorem test_ClockCommands_applies :
    (let s := asked (framed stTrack) 0x0501 (le 4 (10 ^ 9) ++ le 4 0)
     Served s 0 0x0501 (· == 8) ∧ phaseStepRefusal s (BitVec.ofNat 32 (arg s 0 0 4)).toInt false = none ∧
     slewRemain s + (BitVec.ofNat 32 (arg s 0 0 4)).toInt ≠ 0) ∧
    (let s := asked (framed stTrack) 0x0501 (le 4 (10 ^ 9 + 1) ++ le 4 0)
     Served s 0 0x0501 (· == 8) ∧ phaseStepRefusal s (BitVec.ofNat 32 (arg s 0 0 4)).toInt false = some 0x0526) ∧
    (let s := asked (framed stTrack) 0x0501 (le 4 (10 ^ 9) ++ le 4 1)
     Served s 0 0x0501 (· == 8) ∧ phaseStepRefusal s (BitVec.ofNat 32 (arg s 0 0 4)).toInt true = none) ∧
    (let s := asked (framed stTrack) 0x0502 (le 4 4)
     Served s 0 0x0502 (· == 4) ∧ getF s F.DPLL_STAT_STAGE ≠ stFreerun ∧ getF s F.DPLL_STAT_STAGE ≠ stHoldover ∧
     arg s 0 0 4 / 2 ^ 1 % 2 = 0 ∧ arg s 0 0 4 / 2 ^ 2 % 2 = 1 ∧ outPeriod s 2 ≠ 0) ∧
    (let s := asked (framed stHoldover) 0x0502 (le 4 4)
     Served s 0 0x0502 (· == 4) ∧ getF s F.DPLL_STAT_STAGE = stHoldover) ∧
    (let s := asked (framed stTrack) 0x0503 (le 8 (2 ^ 32))
     Served s 0 0x0503 (· == 8) ∧ refType s 1 = 5) ∧
    (let s := asked (clocked 4 stTrack) 0x0503 (le 8 (2 ^ 32))
     Served s 0 0x0503 (· == 8) ∧ ∀ i : Fin 8, refType s i ≠ 5) ∧
    (let s := asked (framed stTrack) 0x0504 [1]
     Served s 0 0x0504 (· == 1) ∧ arg s 0 0 1 < 2) ∧
    (let s := asked (framed stTrack) 0x0504 [2]
     Served s 0 0x0504 (· == 1) ∧ 2 ≤ arg s 0 0 1) := by
  dsimp only [PtpReaches]; decide +kernel

/-- PTP instance 0 on port 0, following `gm` or none; slot 0 is its slot, selected, in stage TRACK. -/
def ptpNode (gm : Option (BitVec 64)) (mode : Nat) : State :=
  let s := sets (ons (clocked refAvailable stTrack) [1, 0x21])
    [(F.ETH_STAT_LINK 0, 1), (F.REF_CFG_TYPE 0, 1), (F.PTP_CFG0_MODE 0x21, mode), (F.PTP_CFG0_DOMAIN 0x21, 127),
     (F.ETH_CFG_MAX_FRAME 1, 1518), (F.DPLL_STAT_SEL_VALID, 1)]
  { s with clock := { s.clock with ptp := s.clock.ptp.set 0 { PtpInst.reset with leader := gm } } }

/-- An untagged frame of 64 bytes to 224.0.1.129. -/
def ptpHead : RxHead := ⟨0, 64, 0x01005E000181, none, false, false, false, false, false⟩

theorem test_PtpMessages_applies :
    (let s := ptpNode (some 0xAC) 1
     PtpReaches s 0 ptpHead 127 ∧ getF s (F.PTP_CFG0_MODE (ptpFn 0)) = 1 ∧ (ptpInst s 0).leader.isSome = true ∧
     ptpSlot s 0 = some 0 ∧ fnOn s 0x20 = true ∧ refPresent s 0 = true ∧ selIs s 0 = true ∧
     getF s F.DPLL_STAT_STAGE ≠ stFreerun ∧ getF s F.DPLL_STAT_STAGE ≠ stHoldover) ∧
    (let s := ptpNode none 1
     PtpReaches s 0 ptpHead 127 ∧ ptpLeads s 0 = true ∧ ptpPort s 0 = some 0 ∧ ethUp s 0 = true ∧ (ethQueue s 0 2).length < 16 ∧
     ptpServed s 0 = true) := by
  dsimp only [PtpReaches]; decide +kernel


/-! ### Presses -/

/-- An issue in press 0 under no predicate. -/
def plain : Issue := ⟨0, false, 0, false, []⟩

/-- The checks of `Issues` as one truth value. -/
def issuesB (s : State) (i : Instr) (h : Issue) : Bool :=
  (match encode i with | some w => canIssue s h.p.val w | none => false) &&
  (match (fetch s h.p.val).key with | some k => markOf (press s h.p.val) 2 k == none | none => true) && h.upsets == []

/-- What `issuesB` accepts issues. -/
theorem issues_of_check {s : State} {i : Instr} {h : Issue} (c : issuesB s i h = true) : Issues s i h := by
  simp only [issuesB, Bool.and_eq_true] at c
  obtain ⟨⟨c1, c2⟩, c3⟩ := c
  refine ⟨?_, ?_, by simpa using c3⟩
  · split at c1
    · exact ⟨_, by assumption, c1⟩
    · cases c1
  · intro k hk
    rw [hk] at c2
    simpa using c2

/-- The engine runs a plate whose program of press 0 is one instruction; V3 of lane 0 is 1.0 and V4 a NaN. -/
def programmed (i : Instr) : State :=
  let x := press running 0
  let l : Lane := { lane running 0 0 with v := ((lane running 0 0).v.set 3 0x3F800000).set 4 0x7FC00001 }
  let s := setPress running 0 { x with prog := [(0, (encode i).getD 0)], lanes := x.lanes.set 0 l }
  { s with dsp := { s.dsp with issueArea := some 0 },
           eng := { s.eng with running := true, banks := s.eng.banks.set 0 { Bank.reset with pressMask := 15, counts := [1] } } }

theorem test_PressVectorResults_applies :
    ((let i : Instr := .mov plain 15 3
      Issues (programmed i) i plain ∧ (vdOf (readyPress (programmed i) 0) i).isSome = true ∧ Selects (programmed i) plain 0 ∧
      Selects (programmed i) plain 33) ∧
     (let i : Instr := .ld plain 2 7 0xFF false
      Issues (programmed i) i plain ∧ (vdOf (readyPress (programmed i) 0) i).isSome = true) ∧
     (let i : Instr := .norm plain 2 3 2
      Issues (programmed i) i plain ∧ (vdOf (readyPress (programmed i) 0) i).isSome = true)) ∧
    (let x : Press := { Press.reset with pend := [(132, .v 33 15 7)] }
     x.pend = [(132, .v 33 15 7)] ∧ ∀ e ∈ x.pend, 131 < e.1) := by
  refine ⟨⟨⟨issues_of_check ?_, ?_⟩, ⟨issues_of_check ?_, ?_⟩, issues_of_check ?_, ?_⟩, ⟨rfl, ?_⟩⟩ <;> decide +kernel

theorem test_PressFloatResults_applies :
    let i : Instr := .fadd plain 5 3 4
    Issues (programmed i) i plain ∧ (floatOf i).isSome = true ∧ Selects (programmed i) plain 0 ∧
    (fadd (vreg (readyPress (programmed i) 0) 0 0 3) (vreg (readyPress (programmed i) 0) 0 0 4)).nan = true := by
  refine ⟨issues_of_check ?_, ?_⟩ <;> decide +kernel

theorem test_PressDelayRead_applies :
    let i : Instr := .ldd plain 5 3 3 true 0 (2 ^ 22 - 1)
    Issues (programmed i) i plain ∧ (Selects (programmed i) plain 31 ∧ laneNo (programmed i) 0 31 / 8 = 3) ∧
    laneNo (programmed i) 0 0 / 8 ≠ 3 := by
  refine ⟨issues_of_check ?_, ?_⟩ <;> decide +kernel

theorem test_PressPointersAndMasks_applies :
    ((let i : Instr := .pset plain 7 0x7FFF 0xFFFF 0xFFFF
      Issues (programmed i) i plain ∧ Selects (programmed i) plain 33) ∧
     (let i : Instr := .ppos plain 7 0x7FFF
      Issues (programmed i) i plain) ∧
     (let i : Instr := .cset plain 3 0x7FF 0xFFF
      Issues (programmed i) i plain) ∧
     (let i : Instr := .ld plain 3 7 0x80 true
      Issues (programmed i) i plain) ∧
     (let i : Instr := .st plain 3 7 0x80 true
      Issues (programmed i) i plain)) ∧
    (let i : Instr := .mset plain 3 0xFFFFFFFF
     Issues (programmed i) i plain) ∧
    (let i : Instr := .mlog plain 3 0 1 .andNot
     Issues (programmed i) i plain) ∧
    (let i : Instr := .fcmp plain 3 3 4 .ne
     Issues (programmed i) i plain) := by
  refine ⟨⟨⟨issues_of_check ?_, ?_⟩, issues_of_check ?_, issues_of_check ?_, issues_of_check ?_, issues_of_check ?_⟩,
    issues_of_check ?_, issues_of_check ?_, issues_of_check ?_⟩ <;> decide +kernel

theorem test_PressSearch_applies :
    (let i : Instr := .srinit plain true
     Issues (programmed i) i plain ∧ Selects (programmed i) plain 0) ∧
    (let i : Instr := .maxx plain (.v 3) 0xFFFF 63 63
     Issues (programmed i) i plain ∧ isNan (xValue (readyPress (programmed i) 0) plain 128 0 0 (.v 3)) = false ∧
     orderKey (lane (readyPress (programmed i) 0) 0 0).srch.value < orderKey (canon (xValue (readyPress (programmed i) 0) plain 128 0 0 (.v 3)))) ∧
    (let i : Instr := .minx plain (.v 3) 0 0 0
     Issues (programmed i) i plain ∧
     ¬ orderKey (canon (xValue (readyPress (programmed i) 0) plain 128 0 0 (.v 3))) < orderKey (lane (readyPress (programmed i) 0) 0 0).srch.value) ∧
    (let i : Instr := .minx plain (.v 4) 0 0 0
     Issues (programmed i) i plain ∧ isNan (xValue (readyPress (programmed i) 0) plain 128 0 0 (.v 4)) = true) ∧
    (let i : Instr := .xred plain true
     Issues (programmed i) i plain ∧
     reduceSearch (readyPress (programmed i) 0) 0 (effMask (readyPress (programmed i) 0) plain) true = some Srch.reset) := by
  refine ⟨⟨issues_of_check ?_, ?_⟩, ⟨issues_of_check ?_, ?_⟩, ⟨issues_of_check ?_, ?_⟩, ⟨issues_of_check ?_, ?_⟩, issues_of_check ?_, ?_⟩ <;>
    decide +kernel

theorem test_PressAccumulators_applies :
    (let i : Instr := .mac plain 3 (.v 3) (.coef 3 0xFF true)
     Issues (programmed i) i plain ∧ (termOf (readyPress (programmed i) 0) i).isSome = true ∧ Selects (programmed i) plain 33) ∧
    (let i : Instr := .xmac plain 0 (.v 3) 3 0xFF true
     Issues (programmed i) i plain ∧ (termOf (readyPress (programmed i) 0) i).isSome = true) ∧
    (let i : Instr := .aadd plain 0 (.ex 0x3FFF)
     Issues (programmed i) i plain ∧ (termOf (readyPress (programmed i) 0) i).isSome = true) ∧
    (let i : Instr := .aclr plain 3
     Issues (programmed i) i plain) ∧
    (let i : Instr := .ains plain 3 3 3 4
     Issues (programmed i) i plain) := by
  refine ⟨⟨issues_of_check ?_, ?_⟩, ⟨issues_of_check ?_, ?_⟩, ⟨issues_of_check ?_, ?_⟩, issues_of_check ?_, issues_of_check ?_⟩ <;>
    decide +kernel

/-- The same in the copy window of a restrike. -/
def copyingNow (i : Instr) : State :=
  let s := programmed i
  { s with eng := { s.eng with banks := s.eng.banks.set 0 { Bank.reset with pair := true, pressMask := 15, counts := [0, 0, 1] } },
           rs := { s.rs with copying := some (0, [(0, 1)]) },
           dsp := { s.dsp with presses := s.dsp.presses.set 0 { press s 0 with prog := [(16384, (encode i).getD 0)] } } }

theorem test_PressStores_applies :
    (let i : Instr := .st plain 3 7 0xFF true
     Issues (programmed i) i plain ∧ Selects (programmed i) plain 31) ∧
    (let i : Instr := .stx plain 3 true 0 0x3FE0
     Issues (programmed i) i plain ∧ inWindow (programmed i) 0 = false ∧ silent (programmed i) 0 = false) ∧
    (let i : Instr := .stx plain 3 true 0 0x3FE0
     Issues (copyingNow i) i plain ∧ inWindow (copyingNow i) 0 = true) ∧
    (let i : Instr := .std plain 3 0 3 false 31 (2 ^ 22 - 1)
     Issues (programmed i) i plain ∧ inWindow (programmed i) 0 = false ∧ pressTested (programmed i) 0 = false ∧
     31 ∈ groupLanes (effMask (readyPress (programmed i) 0) plain) 3) ∧
    (let i : Instr := .std plain 3 0 3 true 31 (2 ^ 22 - 1)
     Issues (copyingNow i) i plain ∧ inWindow (copyingNow i) 0 = true) ∧
    (let i : Instr := .stm plain 3 false 31 true 0x3FFF
     Issues (programmed i) i plain ∧ inWindow (programmed i) 0 = false ∧ pressTested (programmed i) 0 = false ∧
     31 ∈ storeLanes (effMask (readyPress (programmed i) 0) plain) false 31) ∧
    (let i : Instr := .stm plain 3 false 31 false 0x3FFF
     Issues (copyingNow i) i plain ∧ inWindow (copyingNow i) 0 = true) := by
  refine ⟨⟨issues_of_check ?_, ?_⟩, ⟨issues_of_check ?_, ?_⟩, ⟨issues_of_check ?_, ?_⟩, ⟨issues_of_check ?_, ?_⟩, ⟨issues_of_check ?_, ?_⟩,
    ⟨issues_of_check ?_, ?_⟩, issues_of_check ?_, ?_⟩ <;> decide +kernel

theorem test_PressControl_applies :
    Issues (programmed (.nop plain)) (.nop plain) plain ∧ Issues (programmed (.rep plain 0xFFFF)) (.rep plain 0xFFFF) plain ∧
    Issues (programmed (.repEnd plain)) (.repEnd plain) plain ∧
    (opOf 0x2C0000000000FFFF = 0x0B ∧ ifld 0x2C0000000000FFFF 15 0 = 65535 ∧ opOf 0x3000000000000000 = 0x0C ∧
      opOf 0x8014200300000000 ≠ 0x0B ∧ opOf 0x8014200300000000 ≠ 0x0C) ∧
    (issueOf (.aclr plain 3) = some plain ∧ (encode (.aclr plain 3)).all (fun w => !canIssue (programmed (.nop plain)) 0 w) = true) ∧
    10240 ≤ (press (setPress running 0 { press running 0 with slot := 10240 }) 0).slot ∧
    pressPowered (setF running (F.PRESS_STAT_GATED 3) 1) 3 = false := by
  refine ⟨issues_of_check ?_, issues_of_check ?_, issues_of_check ?_, ?_⟩ <;> decide +kernel

theorem test_ExponentInstruction_applies :
    let i : Instr := .expx plain 5 3
    Issues (programmed i) i plain ∧ Selects (programmed i) plain 0 ∧
    (vreg (readyPress (programmed i) 0) 0 0 3).toNat / 2 ^ 23 % 256 = 127 ∧
    (vreg (readyPress (programmed i) 0) 0 1 3).toNat / 2 ^ 23 % 256 = 0 ∧
    (vreg (readyPress (programmed i) 0) 0 0 4).toNat / 2 ^ 23 % 256 = 255 := by
  refine ⟨issues_of_check ?_, ?_⟩ <;> decide +kernel

theorem test_PressFrame_applies :
    let i : Instr := .aclr plain 3
    issueOf i = some plain ∧ plain.upsets = [] ∧ ∃ t, exec i (programmed i) = .next t := ⟨rfl, rfl, _, rfl⟩

theorem test_PressArithmetic_applies :
    isNan 0xFFFFFFFF = true ∧ isNan 0x7F800000 = false ∧ (0x807FFFFF : Word) &&& 0x7F800000 = 0 ∧ (0x00800000 : Word) &&& 0x7F800000 ≠ 0 := by
  decide +kernel

/-- The instruction word at the start of the program has two bad bits, the coefficient word at the end of the memory one. -/
def badWords : State :=
  let s := programmed (.nop plain)
  setPress s 0 { press s 0 with marks := [(2, 0, true), (1, 131071, false)] }

theorem test_PressUpsets_applies :
    (markOf (press badWords 0) 0 0 = none ∧ markOf (press badWords 0) 1 131071 = some false ∧ markOf (press badWords 0) 2 0 = some true) ∧
    (∀ c : Fin 2, ∀ e : Fin 10, seenBy (press badWords 0).trace (32 + c) e = seenBy (press badWords 0).trace (laneNo badWords 0 (32 + c)) e) ∧
    (issueOf (.nop plain) = some plain ∧ (encode (.nop plain)).any (canIssue badWords 0) = true ∧ badFetch badWords 0 = true) := by
  decide +kernel


/-! ### Plates, the engine and live change -/

/-- The bank states of a running node: banks 0 and 1. -/
def banked (a b : Nat) : State := sets running [(F.ENG_BANK_STAT_STATE_A, a), (F.ENG_BANK_STAT_STATE_B, b)]

theorem test_PlateCommands_applies :
    (let s := asked (banked bkEmpty bkLoaded) 0x0601 ([1, 2, 0, 0] ++ le 4 0x1688C ++ le 8 0x200000)
     Served s 0 0x0601 (· == 16) ∧ loadRefusal s (reqOf s 0).payload = none) ∧
    (let s := asked (banked bkEmpty bkLoaded) 0x0601 ([1, 2, 0, 0] ++ le 4 0x1688C ++ le 8 0x1FFFFC)
     Served s 0 0x0601 (· == 16) ∧ loadRefusal s (reqOf s 0).payload = some (0x062B, 3)) ∧
    (let s := asked (banked bkEmpty bkLoaded) 0x0602 [2, 0]
     Served s 0 0x0602 (· == 2) ∧ 1 < arg s 0 0 1) ∧
    (let s := asked (banked bkEmpty bkLoaded) 0x0602 [0, 0]
     Served s 0 0x0602 (· == 2) ∧ arg s 0 0 1 ≤ 1 ∧ bankState s 0 ≠ bkLoaded) ∧
    (let s := asked (setF (banked bkEmpty bkLoaded) F.ENG_BANK_STAT_BUSY 1) 0x0602 [1, 0]
     Served s 0 0x0602 (· == 2) ∧ bankState s 1 = bkLoaded ∧ isF s F.ENG_BANK_STAT_BUSY = true) ∧
    (let s := asked (banked bkEmpty bkLoaded) 0x0602 [1, 1]
     Served s 0 0x0602 (· == 2) ∧ bankState s 1 = bkLoaded ∧ isF s F.ENG_BANK_STAT_BUSY = false) ∧
    (let s := asked (banked bkEmpty bkArmed) 0x0603 [1]
     Served s 0 0x0603 (· == 1) ∧ bankState s 1 = bkArmed ∧ ¬ ((swapState s = 1 ∧ swapBank s = 1) ∨ s.eng.starting = true)) ∧
    (let s := asked (sets (banked bkRunning bkArmed) [(F.SWAP_STAT_STATE, 1), (F.SWAP_STAT_ENTER_B, 1)]) 0x0603 [1]
     Served s 0 0x0603 (· == 1) ∧ bankState s 1 = bkArmed ∧ swapState s = 1 ∧ swapBank s = 1) ∧
    (let s := asked (banked bkEmpty bkLoaded) 0x0604 [1]
     Served s 0 0x0604 (· == 1) ∧ arg s 0 0 1 ≤ 1) := by dsimp only; decide +kernel

/-- The sections of a plate for press 0 whose images are one `NOP` each: TYPE, LENGTH and COUNT (R138). -/
def smallSects : List (Nat × Nat × Nat) :=
  [(0x01, 8, 1), (0x02, 8, 1), (0x11, 8192, 0), (0x20, 65536, 0), (0x21, 8, 2), (0x22, 784, 0), (0x23, 1024, 0), (0x24, 16384, 0),
   (0x40, 64, 0)]

/-- Their directory, the first of them at offset `o` (R138). -/
def smallDir : Nat → List (Nat × Nat × Nat) → List Byte
  | _, [] => []
  | o, (t, n, c) :: l => le 2 t ++ le 2 0 ++ le 4 o ++ le 4 n ++ le 4 c ++ smallDir (o + n) l

/-- The plate without its CRC: header (R136), directory, and sections that hold zeros. -/
def smallBody : List Byte :=
  (le 4 0x4C504755 ++ [1, 0] ++ le 2 128 ++ le 4 92284 ++ le 2 9 ++ le 2 0 ++ le 4 128 ++ le 8 0 ++ [1, 0] ++ le 2 0 ++
    List.replicate 96 0 ++ smallDir 272 smallSects) ++ List.replicate 92008 0

/-- A whole plate (R135, R137). -/
def smallPlate : List Byte := smallBody ++ le 4 (crc32c smallBody).toNat

theorem smallBody_length : smallBody.length = 92280 := by
  have h : (le 4 0x4C504755 ++ [1, 0] ++ le 2 128 ++ le 4 92284 ++ le 2 9 ++ le 2 0 ++ le 4 128 ++ le 8 0 ++ [1, 0] ++ le 2 0 ++
    List.replicate 96 0 ++ smallDir 272 smallSects : List Byte).length = 272 := by decide +kernel
  rw [smallBody, List.length_append, h, List.length_replicate]

theorem leVal_le4 (w : Word) : leVal (le 4 w.toNat) = w.toNat := by
  have h := w.isLt
  simp only [le, List.range, List.range.loop, List.map, leVal, BitVec.toNat_ofNat]
  omega

theorem smallPlate_passes : plateFault smallPlate 92284 none = none := by
  have h : formatFault smallPlate 92284 = none := by decide +kernel
  have hb : smallPlate.take 92280 = smallBody := by rw [smallPlate, List.take_append_of_le_length (Nat.le_of_eq smallBody_length.symm), ← smallBody_length, List.take_length]
  have hc : leAt smallPlate 92280 4 = (crc32c smallBody).toNat := by
    rw [leAt, smallPlate, ← smallBody_length, List.drop_left, List.take_of_length_le (by simp [le]), leVal_le4]
  simp only [plateFault, h, Nat.reduceSub, hb, hc, if_true]

/-- Bank 1 is being loaded with it, and the loader reads it from host memory. -/
def loading : State :=
  let s := setF (setF (waits running 0x0601 []) F.ENG_BANK_STAT_BUSY 1) F.ENG_BANK_STAT_STATE_B bkLoading
  { s with eng := { s.eng with load := some ⟨1, 0, 92284, 0x10000, 0⟩ } }

/-- Bank 1 holds the same plate's tables and is being armed. -/
def arming (totals : List Byte) : State :=
  let s := setF (setF (waits running 0x0602 []) F.ENG_BANK_STAT_BUSY 1) F.ENG_BANK_STAT_STATE_B bkArming
  let b := { Bank.reset with pressMask := 1, counts := [1, 1] ++ List.replicate 10 0, totals := totals }
  { s with eng := { s.eng with arm := some ⟨1, false, 0⟩, banks := s.eng.banks.set 1 b } }

theorem test_LoadsAndArmsEnd_applies :
    (∃ j, loading.eng.load = some j ∧ j.bank < 2 ∧ plateFault (loadBytes loading j smallPlate) j.len none = none ∧
      getF loading (F.MB_STAT_STATE j.ch) = mbRunning ∧ cpIsRunning loading = true) ∧
    (∃ j, loading.eng.load = some j ∧ plateFault (loadBytes loading j []) j.len (some 8) = some (0x0615, 0)) ∧
    (∃ j, (arming ([1, 0, 1, 0] ++ List.replicate 60 0)).eng.arm = some j ∧ j.bank < 2 ∧
      armFault (arming ([1, 0, 1, 0] ++ List.replicate 60 0)) j.bank j.force = none) ∧
    (∃ j, (arming (List.replicate 64 0)).eng.arm = some j ∧ armFault (arming (List.replicate 64 0)) j.bank j.force = some (0x0617, 1)) := by
  refine ⟨⟨_, rfl, by decide, ?_, by decide +kernel⟩, ⟨_, rfl, by decide +kernel⟩, ⟨_, rfl, by decide +kernel⟩, ⟨_, rfl, by decide +kernel⟩⟩
  have h : loadBytes loading ⟨1, 0, 92284, 0x10000, 0⟩ smallPlate = smallPlate := by
    simp only [loadBytes]
    rw [if_neg (by decide), List.take_of_length_le]
    rw [smallPlate, List.length_append, smallBody_length]
    decide +kernel
  rw [h]
  exact smallPlate_passes

/-- An enable found bank 1 ARMED; the start mode names the second boundary after the enable. -/
def startable : State :=
  let s := sets (ons (banked bkEmpty bkArmed) [0x40]) [(F.ENG_CFG_START_MODE, 1)]
  { s with sctr := 9, eng := { s.eng with starting := true, startBank := 1, startBy := 10 } }

/-- A swap to bank 1 in state `st` for boundary 10, its crossfade of 8 sp. -/
def swapping (st now : Nat) : State :=
  let s := sets (banked (if st = 1 then bkRunning else bkLeaving) (if st = 1 then bkArmed else bkEntering))
    [(F.SWAP_STAT_STATE, st), (F.SWAP_STAT_ENTER_B, 1), (F.SWAP_STAT_L, 8)]
  { setR s R.SWAP_SCTR_LO 10 with sctr := BitVec.ofNat 64 now }

theorem test_EngineBoundaries_applies :
    (upStop (comingBoundary startable) = comingBoundary startable ∧ startDue (comingBoundary startable) false = true ∧
      startable.eng.startBank < 2) ∧
    (let s := setFn (banked bkRunning bkLoaded) 0x40 fnStopping
     applyChunk (comingBoundary s) = comingBoundary s ∧ stopDue s = true ∧ roleOf s ≠ roleActive) ∧
    (upStop (comingBoundary (swapping 1 9)) = comingBoundary (swapping 1 9) ∧ swapBeginDue (comingBoundary (swapping 1 9)) = true) ∧
    (upStop (comingBoundary (swapping 2 17)) = comingBoundary (swapping 2 17) ∧ swapDoneDue (comingBoundary (swapping 2 17)) = true) := by
  refine ⟨⟨rfl, by decide +kernel⟩, ⟨rfl, by decide +kernel⟩, ⟨rfl, by decide +kernel⟩, rfl, by decide +kernel⟩

/-- Bank 0 runs at sp 99. -/
def live : State :=
  let s := ons (banked bkRunning bkEmpty) [0x40]
  { s with sctr := 99, eng := { s.eng with running := true, banks := s.eng.banks.set 0 { Bank.reset with pressMask := 8 } } }

def withRamp (r : Ramp) : State := { live with eng := { live.eng with ramps := [r] } }

/-- A ramp on the last coefficient word of press 3, to 1.0 in two steps from boundary 100. -/
def ramp2 (start : Option Word) (k : Nat) (cancel : Option Nat) : Ramp :=
  ⟨false, 65535, 3, false, false, 0, 0x3F800000, 2, 100, start, k, cancel⟩

/-- A STANDBY with no set of boundary 100 received. -/
def standby100 : State := setF (ons live [0x48]) F.PAIR_STAT_ROLE roleStandby

/-- It restrikes, its set of boundary 100 applied: its ramp set is due at boundary 100, and a chunk of 1,024 bytes. -/
def restriking (st : Nat) : State :=
  let s := setF (setF standby100 F.RS_STAT_STATE st) F.RS_CFG_D 4
  { s with paired := { s.paired with doneTo := 100 },
           rs := { s.rs with c0 := 96, ramps := some ⟨0, 96, 98, [(0, [])], some 0⟩,
                             coef := [⟨0, 96, 98, [(0, List.replicate 1024 7)], some 0⟩] } }

theorem test_LiveUpdates_applies :
    (let s := { live with eng := { live.eng with atomics := [⟨100, [(.word 3 65535, 5)]⟩] } }
     upBanks (comingBoundary s) = comingBoundary s ∧ nextAtomic (comingBoundary s) = some 0 ∧ issuingBank s = some 0) ∧
    (let s := { live with eng := { live.eng with dws := [⟨false, 524287, 5, 100⟩] } }
     upPaired (comingBoundary s) = comingBoundary s ∧ nextDirect (comingBoundary s) = some 0) ∧
    (upAtomics (comingBoundary standby100) = comingBoundary standby100 ∧ pqDue (comingBoundary standby100) = true ∧
      roleOf standby100 = roleStandby ∧ ∀ g ∈ standby100.paired.got, g.n ≠ setAt (comingBoundary standby100)) ∧
    (let s := { live with paired := { live.paired with own := [(92, .direct false 0 5 0)], got := [] } }
     upAtomics (comingBoundary s) = comingBoundary s ∧ pqDue (comingBoundary s) = true ∧ setAt (comingBoundary s) = 92) ∧
    (let s := withRamp (ramp2 (some 0) 1 (some 100))
     upDirects (comingBoundary s) = comingBoundary s ∧ s.eng.ramps.any (cancelDue (comingBoundary s)) = true) ∧
    (upCancels (comingBoundary (restriking 3)) = comingBoundary (restriking 3) ∧
      rampSetDue (comingBoundary (restriking 3)) = some []) ∧
    (let s := withRamp (ramp2 none 0 none)
     upRampSet (comingBoundary s) = comingBoundary s ∧ installDue (comingBoundary s) (ramp2 none 0 none) = true ∧ issuingBank s = some 0) ∧
    (let s := withRamp (ramp2 (some 0) 1 none)
     upRamps (comingBoundary s) = comingBoundary s ∧ (ramp2 (some 0) 1 none).n ≤ (ramp2 (some 0) 1 none).k + 1 ∧ issuingBank s = some 0) ∧
    (chunkDue (comingBoundary (restriking 2)) = some (List.replicate 1024 7) ∧ issuingBank (restriking 2) = some 0 ∧
      chunkPlace (restriking 2) 0 = (3, 0) ∧ wroteSince (comingBoundary (restriking 2)) (3 * 65536 + 255) 96 = false) := by
  dsimp only; decide +kernel

/-- Bank 0 runs and bank 1 is armed with HASH 5. -/
def armedB : State := setR (setF live F.ENG_BANK_STAT_STATE_B bkArmed) (R.PLATE_HASH 1) 5

/-- An entry of `RAMP_START`: press 3, the last word, 4,096 steps to +0.0 (R181). -/
def entry16 : List Byte := le 4 65535 ++ [3, 0, 0, 0] ++ le 4 4096 ++ le 4 0

theorem test_LiveCommands_applies :
    (let s := asked armedB 0x0605 ([1, 1, 0xFF, 0] ++ le 2 4096 ++ le 2 0 ++ le 4 5)
     Served s 0 0x0605 (· == 12) ∧ swapRefusal s (reqOf s 0) = none ∧ timedOrNext s (reqOf s 0) true = some 101 ∧ arg s 0 4 2 ≠ 0) ∧
    (let s := asked armedB 0x0605 ([1, 1, 0xFF, 0] ++ le 2 4097 ++ le 2 0 ++ le 4 5)
     Served s 0 0x0605 (· == 12) ∧ swapRefusal s (reqOf s 0) = some (0x0635, 0)) ∧
    (let s := asked armedB 0x0607 ([1, 1] ++ List.replicate 14 0 ++ entry16)
     Served s 0 0x0607 (fun n => n == 16 + 16 * arg s 0 0 1) ∧ timedOrNext s (reqOf s 0) true = some 101) ∧
    (let s := asked armedB 0x0607 ([0, 1] ++ List.replicate 14 0)
     Served s 0 0x0607 (fun n => n == 16 + 16 * arg s 0 0 1) ∧ rampRefusal s (reqOf s 0) = some (0x063C, 0)) ∧
    (let s := asked (withRamp (ramp2 (some 0) 1 none)) 0x0608 ([1, 1, 3, 0] ++ le 2 65535)
     Served s 0 0x0608 (fun n => n == 4 + 2 * arg s 0 0 1) ∧ cancelRefusal (reqOf s 0).payload = none) ∧
    (let s := asked armedB 0x0608 ([1, 0, 0, 0] ++ le 2 16384)
     Served s 0 0x0608 (fun n => n == 4 + 2 * arg s 0 0 1) ∧ cancelRefusal (reqOf s 0).payload = some 0) ∧
    (let s := asked armedB 0x0609 ([1, 1, 3, 0] ++ le 2 65535 ++ le 4 7)
     Served s 0 0x0609 (fun n => n == 4 + 6 * arg s 0 0 1) ∧ atomicRefusal s (reqOf s 0) = some (0x063F, 99)) := by
  dsimp only; decide +kernel

theorem test_SwapCancel_applies :
    (let s := asked (swapping 0 9) 0x0606 []
     Served s 0 0x0606 (· == 0) ∧ swapState s ≠ 1) ∧
    (let s := asked (swapping 1 9) 0x0606 []
     Served s 0 0x0606 (· == 0) ∧ swapState s = 1 ∧ swapAt s < s.sctr.toNat + 2) ∧
    (let s := asked (swapping 1 8) 0x0606 []
     Served s 0 0x0606 (· == 0) ∧ swapState s = 1 ∧ s.sctr.toNat + 2 ≤ swapAt s) := by dsimp only; decide +kernel

theorem test_WindowWrites_applies :
    isF live F.DW_CTL_RAW_EN = false ∧
    (let s := sets (banked bkLoaded bkRunning) [(F.DW_CTL_RAW_EN, 1), (F.DW_CTL_EDGE_EN, 1)]
     isF s F.DW_CTL_RAW_EN = true ∧ bankState s 0 = bkLoaded ∧ unpaired s = true ∧ bkRunning ≤ bankState s 1 ∧
     isF s F.DW_CTL_EDGE_EN = true) ∧
    (let s := sets (banked bkLoaded bkRunning) [(F.DW_CTL_RAW_EN, 1), (F.DW_CTL_EDGE_EN, 1), (F.PAIR_STAT_ROLE, roleStandby)]
     bankState s 0 < bkRunning ∧ unpaired s = false ∧ bkRunning ≤ bankState s 1 ∧ roleOf s = roleStandby ∧
     isF s F.DW_CTL_EDGE_EN = true) ∧
    (let s := sets live [(F.DW_CTL_EDGE_EN, 1), (F.PAIR_STAT_ROLE, roleActive)]
     isF s F.DW_CTL_EDGE_EN = true ∧ roleOf s = roleActive) := by dsimp only; decide +kernel


/-! ### Ethernet ports and media flows -/

/-- Port `p` of role `r` is up; media flows are enabled, 2,048 pages are free. -/
def linked (p r : Nat) : State :=
  sets (ons running [p + 1, 0x08, 0x09])
    [(F.ETH_STAT_LINK p, 1), (F.ETH_CFG_ROLE (p + 1), r), (F.ETH_CFG_MAX_FRAME (p + 1), 1518), (F.POOL_STAT_FREE_PAGES, 2048)]

theorem test_EthernetLinks_applies :
    (ethOn (setF (linked 3 0) (F.ETH_STAT_LINK 3) 0) 3 = true ∧ isF (setF (linked 3 0) (F.ETH_STAT_LINK 3) 0) (F.ETH_STAT_LINK 3) = false) ∧
    ethUp (linked 3 0) 3 = true ∧
    (nodeState (linked 3 0) ≠ nsDormant ∧ 64 ≤ (64 : BitVec 14).toNat ∧
      (1518 : BitVec 14).toNat ≤ getF (linked 3 0) (F.ETH_CFG_MAX_FRAME 4) ∧
      ¬ (1519 : BitVec 14).toNat ≤ getF (linked 3 0) (F.ETH_CFG_MAX_FRAME 4)) ∧
    pauseExpires (setF (linked 3 0) (F.ETH_STAT_PAUSED 3) 1) 3 = true ∧
    (let s := asked (linked 3 0) 0x0201 ([7, 1, 0, 0] ++ List.replicate 144 0xFF)
     Served s 0 0x0201 (· == 148) ∧ arg s 0 0 1 = 7) ∧
    (let s := asked (linked 3 0) 0x0201 ([8, 1, 0, 0] ++ List.replicate 144 0xFF)
     Served s 0 0x0201 (· == 148) ∧ 7 < arg s 0 0 1) ∧
    (let s := asked (setF (linked 3 0) (F.ETH_CFG_AN 4) 1) 0x0202 [3]
     Served s 0 0x0202 (· == 1) ∧ arg s 0 0 1 = 3 ∧ ethOn s 3 = true ∧ isF s (F.ETH_CFG_AN 4) = true) ∧
    (let s := asked (linked 3 0) 0x0202 [4]
     Served s 0 0x0202 (· == 1) ∧ 3 < arg s 0 0 1) := by dsimp only; decide +kernel

/-- Port 0 has a media frame queued that must begin by sp `due`. -/
def queued (due now : Nat) : State :=
  let s := linked 0 0
  let x := { ethPort s 0 with queues := (ethPort s 0).queues.set 1 [⟨List.replicate 60 0x11, due, none⟩] }
  { setEthPort s 0 x with sctr := BitVec.ofNat 64 now }

/-- A broadcast frame of `n` bytes without its FCS, and one to an address that is not the port's. -/
def broadcast (n : Nat) : RxFrame := ⟨List.replicate n 0xFF, false, false, 0, 0, 0, false, 0⟩
def foreign : RxFrame := ⟨List.replicate 60 0x12, false, false, 0, 0, 0, false, 0⟩

theorem test_EthernetFrames_applies :
    (nodeState (linked 0 0) ≠ nsDormant ∧ ethUp (linked 0 0) 0 = true ∧ (broadcast 59).bytes.length + 4 < 64 ∧
      ¬ (broadcast 60).bytes.length + 4 < 64 ∧ (broadcast 1515).bytes.length + 4 > 1518 + (rxParts (broadcast 1515).bytes).tag ∧
      (rxParts foreign.bytes).etype ≠ 0x8808 ∧ dstAccepted (linked 0 0) 0 (rxParts foreign.bytes).dst = false) ∧
    (isF (queued 5 5) (F.ETH_STAT_PAUSED 0) = false ∧ (∀ g ∈ ethQueue (queued 5 5) 0 1, (queued 5 5).sctr.toNat ≤ g.due) ∧
      sendQueue (queued 5 5) 0 = some 1 ∧ ethQueue (queued 5 5) 0 1 = [⟨List.replicate 60 0x11, 5, none⟩]) ∧
    (256 * getF (queued 5 5) (F.ETH_STAT_TX_START_CUR 0) ≤ (63 : BitVec 14).toNat ∧ (63 : BitVec 14).toNat < 60 + 4) ∧
    (∃ f ∈ ethQueue (queued 5 5) 0 1, f.due ≤ (queued 5 5).sctr.toNat) := by decide +kernel

/-- A receive entry, index 511: one 96 kHz L24 channel in packets of the shortest time, the last exchange channel, the primary leg with
group 239.1.2.3 (R263). -/
def rxBytes : List Byte :=
  le 2 511 ++ [5, 0, 1, 96] ++ le 2 2047 ++ [1, 1] ++ le 2 4 ++ le 4 0 ++ le 4 0 ++ le 4 0 ++
  [239, 1, 2, 3, 0, 0, 0, 0] ++ le 2 5004 ++ le 2 0 ++ List.replicate 28 0

/-- A transmit entry, index 511, to the same group from 10.0.0.1 (R275). -/
def txBytes : List Byte :=
  le 2 511 ++ [5, 0, 1, 96] ++ le 2 2047 ++ [0, 1, 0, 0] ++ le 4 9 ++ [239, 1, 2, 3, 10, 0, 0, 1] ++ le 2 5004 ++ le 2 5004 ++ le 2 0 ++ le 2 0 ++
  List.replicate 32 0

/-- The flow of `rxBytes` with 32 pages, and of `txBytes`, in their tables. -/
def flowing (f : RxFlow) (g : TxFlow) (now : Nat) : State :=
  let s := linked 0 0
  { s with sctr := BitVec.ofNat 64 now, net := { s.net with rx := [f], tx := [g] } }

def rx511 : RxFlow := { rxEntry rxBytes with pages := 1 }
def tx511 : TxFlow := txEntry txBytes

theorem test_FlowCommands_applies :
    (let s := asked (linked 0 0) 0x0301 rxBytes
     Served s 0 0x0301 (· == 64) ∧ rxRefusal s (reqOf s 0).payload = none) ∧
    (let s := asked (flowing rx511 tx511 9) 0x0301 rxBytes
     Served s 0 0x0301 (· == 64) ∧ rxRefusal s (reqOf s 0).payload = some (0x0321, 0)) ∧
    (let s := asked (linked 0 0) 0x0303 txBytes
     Served s 0 0x0303 (· == 64) ∧ txRefusal s (reqOf s 0).payload (fun _ => none) = none) ∧
    (let s := asked (flowing rx511 tx511 9) 0x0303 txBytes
     Served s 0 0x0303 (· == 64) ∧ txRefusal s (reqOf s 0).payload (fun _ => none) = some (0x0321, 0)) ∧
    (let s := asked (flowing rx511 tx511 9) 0x0302 (le 2 511)
     Served s 0 0x0302 (· == 2) ∧ arg s 0 0 2 < 512 ∧ rxFlow s (arg s 0 0 2) = some rx511 ∧ rx511.rm = none ∧ rx511.due = 0) ∧
    (let s := asked (flowing rx511 tx511 9) 0x0302 (le 2 510)
     Served s 0 0x0302 (· == 2) ∧ rxFlow s (arg s 0 0 2) = none) ∧
    (let s := asked (flowing rx511 tx511 9) 0x0304 (le 2 511)
     Served s 0 0x0304 (· == 2) ∧ arg s 0 0 2 < 512 ∧ txFlow s (arg s 0 0 2) = some tx511 ∧ tx511.rm = none) ∧
    (let s := asked (flowing rx511 tx511 9) 0x0304 (le 2 512)
     Served s 0 0x0304 (· == 2) ∧ txFlow s (arg s 0 0 2) = none) ∧
    (let s := asked (flowing rx511 tx511 9) 0x0305 (le 2 511)
     Served s 0 0x0305 (· == 2) ∧ rxFlow s (arg s 0 0 2) = some rx511) ∧
    (let s := asked (flowing rx511 tx511 9) 0x0305 (le 2 0)
     Served s 0 0x0305 (· == 2) ∧ rxFlow s (arg s 0 0 2) = none) ∧
    (let s := asked (flowing rx511 tx511 9) 0x0306 [1]
     Served s 0 0x0306 (· == 1) ∧ arg s 0 0 1 = true.toNat) ∧
    (let s := asked (flowing rx511 tx511 9) 0x0306 [2]
     Served s 0 0x0306 (· == 1) ∧ 1 < arg s 0 0 1) := by dsimp only; decide +kernel

/-- An RTP packet of payload type `pt`, TIMESTAMP `ts` and `n` payload bytes (R265). -/
def rtpBytes (pt ts n : Nat) : List Byte :=
  [0x80, BitVec.ofNat 8 pt, 0, 1, 0, 0, 0, BitVec.ofNat 8 ts, 0, 0, 0, 0] ++ List.replicate n 0x7F

/-- The flow in a state of its staging. -/
def rxIn (due st h k : Nat) : RxFlow := { rx511 with due := due, st := st, h := h, k := k }

theorem test_FlowReception_applies :
    (let s := flowing rx511 tx511 200
     rxFlow s 511 = some rx511 ∧ portOfRole s 0 = some 0 ∧ hasLeg rx511.legs 0 = true ∧ ethUp s 0 = true ∧ 0 < rx511.leg.length ∧
     (rx511.legOf 0).vid < 4096 ∧ 64 ≤ getF s (F.ETH_CFG_MAX_FRAME 1) ∧
     46 + (rtpBytes 96 200 (rx511.ch * rx511.s * rx511.bps)).length ≤ getF s (F.ETH_CFG_MAX_FRAME 1) ∧ (rx511.legOf 0).src = 0 ∧
     formatReason rx511 (rtpOf (rtpBytes 97 200 3)) = some 2 ∧
     formatReason rx511 (rtpOf (rtpBytes 96 200 (rx511.ch * rx511.s * rx511.bps))) = none ∧
     mediaSp rx511.r96 201 rx511.tsOfs 200 = 201 ∧ mediaSp rx511.r96 200 rx511.tsOfs 200 = 200 ∧ (200 : Int) < 200 + rx511.d - 1 ∧
     mediaSp rx511.r96 (200 - rx511.d + 1) rx511.tsOfs 200 + rx511.d - 1 ≤ 200 ∧ (∀ q ∈ rx511.buf, q.n ≠ 200)) ∧
    ((rxIn 1 fwHolding 4 0).due = 1 ∧ (rxIn 1 fwHolding 4 0).hold ≤ (rxIn 1 fwHolding 4 0).h ∧
      packetOf (rxIn 1 fwHolding 4 0) (stagedSp (rxIn 1 fwHolding 4 0) 201) = none) ∧
    ((rxIn 2 fwFading 0 32).st = fwFading ∧ (rxIn 2 fwFading 0 32).k = 32) ∧
    (let f := { rxIn 3 fwFadeIn 0 32 with buf := [⟨201 - rx511.d, [0x3F000000]⟩] }
     f.due = 3 ∧ packetOf f (stagedSp f 201) = some ⟨201 - rx511.d, [0x3F000000]⟩) ∧
    (let l : RxLeg := { rx511.legOf 0 with okAt := some 0, up := true }
     legSilent (flowing rx511 tx511 200) { rx511 with legs := 3, leg := [l, l] } 1 = true) ∧
    (flowing rx511 tx511 960).sctr.toNat % 960 = 0 := by dsimp only; decide +kernel

/-- A frame that leg 0 of the transmit flow holds since sp 100. -/
def heldFrame : Nat × Nat × TxFrame := (0, 100, ⟨[], 0, none⟩)

theorem test_FlowTransmission_applies :
    (let g := { tx511 with formed := false, acc := List.replicate tx511.p [0], samples := List.replicate tx511.p [0] }
     let s := flowing rx511 g 192
     txFlow s 511 = some g ∧ g.acc.length = g.p ∧ g.formed = false ∧ (s.sctr.toNat + g.p - g.ofs) % g.p = 0 ∧ g.legs = 1 ∧
     portOfRole s 0 = some 0 ∧ ethUp s 0 = true ∧ mayNotDrive s = false ∧ (ethQueue s 0 1).length < 64) ∧
    (let g := { tx511 with held := [heldFrame] }
     heldTooLong (flowing rx511 g (100 + 2 * tx511.p)) g 0 = some heldFrame ∧
     heldTooLong (flowing rx511 g (99 + 2 * tx511.p)) g 0 = none) ∧
    (let g := { tx511 with rm := some 192, formed := true }
     txDone (flowing rx511 g (192 + tx511.p)) g = true) ∧
    (let f := { rx511 with rm := some 192, rmk := 32 }
     rxDone (flowing f tx511 224) f = true ∧ rxDone (flowing f tx511 223) f = false) := by dsimp only; decide +kernel


/-! ### Rate conversion, Drypoint, meters, taps, and serial ports -/

/-- Serial port `n` is enabled, in phase `ph`, a follower or a 96 kHz leader; frame 0 began at sp 10, and it is sp `now`. -/
def ported (n ph : Nat) (follower : Bool) (now : Nat) : State :=
  let s := putF (sets (ons running [sapFn n]) [(F.SAP_STAT_PHASE n, ph), (F.SAP_CFG_RATE (sapFn n), 1)]) (F.SAP_CFG_FOLLOWER (sapFn n)) follower
  let x := { SapPort.reset with rate := 1, startAt := 10, edge0 := 10, edgeAt := now - 1 }
  { s with sctr := BitVec.ofNat 64 now, sap := s.sap.set! n x }

/-- Drypoint output 31 is slot 31 of port 15, fed by input 63, slot 0 of the same port (R207, R208). -/
def dried : State :=
  let s := sets (ons (ported 15 phRun false 20) [0x29])
    [(F.DP_OUT_USED 31, 1), (F.DP_OUT_TARGET 31, 15), (F.DP_OUT_SLOT 31, 31), (F.DP_IN_USED 63, 1), (F.DP_IN_PORT 63, 15)]
  setR s (R.DP_ROUTE 31 + 4) 0x80000000

def driedLive : State := { dried with conv := { dried.conv with dpLive := [xpOf 31 63] } }

/-- A gain for that crosspoint waits, to 1.0 over 1,024 frames. -/
def driedSet : State := { driedLive with conv := { driedLive.conv with dpSets := [⟨xpOf 31 63, 0x3F800000, 1024, gainFrom driedLive⟩] } }

theorem test_DrypointPath_applies :
    (fnOn driedLive 0x29 = true ∧ driedLive.conv.dpAt.contains (0, dpFrameNo driedLive 0) = false ∧
      isF driedLive (F.DP_OUT_USED 31) = true ∧ dpGroup driedLive 31 = 0 ∧
      (∀ m : Fin 32, m ≠ 31 → isF driedLive (F.DP_OUT_USED m) = false) ∧ dpPscOut driedLive 31 = false ∧ dpDestRuns driedLive 31 = true ∧
      driedLive.conv.dpRamps = [] ∧ driedLive.conv.dpSets = [] ∧ dpInputs driedLive 31 = [63] ∧ xpLive driedLive 31 63 = true ∧
      driedLive.conv.dpLive.contains (xpOf 31 63) = true) ∧
    (fnOn dried 0x29 = true ∧ dried.conv.dpAt.contains (17, dpFrameNo dried 17) = false) ∧
    (let s := asked dried 0x0E01 ([1, 0] ++ le 2 1024 ++ [31, 63] ++ le 4 0x3F800000)
     Served s 0 0x0E01 (fun n => decide (4 ≤ n) && decide ((n - 4) % 6 = 0)) ∧ arg s 0 0 1 = 1 ∧ arg s 0 2 2 ≤ 1024 ∧
     (reqOf s 0).len = 4 + 6 * 1 ∧ (dpEntry (reqOf s 0).payload 0).1 < 32 ∧ (dpEntry (reqOf s 0).payload 0).2.1 < 64 ∧
     dpPermits s 31 63 = true) ∧
    (let s := asked dried 0x0E01 ([1, 0] ++ le 2 1025 ++ [31, 63] ++ le 4 0x3F800000)
     Served s 0 0x0E01 (fun n => decide (4 ≤ n) && decide ((n - 4) % 6 = 0)) ∧ ¬ arg s 0 2 2 ≤ 1024) ∧
    (let s := asked dried 0x0E01 ([2, 0] ++ le 2 1024 ++ [31, 63] ++ le 4 0x3F800000)
     Served s 0 0x0E01 (fun n => decide (4 ≤ n) && decide ((n - 4) % 6 = 0)) ∧ (reqOf s 0).len ≠ 4 + 6 * arg s 0 0 1) ∧
    (let s := asked dried 0x0E01 ([1, 0] ++ le 2 1024 ++ [31, 62] ++ le 4 0x3F800000)
     Served s 0 0x0E01 (fun n => decide (4 ≤ n) && decide ((n - 4) % 6 = 0)) ∧ (reqOf s 0).len = 4 + 6 * arg s 0 0 1 ∧
     dpPermits s 31 62 = false) ∧
    xpLive driedSet 31 63 = true := by dsimp only; decide +kernel

/-- The instant of a gain depends on the time and the next free value only. -/
theorem gainFrom_congr {s t : State} (h : s.sctr = t.sctr) (f : s.free = t.free) : gainFrom s = gainFrom t := by
  rw [gainFrom, gainFrom, h, f]

/-- The gain waits until the instant that its acceptance gives, which a free value decides (log entry 5). -/
theorem test_DrypointPath_gain_waits :
    driedSet.conv.dpSets = [⟨xpOf 31 63, 0x3F800000, 1024, gainFrom driedSet⟩] ∧ gainFrom driedSet ≤ gainFrom driedSet := by
  have h : gainFrom driedSet = gainFrom driedLive := gainFrom_congr rfl rfl
  exact ⟨by rw [h]; simp only [driedSet], Nat.le_refl _⟩

/-- Tracker 15 in state `st` with a small error since sp 0, at sp `now`; port 15 in phase `ph`. -/
def tracked (st ph now : Nat) : State :=
  let s := sets (ported 15 ph true now) [(F.CONV_TRK_STATE 15, st), (F.SAP_STAT_FAULT 15, 3)]
  { s with conv := { s.conv with trk := s.conv.trk.set 15 { Trk.reset with goodFrom := some 0, trackAt := 0 } } }

/-- A snapshot of window 960 waits; ring `r` has a buffer posted. -/
def snapped (r : Nat) : State :=
  let s := sets running [(F.RING_CTL_EN r, 1)]
  let s := setR s (R.RING_HEAD r) 1
  { s with sctr := 1056, conv := { s.conv with snap := some ⟨0, 960, 5, 960, [(16383, 7)]⟩, capBlock := some (16, [[1], [2]]), fetchDue := some 32 } }

theorem test_TrackersMetersAndTaps_applies :
    ((let s := tracked trkAcquire phRun 24000
      trkState s 15 = trkAcquire ∧ (trk s 15).goodFrom = some 0 ∧ 0 + 24000 ≤ s.sctr.toNat) ∧
     (let s := tracked trkTrack phFault 96
      trkState s 15 = trkTrack ∧ unlockHolds s 15 3 = true ∧ s.sctr.toNat % 96 = 0 ∧ (trk s 15).trackAt < s.sctr.toNat ∧
      (trk s 15).decidedAt ≠ some s.sctr.toNat ∧ (trk s 15).first = false)) ∧
    (let s := snapped 1
     s.conv.snap = some ⟨0, 960, 5, 960, [(16383, 7)]⟩ ∧ cpIsRunning s = true ∧ s.sctr.toNat ≤ 960 + 96 ∧ bufPosted s 1 = true ∧
     bufPosted s 2 = false ∧ s.conv.capBlock = some (16, [[1], [2]]) ∧ s.conv.fetchDue = some 32) ∧
    (let s := snapped 2
     bufPosted s 1 = false ∧ bufPosted s 2 = true ∧ (tapBytes 16 s.conv.capSeq 0 0 [[1], [2]]).length ≤ (40 : Word).toNat) ∧
    (let s := setF (snapped 3) F.TAP_CFG_PLAY_COUNT 1
     let x : PlayBuf := ⟨⟨0, 96, 0⟩, le 8 32 ++ le 4 0 ++ le 2 1 ++ List.replicate 82 0, false⟩
     bufPosted s 3 = true ∧ 32 + 64 * getF s F.TAP_CFG_PLAY_COUNT ≤ x.desc.len.toNat ∧ leAt x.data 12 2 = getF s F.TAP_CFG_PLAY_COUNT ∧
     leAt x.data 0 8 = 32 ∧ x.late = false) := by dsimp only; decide +kernel

theorem test_TrackersMetersAndTaps_record_fits : (snapBytes ⟨0, 960, 5, 960, [(16383, 7)]⟩ 0).length = 65600 := by
  simp only [snapBytes, le, List.length_append, List.length_map, List.length_range, List.length_replicate, List.length_flatMap,
    List.map_const', List.sum_replicate_nat]

/-- A port that stops: its last quiet frame is frame 12. -/
def portStopping (restart : Nat) : State :=
  let s := setF (ported 15 phStop false 23) (F.SAP_TIME_QUIET (sapFn 15)) 3
  let s := if restart = 0 then setFn s (sapFn 15) fnStopping else s
  { s with sap := s.sap.set 15 { sapPort s 15 with stopFrom := some 10, restart := restart } }

theorem test_SapPhases_applies :
    (let s := ported 15 phWait false 10
     sapFollower s 15 = false ∧ sapPhase s 15 = phWait ∧ (sapPort s 15).startAt = s.sctr.toNat) ∧
    (let s := ported 15 phWait true 10
     acceptRate s 15 (96096 : Word).toNat = some 1 ∧ acceptRate s 15 (96097 : Word).toNat = none ∧ sapFollower s 15 = true ∧
     sapPhase s 15 = phWait) ∧
    (let s := setF (ported 15 phFault true 10) (F.SAP_CFG_AUTO_RESTART (sapFn 15)) 1
     acceptRate s 15 (96000 : Word).toNat = some 1 ∧ sapPhase s 15 = phFault ∧ isF s (F.SAP_CFG_AUTO_RESTART (sapFn 15)) = true) ∧
    (let s := setF (ported 15 phQuiet false 13) (F.SAP_TIME_QUIET (sapFn 15)) 3
     edgeNow s 15 0 = true ∧ sapPhase s 15 = phQuiet ∧ sapQuiet s 15 ≤ frameNo s 15) ∧
    (let s := setF (ported 15 phQuiet false 12) (F.SAP_TIME_QUIET (sapFn 15)) 3
     edgeNow s 15 0 = true ∧ frameNo s 15 < sapQuiet s 15) ∧
    (edgeNow (ported 15 phRun true 13) 15 0 = true ∧ sapPhase (ported 15 phRun true 13) 15 = phRun) ∧
    sapMonitors (ported 15 phRun true 13) 15 = true ∧
    (sapPhase (portStopping 0) 15 = phStop ∧ stopOver (portStopping 0) 15 (frameNo (portStopping 0) 15) = true ∧
      (sapPort (portStopping 0) 15).restart = 0) ∧
    (stopOver (portStopping 3) 15 (frameNo (portStopping 3) 15) = true ∧ (sapPort (portStopping 3) 15).restart ≠ 0 ∧
      fnState (portStopping 3) (sapFn 15) = fnEnabled) := by dsimp only; decide +kernel

/-- Port 15 holds an update for boundary 40. -/
def timedMask : State :=
  let s := ported 15 phRun false 20
  { s with sap := s.sap.set 15 { sapPort s 15 with timed := some (40, some 1, none) } }

/-- Its FIFO has been found high four times. -/
def slipping : State :=
  let s := ported 15 phRun true 20
  { s with sap := s.sap.set 15 { sapPort s 15 with nextIn := some 3, hi := 4 } }

theorem test_SapCommands_applies :
    maskIgnored timedMask 15 true = true ∧ maskIgnored (ported 15 phRun false 20) 15 false = false ∧
    slipKind slipping 15 = some 1 ∧
    (let s := asked (ported 15 phRun false 20) 0x0401 ([16, 3, 0, 0] ++ le 4 1 ++ le 4 2)
     Served s 0 0x0401 (· == 12) ∧ 15 < arg s 0 0 1) ∧
    (let s := asked (ported 15 phRun false 20) 0x0401 ([0, 3, 0, 0] ++ le 4 1 ++ le 4 2)
     Served s 0 0x0401 (· == 12) ∧ arg s 0 0 1 ≤ 15 ∧ sapEnabled s 0 = false) ∧
    (let s := asked timedMask 0x0401 ([15, 3, 0, 0] ++ le 4 1 ++ le 4 2)
     Served s 0 0x0401 (· == 12) ∧ sapEnabled s 15 = true ∧ (sapPort s 15).timed.isSome = true) ∧
    (let s := asked (ported 15 phRun false 20) 0x0401 ([15, 3, 0, 0] ++ le 4 1 ++ le 4 2)
     Served s 0 0x0401 (· == 12) ∧ sapEnabled s 15 = true ∧ (sapPort s 15).timed = none ∧ timedAt s (reqOf s 0) = none) ∧
    (let s := asked (ported 15 phRun false (2 ^ 32 - 2)) 0x0401 ([15, 3, 0, 0] ++ le 4 1 ++ le 4 2)
     timedAt s (reqOf s 0) = some (2 ^ 32) ∧ sapEnabled s 15 = true ∧ (sapPort s 15).timed = none) ∧
    (let s := asked (ported 15 phRun false 20) 0x0402 [15]
     Served s 0 0x0402 (· == 1) ∧ arg s 0 0 1 ≤ 15 ∧ sapEnabled s 15 = true) ∧
    (let s := asked (ported 15 phRun false 20) 0x0402 [14]
     Served s 0 0x0402 (· == 1) ∧ sapEnabled s 14 = false) ∧
    (let s := asked (ported 15 phRun false 20) 0x0402 [16]
     Served s 0 0x0402 (· == 1) ∧ 15 < arg s 0 0 1) := by dsimp only; decide +kernel


/-! ### Power stage control -/

/-- A SOLO node without its guard; power-stage channel 15 is enabled, in state `st`, at sp 6,000,000; its record is `x`, its supply limits
are 0 V and 60 V, its scales and gains 1.0. -/
def staged (st : Nat) (x : PscCh) : State :=
  let s := sets (ons running [pscFn 15])
    [(F.PAIR_STAT_ROLE, roleSolo), (F.PSC_STAT_STATE 15, st), (F.PSC_PVDD_LIM_PVDD_MAX (pscFn 15), 60), (F.PSC_OC_OC_THR (pscFn 15), 2)]
  let s := [R.PSC_VSCALE (pscFn 15), R.PSC_ISCALE (pscFn 15), R.PSC_PSCALE (pscFn 15), R.PSC_CAL_V_GAIN 15, R.PSC_CAL_I_GAIN 15].foldl
    (fun s o => setR s o 0x3F800000) s
  { s with sctr := 6000000, psc := { s.psc with ch := s.psc.ch.set 15 x } }

/-- The same on a STANDBY. -/
def watching (st : Nat) : State := setF (staged st PscCh.reset) F.PAIR_STAT_ROLE roleStandby

/-- A supply minimum of 1 V, which 0 V at the ball misses. -/
def starved (s : State) : State := setF s (F.PSC_PVDD_LIM_PVDD_MIN (pscFn 15)) 1

theorem test_SwitchingPeriods_applies :
    (pscLooping (staged psRunning PscCh.reset) 15 = true ∧ (3 < 4) ∧ pscDrives (staged psRunning PscCh.reset) = true ∧ legsPlay (staged psRunning PscCh.reset) 15 = true) ∧
    (pscLooping (setF (staged psStopping PscCh.reset) (F.PSC_CFG_FSW (pscFn 15)) 1) 15 = true ∧
      pscRunsFast (setF (staged psStopping PscCh.reset) (F.PSC_CFG_FSW (pscFn 15)) 1) 15 = true) ∧
    (pscLooping (watching psObserving) 15 = true ∧ pscDrives (watching psObserving) = false) ∧
    legsSwitch (staged psFadeIn PscCh.reset) 15 = true ∧ (PscCh.reset).limNow = false := by decide +kernel

/-- The supplies are within their limits, so none is out. -/
theorem test_SwitchingPeriods_supplies_in : ∀ m, (staged psRunning PscCh.reset).psc.pvddOut.getD m false = false := by
  intro m
  rcases m with _ | _ | m
  · rfl
  · rfl
  · rfl

theorem test_PowerStageProtection_applies :
    (let x := { PscCh.reset with limNow := true, win := [true], fails := [240001, 240002, 1, 2, 3, 4, 5, 6] }
     pscState (staged psRunning x) 15 = psRunning ∧ getF (staged psRunning x) (F.PSC_OC_OC_THR (pscFn 15)) ≤ limitedCount x ∧
     x.passedAt = none ∧ (recentFails (staged psRunning x) 15).length < 8) ∧
    (let x := { PscCh.reset with limNow := true, win := [true], fails := List.replicate 8 240001 }
     getF (staged psFadeIn x) (F.PSC_OC_OC_THR (pscFn 15)) ≤ limitedCount x ∧ 8 ≤ (recentFails (staged psFadeIn x) 15).length) ∧
    (let s := staged psShutdown { PscCh.reset with waitFrom := 6000000 }
     pscState s 15 = psShutdown ∧ pscDrives s = true ∧
     (pscCh s 15).waitFrom + 96 * getF s (F.PSC_RETRY_RETRY_MS (pscFn 15)) ≤ s.sctr.toNat) ∧
    (pscOn (starved (staged psRunning PscCh.reset)) 0 15 = true ∧ pvddSide (starved (staged psRunning PscCh.reset)) 15 0 ≠ 0) ∧
    (let s := staged psPvddHold { PscCh.reset with outAt := some (6000000 - 960) }
     pscOn s 0 15 = true ∧ pscState s 15 = psPvddHold ∧ pvddSide s 15 0 = 0 ∧ pvddSettled s 15 = true) ∧
    (pscState (staged psFadeIn { PscCh.reset with fade := 32 }) 15 = psFadeIn) ∧
    (pscState (staged psStopping { PscCh.reset with fade := 32 }) 15 = psStopping) := by dsimp only; decide +kernel

/-- Channel 15 stands first in the queue, or is under test since `at_`. -/
def testing (t : Option (List Nat × Bool)) (at_ : Nat) (x : PscCh) : State :=
  let s := setF (staged (if t.isSome then psDiag else psQueued) x) (F.PSC_DIAG_THR_OPEN_OHM (pscFn 15)) 1000
  { s with psc := { s.psc with test := t, testAt := at_, queue := if t.isSome then [] else [15, 14] } }

/-- A calibration of mode 2 began at sp `at_`. -/
def calibrating (at_ : Nat) : State := staged psCal { PscCh.reset with calMode := 2, calBack := psObserving, calAt := at_ }

theorem test_PowerStageTests_applies :
    (let s := testing none 0 PscCh.reset
     s.psc.test = none ∧ s.psc.queue = [15, 14] ∧ pscDrives s = true) ∧
    (let s := testing (some ([15], false)) (6000000 - 3840) { PscCh.reset with retrying := true }
     s.psc.testAt + testSpan false ≤ s.sctr.toNat ∧ (pscCh s 15).back = none ∧ (diagResult s 15 ⟨0x3F800000, 0x3F800000⟩ false).1 = 1) ∧
    (let s := testing (some ([15], false)) (6000000 - 3840) { PscCh.reset with failed := some 2 }
     (pscCh s 15).back = none ∧ (diagResult s 15 ⟨0, 0⟩ false).1 = 2) ∧
    (let s := testing (some ([15], true)) (6000000 - 2304) { PscCh.reset with back := some psObserving }
     s.psc.testAt + testSpan true ≤ s.sctr.toNat ∧ (pscCh s 15).back = some psObserving ∧ psObserving < 16) ∧
    (let s := calibrating (6000000 - 1920)
     pscState s 15 = psCal ∧ (pscCh s 15).calBack < 16 ∧ (pscCh s 15).calAt + calSpan 2 ≤ s.sctr.toNat ∧
     calFault 2 ⟨0x3F666666, 0, 0x3F8CCCCD, 0, 0x40000000⟩ = none ∧ calFault 2 ⟨0x3F666665, 0, 0x3F8CCCCD, 0, 0x40000000⟩ = some 0) := by
  dsimp only; decide +kernel

theorem test_PowerStageCommands_applies :
    (let s := asked (setFn (watching psRunning) (pscFn 15) fnDisabled) 0x0701 (le 2 0x8000)
     Served s 0 0x0701 (· == 2) ∧ intrusiveRefusal s (arg s 0 0 2) false = none ∧ arg s 0 0 2 / 2 ^ 15 % 2 = 1) ∧
    (let s := asked (staged psRunning PscCh.reset) 0x0701 (le 2 0x8000)
     Served s 0 0x0701 (· == 2) ∧ intrusiveRefusal s (arg s 0 0 2) false = some (.refused 0x0729 0)) ∧
    (let s := asked (watching psObserving) 0x0702 (le 2 0x8000 ++ [2])
     Served s 0 0x0702 (· == 3) ∧ intrusiveRefusal s (arg s 0 0 2) (arg s 0 2 1 == 0 || decide (2 < arg s 0 2 1)) = none) ∧
    (let s := asked (watching psObserving) 0x0702 (le 2 0x8000 ++ [3])
     Served s 0 0x0702 (· == 3) ∧ intrusiveRefusal s (arg s 0 0 2) (arg s 0 2 1 == 0 || decide (2 < arg s 0 2 1)) = some (.refused 0x072B 0)) ∧
    (let s := asked (staged psLatched PscCh.reset) 0x0703 (le 2 0x8000)
     Served s 0 0x0703 (· == 2) ∧ modelA s = true ∧ arg s 0 0 2 / 2 ^ 15 % 2 = 1 ∧
     (∀ n : Fin 16, arg s 0 0 2 / 2 ^ n.val % 2 = 1 → pscState s n = psLatched) ∧ pscDrives s = true) ∧
    (let s := asked (watching psLatched) 0x0703 (le 2 0x8000)
     (∀ n : Fin 16, arg s 0 0 2 / 2 ^ n.val % 2 = 1 → pscState s n = psLatched) ∧ pscDrives s = false) ∧
    (let s := asked (setF running F.ID_DEVICE_ORDER 1) 0x0703 (le 2 0x8000)
     Served s 0 0x0703 (· == 2) ∧ modelA s = false) ∧
    (let s := asked (staged psRunning PscCh.reset) 0x0703 (le 2 0)
     Served s 0 0x0703 (· == 2) ∧ modelA s = true ∧ ∀ n : Fin 16, ¬ arg s 0 0 2 / 2 ^ n.val % 2 = 1) ∧
    (let s := asked (staged psRunning PscCh.reset) 0x0703 (le 2 0x8000)
     Served s 0 0x0703 (· == 2) ∧ arg s 0 0 2 / 2 ^ 15 % 2 = 1 ∧ pscState s 15 ≠ psLatched) := by dsimp only; decide +kernel


/-! ### The pair, the witness and the restrike -/

/-- A node of a pair at sp `now` in a role, its pair link up on port 2 under key K, its Omzor port 0 with one control frame of credit; the
peer is node 5. -/
def pairNode (role now : Nat) : State :=
  let s := sets (ons running [1, 3, 0x20, 0x48])
    [(F.ETH_CFG_ROLE 3, 2), (F.ETH_STAT_LINK 0, 1), (F.ETH_STAT_LINK 2, 1), (F.ETH_CFG_MAX_FRAME 1, 1518), (F.ETH_CFG_MAX_FRAME 3, 1518),
     (F.ETH_POLICE_CTL_RATE 1, 1), (F.PAIR_STAT_ROLE, role), (F.TIME_STAT_SCTR_STATE, timeTimed)]
  let s := setR s R.PAIR_PEER_LO 5
  { s with sctr := BitVec.ofNat 64 now,
           pair := { s.pair with ses := { Session.reset with key := some [0x4B] }, om := { Session.reset with key := some [0x4F], id := 9 } } }

/-- A frame of the pair link from node 5, its TAG right under key K (R357). -/
def linkFrame (subtype lo : Nat) (pay : List Byte) : PairFrame :=
  { head := ⟨2, 64, 0xFFFFFFFFFFFF, none, false, false, false, false, false⟩, src := 5, version := 1, pairId := 0, seq := 1,
    sctrLo := BitVec.ofNat 32 lo, payload := pay, tag := tagOf [0x4B] (pairBytes subtype 0 1 (BitVec.ofNat 32 lo).toNat pay) }

/-- What R357 checks of a frame, but for its TAG. -/
def linkB (s : State) (f : PairFrame) (subtype : Nat) : Bool :=
  (rxHead s f.head 0x88B5 subtype).2 && fnOn s 0x48 && (decide (0x10 ≤ subtype) || !unpaired s) && f.src.toNat == pairPeer s &&
  f.pairId == getR s R.PAIR_ID && decide (seqOf s.pair.ses.rxSeq subtype < f.seq.toNat) && f.version == 1

/-- A frame with the TAG of the session's key passes. -/
theorem frameOk_of_check {s : State} {f : PairFrame} {subtype : Nat} {k : List Byte} (c : linkB s f subtype = true)
    (h : keyAt s.pair.ses (extendSctr s f.sctrLo.toNat) = some k)
    (t : f.tag = tagOf k (pairBytes subtype f.pairId.toNat f.seq.toNat f.sctrLo.toNat f.payload)) : FrameOk s f subtype := by
  simp only [linkB, Bool.and_eq_true, Bool.or_eq_true, decide_eq_true_eq, beq_iff_eq, Bool.not_eq_true'] at c
  obtain ⟨⟨⟨⟨⟨⟨a1, a2⟩, a3⟩, a4⟩, a5⟩, a6⟩, a7⟩ := c
  exact ⟨⟨a1, a2, a3⟩, a4, a5, a6, a7, by simp [pairTagOk, tagOk, h, t]⟩

/-- A frame of `linkFrame` passes at a node that holds key K. -/
theorem linkFrame_ok {s : State} {subtype lo : Nat} {pay : List Byte} (c : linkB s (linkFrame subtype lo pay) subtype = true)
    (h : keyAt s.pair.ses (extendSctr s (linkFrame subtype lo pay).sctrLo.toNat) = some [0x4B]) : FrameOk s (linkFrame subtype lo pay) subtype :=
  frameOk_of_check c h rfl

/-- An Omzor message of session 9 at sp `now` to port 0, its TAG right under a key (R363). -/
def omMsg (type : Nat) (key : List Byte) (now : BitVec 64) (pay : List Byte) : OmMsg :=
  { head := ⟨0, 64, 0xFFFFFFFFFFFF, none, false, false, false, false, false⟩, version := 1, session := 9, seq := 1,
    sctr := now, pairId := 0, node := 0, payload := pay,
    tag := tagOf key (omBytes type (9 : Word).toNat (1 : BitVec 64).toNat now.toNat (0 : Word).toNat (0 : Byte).toNat pay) }

/-- A message with the TAG of the session's key has no fault, where its other fields are right. -/
theorem omFault_of_check {s : State} {x : Session} {type : Nat} {key : List Byte} {m : OmMsg} (h : keyAt x m.sctr.toNat = some key)
    (t : m.tag = tagOf key (omBytes type m.session.toNat m.seq.toNat m.sctr.toNat m.pairId.toNat m.node.toNat m.payload))
    (c : (m.version == 1 && decide (seqOf x.rxSeq 0 < m.seq.toNat) && m.session == x.id &&
      decide (((m.sctr.toNat : Int) - s.sctr.toNat).natAbs ≤ 96000)) = true) : omFault s x type m = none := by
  simp only [Bool.and_eq_true, decide_eq_true_eq, beq_iff_eq] at c
  obtain ⟨⟨⟨a0, a1⟩, a2⟩, a3⟩ := c
  have ok : tagOk x m.sctr.toNat s.sctr.toNat
      (omBytes type m.session.toNat m.seq.toNat m.sctr.toNat m.pairId.toNat m.node.toNat m.payload) m.tag = true := by
    simp [tagOk, h, t]
  have e : ¬ (m.seq.toNat ≤ seqOf x.rxSeq 0 ∨ m.session ≠ x.id ∨ 96000 < ((m.sctr.toNat : Int) - s.sctr.toNat).natAbs) := by
    simp only [a2, ne_eq, not_true_eq_false, false_or, not_or, Nat.not_le, Nat.not_lt]; exact ⟨a1, a3⟩
  simp only [omFault, a0, ok, ne_eq, not_true_eq_false, Bool.not_true, Bool.false_eq_true, or_self, if_false, if_neg e]

/-- Its ROLE_IN is high and roles come from pins. -/
def pinned (role now : Nat) : State :=
  let s := setF (pairNode role now) F.PAIR_CFG_ROLE_SOURCE 1
  { s with pair := { s.pair with roleIn := true } }

theorem test_PairRoles_applies :
    (let s := asked (pairNode roleSolo 9) 0x0801 [4]
     Served s 0 0x0801 (· == 1) ∧ 3 < arg s 0 0 1) ∧
    (let s := asked (pairNode roleSolo 9) 0x0801 [2]
     Served s 0 0x0801 (· == 1) ∧ arg s 0 0 1 < 3) ∧
    (let s := asked (pairNode roleSolo 9) 0x0801 [3]
     Served s 0 0x0801 (· == 1) ∧ arg s 0 0 1 = 3 ∧ memberRefusal s = none ∧ unpaired s = true) ∧
    (let s := asked (setFn (pairNode roleSolo 9) 0x48 fnDisabled) 0x0801 [3]
     Served s 0 0x0801 (· == 1) ∧ memberRefusal s = some 0x082D) ∧
    (let s := asked (pairNode roleStandby 9) 0x0801 [3]
     Served s 0 0x0801 (· == 1) ∧ memberRefusal s = none ∧ unpaired s = false) ∧
    (let s := asked (pairNode roleActive 9) 0x0802 [1]
     Served s 0 0x0802 (· == 1) ∧ roleOf s = roleActive ∧ arg s 0 0 1 % 2 = 1) ∧
    (let s := asked (pairNode roleActive 9) 0x0802 [0]
     Served s 0 0x0802 (· == 1) ∧ arg s 0 0 1 % 2 = 0 ∧
     (s.pair.peer.any (fun p => p.flags / 2 % 2 == 1) && !isF s F.PAIR_STAT_PEER_LOST) = false) ∧
    (let s := asked (pairNode roleStandby 9) 0x0802 [0]
     Served s 0 0x0802 (· == 1) ∧ roleOf s ≠ roleActive) ∧
    (let s := setF (pairNode roleActive 9) (F.PRESS_STAT_FAULTED 3) 1
     faultReason s = some 1 ∧ roleOf s = roleActive) ∧
    (let s := setF (pairNode roleStandby 9) F.PAIR_STAT_PROMOTABLE 1
     roleOf s = roleStandby ∧ isF s F.PAIR_STAT_PROMOTABLE = true ∧ ownFault s = false ∧ getF s F.NODE_STAT_STATE ≠ 5 ∧
     (isF s F.PAIR_CFG_ROLE_SOURCE && s.pair.roleIn) = false) ∧
    (let s := sets (pairNode roleStandby 9) [(F.PAIR_STAT_PROMOTABLE, 1), (F.NODE_STAT_STATE, 5)]
     isF s F.PAIR_STAT_PROMOTABLE = true ∧ ownFault s = false ∧ getF s F.NODE_STAT_STATE = 5) ∧
    (let s := pinned roleActive 9
     s.pair.roleIn ≠ false ∧ isF s F.PAIR_CFG_ROLE_SOURCE = true ∧ fnOn s 0x48 = true ∧ roleOf s = roleActive ∧ s.pair.ratifyBy = none ∧
     isF s F.PAIR_STAT_UNRATIFIED = false) ∧
    (let s := setF (pairNode roleStandby 9) F.PAIR_CFG_ROLE_SOURCE 1
     s.pair.roleIn ≠ true ∧ isF s F.PAIR_CFG_ROLE_SOURCE = true ∧ roleOf s = roleStandby ∧ ownFault s = false ∧
     promoteOk (comingBoundary s) false = true) ∧
    (let s := { pairNode roleStandby 9 with pair := { (pairNode roleStandby 9).pair with promoteTo := some 9 } }
     s.pair.promoteTo = some 9 ∧ 9 ≤ s.sctr.toNat) ∧
    (let s := { pairNode roleActive 9 with pair := { (pairNode roleActive 9).pair with ratifyBy := some 9 } }
     s.pair.ratifyBy = some 9 ∧ 9 ≤ s.sctr.toNat ∧ roleOf s = roleActive ∧ (isF s F.PAIR_CFG_ROLE_SOURCE && s.pair.roleIn) = false) ∧
    (let s := { pinned roleActive 9 with pair := { (pinned roleActive 9).pair with ratifyBy := some 9 } }
     (isF s F.PAIR_CFG_ROLE_SOURCE && s.pair.roleIn) = true) := by dsimp only; decide +kernel

/-- A heartbeat of an ACTIVE peer, at boundary 24. -/
def beat24 : PairFrame := linkFrame 1 24 ([4, 1] ++ le 2 0 ++ le 4 7)

/-- The STANDBY holds a digest of group 530 whose period ended at boundary 24. -/
def digesting (rs : Nat) (crc : Word) : State :=
  let s := setF (pairNode roleStandby 48) F.RS_STAT_STATE rs
  { s with pair := { s.pair with digOwn := [⟨530, 24, crc⟩] } }

/-- The ACTIVE's digest of that period. -/
def digest24 : PairFrame := linkFrame 3 24 (le 2 1 ++ le 2 0 ++ le 2 530 ++ le 2 0 ++ le 4 24 ++ le 4 7)

theorem test_PairFrames_applies :
    heartbeatDue (pairNode roleActive 24) = true ∧
    (FrameOk (pairNode roleStandby 24) beat24 1 ∧
      (pairNode roleStandby 24).sctr.toNat ≤ extendSctr (pairNode roleStandby 24) beat24.sctrLo.toNat ∧
      extendSctr (pairNode roleStandby 25) beat24.sctrLo.toNat < (pairNode roleStandby 25).sctr.toNat) ∧
    FrameBad (pairNode roleStandby 24) { beat24 with version := 2 } 1 ∧
    (heartbeatGone (pairNode roleStandby 25) = true ∧ (pairNode roleStandby 25).pair.miss < 3) ∧
    (let s := { pairNode roleStandby 25 with pair := { (pairNode roleStandby 25).pair with miss := 3 } }
     heartbeatGone s = true ∧ 3 ≤ s.pair.miss ∧ isF s F.PAIR_STAT_PEER_LOST = false) ∧
    (FrameOk (pairNode roleStandby 32) (linkFrame 2 24 (le 2 0 ++ [0, 1])) 2 ∧ keepsSet (pairNode roleStandby 32) 24 = true ∧
      (pairNode roleStandby 32).sctr.toNat ≤ 24 + 8 ∧ ¬ (pairNode roleStandby 33).sctr.toNat ≤ 24 + 8) ∧
    (FrameOk (pairNode roleActive 32) (linkFrame 2 24 (le 2 0 ++ [0, 1])) 2 ∧ keepsSet (pairNode roleActive 32) 24 = false) ∧
    roleOf (pairNode roleStandby 24) ≠ roleActive ∧
    (FrameOk (digesting 0 8) digest24 3 ∧ roleOf (digesting 0 8) = roleStandby ∧ leAt digest24.payload 0 2 = 1 ∧
      ((digesting 0 8).pair.digOwn ++ (digesting 0 8).pair.digDue).find? (fun d => d.group == leAt digest24.payload 4 2 &&
        d.end_ % 2 ^ 32 == leAt digest24.payload 8 4) = some ⟨530, 24, 8⟩ ∧ rsState (digesting 0 8) = 0 ∧
      (7 : Word) = BitVec.ofNat 32 (leAt digest24.payload 12 4)) ∧
    digOverdue (digesting 0 8) (some 530) ≠ [] ∧ (digesting 0 8).sctr.toNat = 24 + 24 := by
  refine ⟨by decide +kernel, ⟨linkFrame_ok (by decide +kernel) (by decide +kernel), by decide +kernel⟩, ⟨by unfold FrameReaches; decide +kernel, fun h => ?_⟩,
    by decide +kernel, by dsimp only; decide +kernel, ⟨linkFrame_ok (by decide +kernel) (by decide +kernel), by decide +kernel⟩,
    ⟨linkFrame_ok (by decide +kernel) (by decide +kernel), by decide +kernel⟩, by decide +kernel,
    ⟨linkFrame_ok (by decide +kernel) (by decide +kernel), by decide +kernel⟩, by decide +kernel⟩
  exact absurd h.2.2.2.2.1 (by decide +kernel)

theorem test_DigestInRestrike_applies :
    FrameOk (digesting 1 8) digest24 3 ∧ roleOf (digesting 1 8) = roleStandby ∧ rsState (digesting 1 8) ≠ 0 ∧ leAt digest24.payload 0 2 = 1 ∧
    ((digesting 1 8).pair.digOwn ++ (digesting 1 8).pair.digDue).find? (fun d => d.group == leAt digest24.payload 4 2 &&
      d.end_ % 2 ^ 32 == leAt digest24.payload 8 4) = some ⟨530, 24, 8⟩ ∧ (8 : Word) ≠ BitVec.ofNat 32 (leAt digest24.payload 12 4) :=
  ⟨linkFrame_ok (by decide +kernel) (by decide +kernel), by decide +kernel⟩

/-- A role command waits for boundary 96,001. -/
def commanded (s : State) (cmd : Nat) : State := { s with pair := { s.pair with cmds := [⟨96001, cmd, false, 7⟩] } }

/-- A STANDBY that may restrike from its peer. -/
def strikable : State :=
  let s := setF (pairNode roleStandby 96000) F.PAIR_STAT_LINK_UP 1
  { s with pair := { s.pair with peer := some ⟨roleActive, 0, 0⟩ } }

/-- A witness at sp 96,000 for 32 pairs; node 63 has just shown `x`, with a session of its own under key W. -/
def witnessing (x : WitNode) (p : WitPair) : State :=
  let s := sets (ons (pairNode roleWitness 96000) [0x49]) [(F.WIT_SVC_CFG_PAIRS, 32)]
  { s with wit := { s.wit with nodes := s.wit.nodes.set 63 { x with ses := { Session.reset with key := some [0x57], id := 9 } },
                               pairs := s.wit.pairs.set 31 p } }

theorem test_OmzorMessages_applies :
    (beatDue (pairNode roleActive 96000) none = true ∧ omzorPort (pairNode roleActive 96000) = some 0 ∧ ethUp (pairNode roleActive 96000) 0 = true ∧
      (ethQueue (pairNode roleActive 96000) 0 3).length < 64) ∧
    beatDue (witnessing WitNode.reset WitPair.reset) (some 63) = true ∧
    OmzorOk (pairNode roleActive 96000) 1 (omMsg 1 [0x4F] 0 []) ∧
    ((omzorArrives (pairNode roleActive 96000) { omMsg 1 [0x4F] 0 [] with version := 2 }.head false).2 = true ∧
      omFault (pairNode roleActive 96000) (pairNode roleActive 96000).pair.om 1 { omMsg 1 [0x4F] 0 [] with version := 2 } = some true) ∧
    WitnessOk (witnessing WitNode.reset WitPair.reset) 63 1 (omMsg 1 [0x57] 96000 []) ∧
    healthDue (pairNode roleActive 96000) = true ∧
    (OmzorOk (pairNode roleActive 96000) 5 (omMsg 5 [0x4F] 96000 ([2, 0, 0, 0] ++ le 4 7 ++ le 8 96001)) ∧
      isF (pairNode roleActive 96000) F.PAIR_CFG_ROLE_SOURCE = false) ∧
    (OmzorOk (pinned roleActive 96000) 5 (omMsg 5 [0x4F] 96000 ([2, 0, 0, 0] ++ le 4 7 ++ le 8 96001)) ∧
      isF (pinned roleActive 96000) F.PAIR_CFG_ROLE_SOURCE = true) := by
  refine ⟨by decide +kernel, by decide +kernel, ⟨by decide +kernel, by decide +kernel, omFault_of_check (key := [0x4F]) (by decide +kernel) rfl (by decide +kernel)⟩,
    ⟨by decide +kernel, ?_⟩, ⟨by decide +kernel, by decide +kernel, omFault_of_check (key := [0x57]) (by decide +kernel) rfl (by decide +kernel)⟩, by decide +kernel,
    ⟨⟨by decide +kernel, by decide +kernel, omFault_of_check (key := [0x4F]) (by decide +kernel) rfl (by decide +kernel)⟩, by decide +kernel⟩,
    ⟨by decide +kernel, by decide +kernel, omFault_of_check (key := [0x4F]) (by decide +kernel) rfl (by decide +kernel)⟩, by decide +kernel⟩
  simp [omFault, omMsg]

theorem test_OmzorMessages_commands_apply :
    (let s := commanded (pairNode roleStandby 96000) 1
     nextCommand (comingBoundary s) = some 0 ∧ roleOf s = roleStandby ∧ ownFault s = false ∧ promoteOk (comingBoundary s) false = true) ∧
    ownFault (commanded (setF (pairNode roleStandby 96000) (F.PRESS_STAT_FAULTED 0) 1) 1) = true ∧
    (let s := commanded (pairNode roleActive 96000) 2
     nextCommand (comingBoundary s) = some 0 ∧ roleOf s = roleActive) ∧
    restrikeRefusal (commanded strikable 3) = none ∧ restrikeRefusal (commanded (pairNode roleStandby 96000) 3) ≠ none ∧
    inPairRole (commanded (pairNode roleActive 96000) 4) = true ∧ inPairRole (commanded (pairNode roleSolo 96000) 4) = false ∧
    (let s := { pairNode roleActive 96000 with net := { (pairNode roleActive 96000).net with lostQ := [(7, 96000, 96000)], lostAt := [(7, 86400)] } }
     s.net.lostQ.find? (fun x => decide (x.2.2 ≤ s.sctr.toNat)) = some (7, 96000, 96000) ∧ cpIsRunning s = true ∧
     (keyAt s.pair.om s.sctr.toNat).isSome = true ∧ ∀ a ∈ s.net.lostAt, a.1 = 7 → a.2 + 9600 ≤ s.sctr.toNat) ∧
    witnessGone (setR (pairNode roleActive 96000) R.WIT_IP 1) = true := by dsimp only; decide +kernel

/-- A node as the witness last heard of it. -/
def heard (role flags : Nat) (at_ : Option Nat) : WitNode := { WitNode.reset with role := role, flags := flags, at_ := at_ }

theorem test_WitnessService_applies :
    WitnessOk (witnessing WitNode.reset WitPair.reset) 63 2 (omMsg 2 [0x57] 96000 [3, 2, 0]) ∧
    (WitnessOk (witnessing (heard 3 2 none) WitPair.reset) 63 3 (omMsg 3 [0x57] 96000 [2]) ∧ (heard 3 2 none).promotable = true ∧
      (heard 3 0 none).promotable = false) ∧
    (WitnessOk (setR (witnessing (heard 3 0 none) WitPair.reset) (cfgKey 0x49 (0x20 + 32 * 31 + 0x1C)) 2) 63 3 (omMsg 3 [0x57] 96000 [1]) ∧
      leAt (omMsg 3 [0x57] 96000 [1]).payload 0 1 = 1) ∧
    (wbit (witWord (setR (witnessing (heard 3 4 none) WitPair.reset) (cfgKey 0x49 (0x20 + 32 * 31 + 0x1C)) 2) 31 0x1C) 1 = true ∧
      (heard 3 4 none).faulty = true ∧ (heard 3 0 none).faulty = false) ∧
    (WitnessOk (witnessing (heard 3 0 none) { WitPair.reset with count := 2, base := 1 }) 63 4 (omMsg 4 [0x57] 96000 []) ∧
      (witNode (witnessing (heard 3 0 none) { WitPair.reset with count := 2, base := 1 }) (mate 63)).faulty = false ∧
      (heard 3 0 none).done ≠ 1) ∧
    (WitnessOk (witnessing (heard 3 2 none) WitPair.reset) 63 6 (omMsg 6 [0x57] 96000 ([1, 0, 0, 0] ++ le 4 0)) ∧
      (heard 3 2 none).role = roleStandby) ∧
    WitnessOk (witnessing (heard 3 2 none) WitPair.reset) 63 6 (omMsg 6 [0x57] 96000 ([2, 0, 0, 0] ++ le 4 9)) := by
  exact ⟨⟨by decide +kernel, by decide +kernel, omFault_of_check (key := [0x57]) (by decide +kernel) rfl (by decide +kernel)⟩,
    ⟨⟨by decide +kernel, by decide +kernel, omFault_of_check (key := [0x57]) (by decide +kernel) rfl (by decide +kernel)⟩, by decide +kernel⟩,
    ⟨⟨by decide +kernel, by decide +kernel, omFault_of_check (key := [0x57]) (by decide +kernel) rfl (by decide +kernel)⟩, by decide +kernel⟩,
    by decide +kernel,
    ⟨⟨by decide +kernel, by decide +kernel, omFault_of_check (key := [0x57]) (by decide +kernel) rfl (by decide +kernel)⟩, by decide +kernel⟩,
    ⟨⟨by decide +kernel, by decide +kernel, omFault_of_check (key := [0x57]) (by decide +kernel) rfl (by decide +kernel)⟩, by decide +kernel⟩,
    ⟨by decide +kernel, by decide +kernel, omFault_of_check (key := [0x57]) (by decide +kernel) rfl (by decide +kernel)⟩⟩

theorem test_WitnessService_timers_apply :
    (healthGone (witnessing (heard roleStandby 2 (some 72000)) WitPair.reset) 63 = true ∧
      healthGone (witnessing (heard roleStandby 2 (some 72001)) WitPair.reset) 63 = false) ∧
    bothStandby (witnessing WitNode.reset { WitPair.reset with bothAt := some 0 }) 31 = true ∧
    longMatched { witnessing WitNode.reset { WitPair.reset with matchedAt := some 0 } with sctr := 57600000 } 31 = true ∧
    (witOn (witnessing WitNode.reset WitPair.reset) = true ∧
      (witnessing WitNode.reset WitPair.reset).wit.srcFrom + 960 ≤ (witnessing WitNode.reset WitPair.reset).sctr.toNat) := by
  decide +kernel

theorem test_WitnessService_commands_apply :
    (let s := asked (witnessing WitNode.reset WitPair.reset) 0x0803 ([31, 1] ++ List.replicate 10 0)
     Served s 0 0x0803 (· == 12) ∧ witRefusal s (arg s 0 0 1) = none ∧ arg s 0 1 1 ≤ 1 ∧
     keyAt (witNode s (2 * arg s 0 0 1 + arg s 0 1 1)).ses s.sctr.toNat ≠ none) ∧
    (let s := asked (witnessing WitNode.reset WitPair.reset) 0x0803 ([31, 0] ++ List.replicate 10 0)
     keyAt (witNode s (2 * arg s 0 0 1 + arg s 0 1 1)).ses s.sctr.toNat = none) ∧
    (let s := asked (witnessing WitNode.reset WitPair.reset) 0x0803 ([32, 0] ++ List.replicate 10 0)
     Served s 0 0x0803 (· == 12) ∧ witRefusal s (arg s 0 0 1) = some 0x082A) ∧
    (let s := asked (witnessing WitNode.reset WitPair.reset) 0x0804 [31]
     Served s 0 0x0804 (· == 1) ∧ witRefusal s (arg s 0 0 1) = none) ∧
    (let s := asked (witnessing WitNode.reset WitPair.reset) 0x0805 [31]
     Served s 0 0x0805 (· == 1) ∧ witRefusal s (arg s 0 0 1) = none ∧ arg s 0 0 1 = (31 : Fin 32).val) := by dsimp only; decide +kernel


/-! ### The restrike -/

/-- Bank 0 issues a plate of press 0 with one group: word 0 of lane 0, replayed in slots 144 on, with one input at address 8. -/
def grouped (s : State) : State :=
  let g : Group := ⟨0, false, 1, 0, 16, 144, 2, 2, 2, 0, [⟨1, 0, 1⟩], [8]⟩
  let b := { Bank.reset with pressMask := 1, groups := [g], fill := 5 }
  setF { s with eng := { s.eng with banks := s.eng.banks.set 0 b } } F.ENG_BANK_STAT_STATE_A bkRunning

/-- A restrike chunk copied at boundary 90 (R396). -/
def chunk (kind index at_ : Nat) (data : List Byte) : PairFrame :=
  linkFrame 5 90 ([BitVec.ofNat 8 kind, 0, 1, 10] ++ le 2 index ++ le 2 (data.length / 4) ++ le 8 at_ ++ data)

/-- The STANDBY at sp 96,000 in a state of its restrike. -/
def striking (st : Nat) : State :=
  let s := grouped (sets (pairNode roleStandby 96000) [(F.RS_STAT_STATE, st), (F.RS_CFG_D, 10), (F.RS_CFG_RETRIES, 3)])
  { s with rs := { s.rs with startAt := 95904 } }

/-- The ACTIVE serves one; its restrike is at `x`. -/
def serving (x : Option RsServe) : State :=
  let s := grouped (pairNode roleActive 96000)
  { s with rs := { s.rs with serve := x }, eng := { s.eng with running := true } }

/-- The chunk passes at a node that holds key K. -/
theorem chunk_ok {s : State} {kind index at_ : Nat} {data : List Byte} (c : linkB s (chunk kind index at_ data) 5 = true)
    (h : keyAt s.pair.ses (extendSctr s (chunk kind index at_ data).sctrLo.toNat) = some [0x4B])
    (k : leAt (chunk kind index at_ data).payload 0 1 = kind) : ChunkOk s (chunk kind index at_ data) kind :=
  ⟨linkFrame_ok c h, k⟩

/-- The unit at the cursor is out, or the next copy is due. -/
def serveUnit (out : Bool) : RsServe := ⟨96000, 256, true, 0, 96100, false, out, 0, 10⟩

theorem test_RestrikeCommands_applies :
    (let s := asked strikable 0x0806 []
     Served s 0 0x0806 (· == 0) ∧ restrikeRefusal s = none) ∧
    (let s := asked (striking 2) 0x0806 []
     Served s 0 0x0806 (· == 0) ∧ restrikeRefusal s = some 0x082F) ∧
    (let s := asked (striking 2) 0x0807 []
     Served s 0 0x0807 (· == 0) ∧ rsState s ≠ 0) ∧
    (let s := asked (striking 0) 0x0807 []
     Served s 0 0x0807 (· == 0) ∧ rsState s = 0 ∧ s.rs.serve = none) ∧
    (let s := asked (serving (some (serveUnit true))) 0x0807 []
     Served s 0 0x0807 (· == 0) ∧ rsState s = 0 ∧ s.rs.serve ≠ none) ∧
    (rsState (striking 1) = 1 ∧ (striking 1).rs.startAt + 96 ≤ (striking 1).sctr.toNat) ∧
    chunksGone (striking 4) = true ∧
    fillOver (setR (striking 5) R.RS_FILL 5) = true ∧
    (let s := { striking 0 with rs := { (striking 0).rs with sdDue := some (96000, [1, 0, 0, 0]) } }
     s.rs.sdDue = some (96000, [1, 0, 0, 0]) ∧ roleOf s = roleStandby ∧ fillTime (setR s R.RS_FILL 5) ≤ (getR (setR s R.RS_FILL 5) R.RS_FILL).toNat) ∧
    roleOf { serving none with rs := { (serving none).rs with sdDue := some (96000, [1, 0, 0, 0]) } } = roleActive := by
  dsimp only; decide +kernel

/-- A digest frame of the ACTIVE for the window that ended at 96,000, the CRC of press 0 as given. -/
def stateDigest (crc : Word) : PairFrame := linkFrame 4 96000 (le 8 96000 ++ le 4 0 ++ le 4 crc.toNat ++ le 12 0)

/-- The STANDBY keeps its own digest of that window. -/
def digestKept : State := { striking 0 with rs := { (striking 0).rs with sdOwn := some (96000, [7, 0, 0, 0]), provenNext := true } }

theorem test_RestrikeCommands_frames_apply :
    (ChunkOk (serving none) (chunk 1 0 0 []) 1 ∧ canServeRs (serving none) = true) ∧
    (ChunkOk (striking 0) (chunk 1 0 0 []) 1 ∧ canServeRs (striking 0) = false) ∧
    (ChunkOk (striking 1) (chunk 2 0 96004 []) 2 ∧ rsState (striking 1) = 1) ∧
    (ChunkOk (striking 0) (chunk 2 0 96004 []) 2 ∧ rsState (striking 0) ≠ 1) ∧
    ChunkOk (striking 1) (chunk 3 11 0 []) 3 ∧ ChunkOk (striking 2) (chunk 4 7 0 []) 4 ∧
    (ChunkOk (serving (some (serveUnit true))) (chunk 8 0 0 []) 8 ∧
      (serving (some (serveUnit true))).rs.serve = some (serveUnit true) ∧ (serveUnit true).unit = leAt (chunk 8 0 0 []).payload 4 2) ∧
    (ChunkOk (serving (some (serveUnit false))) (chunk 8 0 0 []) 8 ∧ (serveUnit false).out = false) ∧
    ChunkOk (serving (some (serveUnit true))) (chunk 9 0 0 []) 9 ∧
    (FrameOk digestKept (stateDigest 8) 4 ∧ roleOf digestKept = roleStandby ∧ digestKept.rs.sdDue = none ∧
      digestKept.rs.sdOwn = some (leAt (stateDigest 8).payload 0 8, [7, 0, 0, 0]) ∧
      BitVec.ofNat 32 (leAt (stateDigest 8).payload 12 4) ≠ (7 : Word)) ∧
    (FrameOk digestKept (stateDigest 7) 4 ∧ BitVec.ofNat 32 (leAt (stateDigest 7).payload 12 4) = (7 : Word)) := by
  refine ⟨⟨chunk_ok ?_ ?_ ?_, ?_⟩, ⟨chunk_ok ?_ ?_ ?_, ?_⟩, ⟨chunk_ok ?_ ?_ ?_, ?_⟩, ⟨chunk_ok ?_ ?_ ?_, ?_⟩, chunk_ok ?_ ?_ ?_, chunk_ok ?_ ?_ ?_,
    ⟨chunk_ok ?_ ?_ ?_, ?_⟩, ⟨chunk_ok ?_ ?_ ?_, ?_⟩, chunk_ok ?_ ?_ ?_, ⟨linkFrame_ok ?_ ?_, ?_⟩, ⟨linkFrame_ok ?_ ?_, ?_⟩⟩ <;> decide +kernel

/-- A unit's chunk, its one part in before sp 96,000 (`inAt`), due there. -/
def dueUnit (inAt : Nat) : State :=
  let s := striking 4
  { s with rs := { s.rs with units := [⟨0, 95990, inAt, [(0, [1, 2, 3, 4])], some 0⟩],
                             ring := (List.range 10).map (fun i => (95990 + i, [])) } }

theorem test_RestrikeData_applies :
    (copyDue (serving (some ⟨95998, 2, false, 0, 0, false, false, 0, 10⟩)) = some ⟨95998, 2, false, 0, 0, false, false, 0, 10⟩ ∧
      issuingBank (serving none) = some 0) ∧
    (ChunkOk (striking 2) (chunk 5 3 95990 [1, 2, 3, 4]) 5 ∧ rsState (striking 2) = 2) ∧
    snapshotDue (serving (some ⟨95744, 256, false, 0, 0, false, false, 0, 10⟩)) = some ⟨95744, 256, false, 0, 0, false, false, 0, 10⟩ ∧
    (ChunkOk (striking 3) (chunk 6 0 95990 []) 6 ∧ rsState (striking 3) = 3) ∧
    (let s := setPress { serving (some (serveUnit false)) with rs := { (serving (some (serveUnit false))).rs with copying := some (0, [(16, 2)]) } }
       0 { press (serving none) 0 with slot := 130 }
     s.rs.serve = some (serveUnit false) ∧ s.rs.copying = some (0, [(16, 2)]) ∧ (serveUnit false).out = false ∧ copyReady s 0 0 = true) ∧
    (ChunkOk (striking 4) (chunk 7 0 95990 [1, 2, 3, 4]) 7 ∧ rsState (striking 4) = 4) ∧
    (∃ u, unitDue (dueUnit 95995) = some u ∧ (chunkData u).isSome = true ∧ u.at_ + 10 = 96000 ∧ u.cameAt < 96000 ∧
      ringHolds (dueUnit 95995) (unitOf (dueUnit 95995) u.index) u.at_ 10 = true ∧ (press (dueUnit 95995) 0).slot ≤ 144) ∧
    (∃ u, unitDue (dueUnit 96000) = some u ∧ ¬ u.cameAt < 96000 ∧ getF (dueUnit 96000) F.RS_STAT_FAILS + 1 < getF (dueUnit 96000) F.RS_CFG_RETRIES) ∧
    (∃ u, unitDue (setF (dueUnit 96000) F.RS_STAT_FAILS 2) = some u ∧
      getF (setF (dueUnit 96000) F.RS_STAT_FAILS 2) F.RS_CFG_RETRIES ≤ getF (setF (dueUnit 96000) F.RS_STAT_FAILS 2) F.RS_STAT_FAILS + 1) := by
  refine ⟨by decide +kernel, ⟨chunk_ok ?_ ?_ ?_, ?_⟩, ?_, ⟨chunk_ok ?_ ?_ ?_, ?_⟩, ?_, ⟨chunk_ok ?_ ?_ ?_, ?_⟩, ⟨⟨0, 95990, 95995, [(0, [1, 2, 3, 4])], some 0⟩, ?_⟩,
    ⟨⟨0, 95990, 96000, [(0, [1, 2, 3, 4])], some 0⟩, ?_⟩, ⟨⟨0, 95990, 96000, [(0, [1, 2, 3, 4])], some 0⟩, ?_⟩⟩ <;> decide +kernel

/-- A STANDBY whose sense cross-check of channel 15 began at sp 95,896. -/
def sensing (n v : Nat) : State :=
  { pairNode roleStandby 96000 with rs := { (pairNode roleStandby 96000).rs with sense := some ⟨15, 95896, v, 0, n, false⟩ } }

/-- Press `p` has been under test since sp 95,040, press 3 still to come. -/
def tested (p : Nat) (rest : List Nat) : State :=
  { pairNode roleStandby 96000 with rs := { (pairNode roleStandby 96000).rs with testing := some (p, 95040), tests := rest } }

theorem test_SelfTests_applies :
    bistOver (let s := setF (pairNode roleStandby 96000) F.SELFTEST_STAT_BIST_RUN 4
      { s with rs := { s.rs with bist := [(2, 95040)] } }) 2 = true ∧
    senseDue (setFn (pairNode roleStandby 96000) (pscFn 15) fnEnabled) = some 15 ∧
    (senseOver (sensing 96 5) = some ⟨15, 95896, 5, 0, 96, false⟩ ∧ roleOf (sensing 96 5) = roleStandby ∧
      senseFault (sensing 96 5) ⟨15, 95896, 5, 0, 96, false⟩ ≠ none ∧ senseFault (sensing 96 0) ⟨15, 95896, 0, 0, 96, false⟩ = none) ∧
    senseOver (sensing 0 0) = some ⟨15, 95896, 0, 0, 0, false⟩ ∧
    (let s := asked (pairNode roleStandby 96000) 0x06F1 [12]
     Served s 0 0x06F1 (· == 1) ∧ selftestRefusal s (arg s 0 0 1) = none) ∧
    (let s := asked (tested 0 []) 0x06F1 [12]
     Served s 0 0x06F1 (· == 1) ∧ selftestRefusal s (arg s 0 0 1) = some 0x06FA) ∧
    ((tested 0 [3]).rs.testing = some (0, 95040) ∧ 95040 + 960 ≤ (tested 0 [3]).sctr.toNat ∧ (tested 0 [3]).rs.tests = [3] ∧ (tested 0 []).rs.tests = []) := by
  dsimp only; decide +kernel

theorem test_PressFaultClear_applies :
    (let s := asked (setF (pairNode roleStandby 9) (F.PRESS_STAT_FAULTED 3) 1) 0x06F0 [8]
     Served s 0 0x06F0 (· == 1) ∧ 0 < arg s 0 0 1 ∧ arg s 0 0 1 < 16 ∧ arg s 0 0 1 / 2 ^ 3 % 2 = 1 ∧ arg s 0 0 1 / 2 ^ 0 % 2 = 0) ∧
    (let s := asked (pairNode roleStandby 9) 0x06F0 [16]
     Served s 0 0x06F0 (· == 1) ∧ 16 ≤ arg s 0 0 1) := by dsimp only; decide +kernel

/-! ### Mailboxes and functions -/

/-- The request of `asked` stands in the area of channel 0, its doorbell not yet rung; the CP is in a state (R435). -/
def written (cp : Nat) (s : State) (op : Nat) (p : List Byte) : State :=
  sets (asked s op p) [(F.MB_STAT_STATE 0, mbIdle), (F.CP_STAT_CP_STATE, cp)]

/-- Two words for a function's block from an offset (R426). -/
def cfgWords (o : Nat) : List Byte := le 2 o ++ le 2 2 ++ le 4 0x12345678 ++ le 4 0x9ABCDEF0

theorem test_MailboxAndFunctions_applies :
    (mbUnlocked (written 0 running 0x0107 [9]) 0 = true ∧ cpIsRunning (written 0 running 0x0107 [9]) = true ∧
      opcodes.contains (reqOf (written 0 running 0x0107 [9]) 0).opcode = true ∧ hostReaches (written 0 running 0x0107 [9]) = true) ∧
    opcodes.contains (reqOf (written 0 running 0x0108 []) 0).opcode = false ∧
    cpRestarting (written 1 running 0x0107 [9]) = true ∧ cpIsHalted (written 2 running 0x0107 [9]) = true ∧
    mbUnlocked (asked running 0x0107 [9]) 0 = false ∧
    Served (asked running 0x0101 []) 0 0x0101 (· == 0) ∧ Served (asked running 0x0107 [9]) 0 0x0107 (fun _ => true) ∧
    ServedFn (asked running 0x0105 [] 0x28) 0 0x0105 (· == 0) ∧
    (let s := asked running 0x0102 (cfgWords 0) 0x10
     ServedFn s 0 0x0102 (cfgLenOk (cfgWords 0)) ∧ cfgLocked s 0x10 = none ∧ cfgInRange 0x10 0 2 = true) ∧
    (let s := asked (setFn running 0x10 fnEnabled) 0x0102 (cfgWords 0) 0x10
     ServedFn s 0 0x0102 (cfgLenOk (cfgWords 0)) ∧ cfgLocked s 0x10 = some 0x0125) ∧
    cfgInRange 0x10 (cfgLen 0x10 - 4) 2 = false ∧ cfgInRange 0x10 (cfgLen 0x10 - 8) 2 = true ∧
    (let p := le 2 0 ++ le 2 1 ++ le 4 9
     ServedFn (asked running 0x0102 p 0) 0 0x0102 (cfgLenOk p) ∧ cfgInRange 0 0 1 = true) ∧

    ServedFn (asked running 0x0103 (le 2 0 ++ le 2 2) 0x10) 0 0x0103 (· == 4) ∧
    ServedFn (asked running 0x0104 [] 0x10) 0 0x0104 (· == 0) ∧
    (let s := asked running 0x0106 []
     Served s 0 0x0106 (· == 0) ∧ longWork s = false) ∧
    (let s := asked (setF running F.FW_STAT_STATE 3) 0x0106 []
     Served s 0 0x0106 (· == 0) ∧ longWork s = true) ∧
    (fnPresent running 0x10 = true ∧ fnBusy running 0x10 = false ∧ fnState running 0x10 = fnDisabled) ∧
    (fnState (setFn running 0x10 fnFaulted) 0x10 = fnFaulted ∧ cpIsRunning (setF running F.CP_STAT_CP_STATE 1) = false) ∧
    (let s := setF running (F.FN_CTL_BUSY 0x2B) 1
     fnChecking s 0x2B = true ∧ fnCheck s 0x2B none ≠ none) ∧
    (let s := setF running (F.FN_CTL_BUSY 0x2A) 1
     fnChecking s 0x2A = true ∧ fnCheck s 0x2A none = none) ∧
    fnStopOver (setFn running 0x08 fnStopping) 0x08 = true ∧
    (recentExpiries { running with cp := { running.cp with wdtTimes := [0, 0] } }).length < 4 ∧
    4 ≤ (recentExpiries { running with cp := { running.cp with wdtTimes := [0, 0, 0] } }).length := by dsimp only; decide +kernel

/-! ### The host link -/

/-- A running node whose link is up, bus mastering on, its SPI target enabled. -/
def hostUp : State :=
  sets running [(F.HL_STAT_LINK_UP, 1), (F.HL_STAT_BME, 1), (F.HL_CTL_SPI_EN, 1), (F.PM_RAIL_STAT_PG, 0x3F), (F.PM_RAIL_STAT_EN, 0x3F)]

/-- Ring 3 is enabled, two buffers posted (R471). -/
def posted : State := setR (setR (setF hostUp (F.RING_CTL_EN 3) 1) (R.RING_SIZE 3) 4) (R.RING_HEAD 3) 2

/-- Semaphore 31 is held by an agent (R478). -/
def heldBy (a : Nat) : State := { hostUp with host := { hostUp.host with sem := [(31, a)] } }

theorem test_HostLink_applies :
    (pciePowered (setF hostUp F.HL_STAT_LINK_UP 0) = true ∧ isF (setF hostUp F.HL_STAT_LINK_UP 0) F.HL_STAT_LINK_UP = false) ∧
    (pciePowered (heldBy 0) = true ∧ epCause (heldBy 0) 5 = true ∧ epCause (setF (heldBy 2) F.HL_STAT_LINK_UP 0) 4 = true) ∧
    bufPosted posted 3 = true ∧
    (let s := setR posted R.IRQ_STATUS 0x4001
     hostReaches s = true ∧ isF s F.HL_STAT_MSIX = false ∧ wbit (0x4001 : Word) 14 = true ∧ wbit (getR s R.IRQ_ENABLE) 14 = false ∧
     wbit (getR s R.IRQ_STATUS) 14 = true) ∧
    (agentHere (heldBy 1) 1 = true ∧ semOwner (heldBy 1) 31 = some 1 ∧ agentHere (heldBy 0) 1 = true ∧ semOwner (heldBy 0) 31 ≠ some 1) ∧
    (let s := setR hostUp (R.RING_SIZE 3) 4096
     hostReaches s = true ∧ isF s (F.RING_CTL_EN 3) = false ∧ ringCheck (Machine.ringSize s 3) 3 = none) ∧
    ringCheck (Machine.ringSize (setR hostUp (R.RING_SIZE 3) 4097) 3) 3 = some 0x0D21 ∧
    ((isF posted (F.RING_CTL_EN 3) && headBad posted 3 4) = false ∧ (isF posted (F.RING_CTL_EN 3) && headBad posted 3 5) = true) ∧
    Served (asked hostUp 0x0D01 []) 0 0x0D01 (· == 0) ∧
    (let s := asked hostUp 0x0D02 (le 4 0x1FFFFC ++ le 4 4)
     Served s 0 0x0D02 (· == 8) ∧ arg s 0 4 4 % 4 = 0 ∧ arg s 0 0 4 + arg s 0 4 4 ≤ 0x200000) ∧
    (let s := asked hostUp 0x0D02 (le 4 0x1FFFFC ++ le 4 8)
     Served s 0 0x0D02 (· == 8) ∧ 0x200000 < arg s 0 0 4 + arg s 0 4 4) := by dsimp only; decide +kernel

theorem test_RegisterAccesses_applies :
    (nodeState hostUp ≠ nsBoot ∧ agentReaches hostUp 0 = true ∧ agentReaches hostUp 1 = true) ∧
    ((0x9018 : BitVec 24).toNat % 4 = 0 ∧ (regAccess (R.SFAULT 1)).isSome = true ∧ (regAccess (R.SFAULT 14)).isSome = true ∧
      R.SFAULT 14 % 4 = 0) ∧
    (regAccess 0x0FFC = none ∧ inMbx 0x0FFC = false ∧ inBank 0x0FFC = false) ∧
    (isF (setF hostUp F.FW_STAT_HOLD 1) F.FW_STAT_HOLD = true ∧ isF hostUp F.FW_STAT_HOLD ≠ true) ∧
    ((regAccess (R.LOG_DROP 5)).isSome = true ∧ inMbx (R.LOG_DROP 5) = false ∧ inBank (R.LOG_DROP 5) = false ∧
      ¬ (0x400 ≤ R.LOG_DROP 5 ∧ R.LOG_DROP 5 < 0xC00) ∧ ¬ (0x8000 ≤ R.LOG_DROP 5 ∧ R.LOG_DROP 5 < 0x8400 ∧ R.LOG_DROP 5 % 0x40 = 4)) ∧
    (hostReaches hostUp = true ∧ getF (setF hostUp F.TIME_STAT_SCTR_STATE timeTimed) F.TIME_STAT_SCTR_STATE ≠ timeUnset) := by
  decide +kernel

/-! ### The event recorder -/

/-- A record of severity `v` (R479). -/
def rec (v : Nat) : Rec := ⟨0, 5, 0, 0x0120, 0, v, false, false, 1, 5, 0⟩

/-- Records wait in the FIFO of a node whose log memory is in a state; 41 is the next sequence number. -/
def logging (st : Nat) (l : List Rec) : State :=
  let s := setR (setF running F.LOG_STAT_STATE st) R.LOG_SEQ_NEXT 41
  { s with log := { s.log with fifo := l } }

/-- The log RAM is full of records of severity 6. -/
def logFull (l : List Rec) : State :=
  { logging 0 l with log := { (logging 0 l).log with slots := (List.range 4096).map (fun i => (i, rec 6)) } }

/-- A rewrite of slot 4,095 is due. -/
def rewriting : State := { logging 0 [rec 2] with log := { (logging 0 [rec 2]).log with rewrites := [⟨false, 4095, rec 3, 0⟩] } }

/-- The drop summary is pending. -/
def summing : State := { logging 0 [] with log := { (logging 0 []).log with summary := some ⟨3, 1, 4, 7⟩ } }

/-- The event ring of 64 entries is enabled, `n` of them not yet read; record 40 in slot 9 waits to be copied again. -/
def recopying (n : Nat) : State :=
  let s := setR (setR (setR (setF (logging 0 []) (F.RING_CTL_EN 0) 1) (R.RING_SIZE 0) 64) (R.RING_TAIL 0) (BitVec.ofNat 32 n))
    (R.RING_BASE_LO 0) 0x10000
  { s with log := { s.log with slots := [(9, { rec 5 with seq := 40 })], recopy := [40] } }

theorem test_RecorderCommands_applies :
    rewriting.log.rewrites.find? (fun w => w.ahead == 0) = some ⟨false, 4095, rec 3, 0⟩ ∧
    ((logging 0 [rec 7]).log.fifo = rec 7 :: [] ∧ placeFor (logging 0 [rec 7]) 7 = some 0 ∧ logGaspSev (logging 0 [rec 7]) ≤ 7) ∧
    ((logging 1 [rec 7]).log.fifo = rec 7 :: [] ∧ (logging 1 [rec 0]).log.fifo = rec 0 :: [] ∧
      sevWarning ≤ 7 ∧ 0 < sevWarning) ∧
    (placeFor (logFull [rec 1]) 1 = none ∧ placeFor (logFull [rec 7]) 7 = some 0) ∧
    (summing.log.fifo = [] ∧ summing.log.summary = some ⟨3, 1, 4, 7⟩ ∧ placeFor summing sevWarning = some 0) ∧
    (let s := asked (logging 1 []) 0x0901 []
     Served s 0 0x0901 (· == 0) ∧ getF s F.LOG_STAT_STATE = 1) ∧
    (let s := asked (logging 2 []) 0x0901 []
     Served s 0 0x0901 (· == 0) ∧ getF s F.LOG_STAT_STATE = 2) ∧
    (let s := asked (logging 0 [rec 3]) 0x0902 []
     Served s 0 0x0902 (· == 0) ∧ getF s F.LOG_STAT_STATE = 0) ∧
    (let s := asked (logging 3 []) 0x0902 []
     Served s 0 0x0902 (· == 0) ∧ getF s F.LOG_STAT_STATE = 3) ∧
    (let s := asked (setF (logging 0 []) F.LOG_GASP_STAT_PINNED 1) 0x0903 []
     Served s 0 0x0903 (· == 0) ∧ getF s F.LOG_STAT_STATE ≠ 2 ∧ isF s F.LOG_GASP_STAT_PINNED = true) ∧
    (let s := waits { logging 2 [] with log := { (logging 2 []).log with repairChannel := some 0 } } 0x0901 []
     getF s F.LOG_STAT_STATE = 2 ∧ s.log.repairChannel = some 0 ∧ getF s (F.MB_STAT_STATE 0) = mbRunning) ∧
    ((recopying 63).log.recopy.contains 40 = true ∧ evtRoom (recopying 63) = true ∧ evtRoom (recopying 64) = false ∧
      (recopying 63).log.slots.find? (fun x => x.2.seq == 40) = some (9, { rec 5 with seq := 40 })) := by
  dsimp only; decide +kernel

/-! ### The two-wire interfaces -/

/-- Both controllers and the target are enabled; controller 1 serves its attentions in mode `attn` (R510). -/
def wired (attn : Nat) : State := sets (ons running [0x58, 0x59, 0x5A]) [(F.TWC_CFG_ATTN 0x59, attn), (F.TWC_CFG_RETRY 0x59, 1), (F.TWC_CFG_MULTI 0x59, 1)]

/-- A `TW_XFER` on controller 1: address 0x50, PEC, two bytes to write, one to read (R512). -/
def twPayload (a : Byte) : List Byte := [1, a, 1, 2, 1, 0, 0, 0, 0xAB, 0xCD]

/-- That transfer, started `n` times. -/
def xfer (n : Nat) : TwXfer := { twRequest (wired 0) (reqOf (asked (wired 0) 0x0A01 (twPayload 0x50)) 0) with attempts := n }

/-- It waits, or runs, on controller 1 while its channel waits. -/
def twState (cur : Option TwXfer) (queue : List TwXfer) : State :=
  let s := { waits (wired 1) 0x0A01 (twPayload 0x50) with sctr := 9600 }
  { s with tw := { s.tw with twc := s.tw.twc.set 1 { (twc s 1) with cur := cur, queue := queue } } }

theorem test_TwoWireCommands_applies :
    (let s := asked (wired 0) 0x0A01 (twPayload 0x50)
     Served s 0 0x0A01 (fun n => n == 8 + arg s 0 3 1 || (decide (32 < arg s 0 3 1) && decide (8 ≤ n))) ∧ twBadFormat (reqOf s 0).payload = false ∧
     arg s 0 0 1 = 1 ∧ fnOn s (twFn 1) = true ∧ twReserved s 1 0x50 = false ∧ twStuck s 1 = false) ∧
    (let s := asked (setR (wired 0) (R.TWC_CP_ADDR 0x59 2) 0x10000) 0x0A01 (twPayload 0x50)
     twReserved s 1 0x50 = true) ∧
    (let s := asked (setF (wired 0) (F.TWC_STAT_SDA_STUCK 1) 1) 0x0A01 (twPayload 0x50)
     twStuck s 1 = true ∧ twReserved s 1 0x50 = false) ∧
    twBadFormat (twPayload 0x78) = true ∧ twBadFormat (twPayload 0x77) = false ∧
    (let s := asked (wired 0) 0x0A02 [1]
     Served s 0 0x0A02 (· == 1) ∧ arg s 0 0 1 = 1 ∧ (twc s 1).cur.isSome = false) ∧
    (let s := asked (twState (some (xfer 1)) []) 0x0A02 [1]
     Served s 0 0x0A02 (· == 1) ∧ (twc s 1).cur.isSome = true) ∧
    (let s := asked (wired 0) 0x0A02 [2]
     Served s 0 0x0A02 (· == 1) ∧ 1 < arg s 0 0 1) ∧
    (twMayStart (twState none [xfer 0]) 1 = true ∧ (twc (twState none [xfer 0]) 1).queue = [xfer 0] ∧ (xfer 0).attempts = 0) ∧
    (twc (twState (some (xfer 1)) []) 1).cur = some (xfer 1) ∧
    (let s := setF (twState none [xfer 0]) (F.TWC_STAT_BUS_BUSY 1) 1
     (twc s 1).cur = none ∧ twBusy s 1 = true ∧ (xfer 0).at_ + 9600 ≤ s.sctr.toNat) ∧
    getF (wired 1) (F.TWC_CFG_ATTN (twFn 1)) ≠ 2 ∧
    twMayServe (wired 1) 1 1 = true ∧ twMayServe (wired 2) 1 2 = true ∧
    (let s := twState none []
     twMayServe s 1 1 = true ∧ (twc s 1).off = false ∧ (twc s 1).readAt + 96 ≤ s.sctr.toNat) ∧
    (0x08 ≤ (0xEF : Byte).toNat / 2 ∧ (0xEF : Byte).toNat / 2 ≤ 0x77 ∧ (0xEF : Byte).toNat % 2 = 1) ∧
    (fnOn (wired 0) 0x5A = true ∧ isF (setF (wired 0) F.TWT_STAT_ALERT 1) F.TWT_STAT_ALERT = true) := by dsimp only; decide +kernel

/-! ### Power, resets and the sp boundary -/

/-- A node in a state with groups enabled and with power-good, VDD_CORE commanded to 750 mV. -/
def power (st en pg : Nat) : State :=
  let s := sets (ons running [0x59, 0x60]) [(F.NODE_STAT_STATE, st), (F.PM_RAIL_STAT_EN, en), (F.PM_RAIL_STAT_PG, pg), (F.PM_VCORE_CMD_MV, 750),
    (F.PM_VCORE_AVS_ON, 1)]
  { s with sctr := 9600 }

/-- Straps that select the image of the SPI flash (R537). -/
def straps : Straps := ⟨1, false, 3⟩

/-- Rail 9 is outside its window (R525). -/
def railOff : State := setF (power 3 0x3F 0x3F) F.PM_RAIL_STAT_OUT 0x200

/-- A wake start whose SRAM holds a vendor's image (R535, R537). -/
def waking : State :=
  let s := sets (power nsBoot 0x3F 0x3F) [(F.PM_RESET_CAUSE_CAUSE, 5)]
  { s with pm := { s.pm with retained := some ⟨0x010203, 7, 0, 0, []⟩ } }

/-- Start-up from the host's image waits for `BOOT_CTL.GO` (R537). -/
def awaiting : State := power nsBoot 0x3F 0x3F

/-- Start-up from the SPI flash. -/
def flashing : State := setF (power nsBoot 0x3F 0x3F) F.NODE_STAT_BOOTSEL 1

/-- A Dormant node with every wake source armed: GPIO 7 high, or 60 s. -/
def asleep : State :=
  let s := power nsDormant 0x1A 0x1A
  { s with pm := { s.pm with armed := 15, wakeGpio := 7, wakeLevel := true, wakeTimer := 60 } }

theorem test_PowerAndResets_applies :
    nodeState (power nsOff 0 0) = nsOff ∧ faultedDown (setF (power nsFaulted 0 0) F.NODE_STAT_FAULT_CAUSE 2) = true ∧
    faultedDown (power 3 0x3F 0x3F) = false ∧
    (let s := asked (setF (power 3 0x3F 0x3F) F.PAIR_STAT_ROLE roleActive) 0x0B02 [0]
     Served s 0 0x0B02 (· == 1) ∧ resetRefused s (reqOf s 0).payload = true) ∧
    (let s := asked (setF (power 3 0x3F 0x3F) F.PAIR_STAT_ROLE roleActive) 0x0B02 [1]
     Served s 0 0x0B02 (· == 1) ∧ resetRefused s (reqOf s 0).payload = false) ∧
    (nodeState (power nsBoot 7 3) = nsBoot ∧ nextGroup (power nsBoot 7 3) = some (2 : Fin 6).val) ∧
    nextGroup (power nsBoot 0x3F 0x1F) = some (5 : Fin 6).val ∧
    (supervised (power 3 0x3F 0x3F) = true ∧ railFaulty (power 3 0x3F 0x3F) (.rail 9 2969) = true ∧
      railFaulty (power 3 0x3F 0x3F) (.rail 9 2970) = false ∧ railFaulty (power 3 0x3F 0x3F) (.pg 5 0) = true) ∧
    (railPowered (power 3 0x3F 0x3F) 9 = true ∧ railOut (power 3 0x3F 0x3F) 9 = false ∧ railInWindow (power 3 0x3F 0x3F) 9 3466 = false ∧
      railInWindow (power 3 0x3F 0x3F) 9 3465 = true) ∧
    (supervised railOff = true ∧ railPowered railOff 9 = true ∧ railOut railOff 9 = true ∧ railRested railOff 9 = true) ∧
    ((List.replicate 8 (460 : BitVec 12)).length = 8 ∧ (hottest (power 3 0x3F 0x3F) (List.replicate 8 460)).isSome = true) ∧
    (avsMay (setF (power 3 0x3F 0x3F) F.PM_VCORE_CMD_MV 740) (750 : BitVec 10).toNat = true ∧ avsMay (power 3 0x3F 0x3F) (745 : BitVec 10).toNat = true) ∧
    (bootLoading waking = true ∧ bootImage waking [] [] = some (⟨0x010203, 7, 0, 0, []⟩, false)) ∧
    bootWaits awaiting = true ∧ bootFails flashing [] [] = true ∧
    (let s := asked (sets (power 2 0x3F 0x3F) []) 0x0B01 [4, 0, 0, 0, 60, 0, 0, 0]
     Served s 0 0x0B01 (· == 8) ∧ dormantRefusal s (reqOf s 0).payload = none) ∧
    (let s := asked (power 3 0x3F 0x3F) 0x0B01 [4, 0, 0, 0, 60, 0, 0, 0]
     Served s 0 0x0B01 (· == 8) ∧ dormantRefusal s (reqOf s 0).payload = some 0x0B20) ∧
    Served (asked (power 3 0x3F 0x3F) 0x0B03 []) 0 0x0B03 (· == 0) ∧
    (wakeArmed asleep 1 = true ∧ (7 : Fin 8).val = asleep.pm.wakeGpio ∧ asleep.pm.wakeLevel = true) ∧
    (wakeArmed asleep 2 = true ∧ (60 : BitVec 32).toNat = asleep.pm.wakeTimer) ∧ wakeArmed asleep 3 = true ∧
    (clocksRun (power 3 0x3F 0x3F) = true ∧ isF (setF (power 3 0x3F 0x3F) F.HL_CTL_EXIMG_HOLD 1) F.HL_CTL_EXIMG_HOLD = true) ∧
    (groupsUp (power 3 0x3F 0x3F) = true ∧ nodeAlive (power 3 0x3F 0x3F) = true) := by dsimp only; decide +kernel

/-! ### Firmware, attestation, debug and sessions -/

/-- An image of 4 bytes of payload for key slot 0, its version 0x00010203 (R550). -/
def image : List Byte :=
  le 4 0x31574655 ++ le 2 256 ++ [0, 0] ++ le 4 0x00010203 ++ le 4 9 ++ [3, 0, 0, 0] ++ le 4 4 ++ le 2 0x2048 ++ [0xB1] ++ List.replicate 5 0 ++
    List.replicate 32 0 ++ List.replicate 64 0 ++ List.replicate 64 0 ++ List.replicate 64 0 ++ [1, 2, 3, 4]

/-- A running node with its firmware state, its channel 0 RUNNING. -/
def firmware (st : Nat) : State := setF (waits running 0x0C01 []) F.FW_STAT_STATE st

/-- It reads an image of 260 bytes from host memory. -/
def staging : State := { firmware 1 with sec := { (firmware 1).sec with stage := some ⟨0, 0x10000, 260, 0⟩ } }

/-- The running image asks for 5 fuses of which 3 are blown (R553). -/
def fusing (target : Nat) : State :=
  let s := setF { firmware 0 with sctr := 96 } F.SEC_STAT_ROLLBACK 3
  { s with sec := { s.sec with runRollback := 5, fuses := some ⟨target, 96, [0]⟩ } }

/-- A request of this kind at debug level 2 while an image of a slot runs, key A programmed or not (R562). -/
def otpNode (slot : Nat) (a : Option (List Byte)) : State :=
  let s := sets running [(F.SEC_STAT_DEBUG, 2), (F.SEC_STAT_RUN_SLOT, slot)]
  { s with sec := { s.sec with otp := { s.sec.otp with keyA := a } } }

/-- The payload of a debug token of key slot 0 for level 2: the serial number 0, a nonce of zeros and a signature of zeros. -/
def token : List Byte := [2, 0, 0, 0] ++ List.replicate 104 0

/-- That nonce is current; `n` tokens have failed since the level was set. -/
def challenged (n : Nat) : State :=
  let s := setF running F.SEC_STAT_DBG_FAILS n
  { s with sec := { s.sec with nonce := some (List.replicate 32 0), nonceFails := 2 } }

theorem test_FirmwareCommands_applies :
    (let s := asked (setF running F.FW_STAT_STATE 2) 0x0C01 ([0, 0, 0, 0] ++ le 4 1572864 ++ le 8 0x10000)
     Served s 0 0x0C01 (· == 16) ∧ fwState s ≠ 1 ∧ fwState s ≠ 3 ∧ arg s 0 4 4 ≤ 1572864 ∧ loadOverlaps s = false) ∧
    (let s := asked running 0x0C01 ([0, 0, 0, 0] ++ le 4 259 ++ le 8 0x10000)
     Served s 0 0x0C01 (· == 16) ∧ arg s 0 4 4 < 260) ∧
    (let s := asked { running with eng := { running.eng with load := some ⟨1, 2, 4, 0x200000 + 1572863, 0⟩ } } 0x0C01 ([0, 0, 0, 0] ++ le 4 260 ++ le 8 0)
     Served s 0 0x0C01 (· == 16) ∧ loadOverlaps s = true) ∧
    (let s := asked (setF running F.FW_STAT_STATE 3) 0x0C01 (List.replicate 16 0)
     Served s 0 0x0C01 (· == 16) ∧ fwState s = 3) ∧
    (staging.sec.stage = some ⟨0, 0x10000, 260, 0⟩ ∧ fwState staging = 1 ∧ cpIsRunning staging = true ∧ image.length = 260 ∧
      imageFormatOk image = true ∧ imageFormatOk (image.set 7 1) = false ∧ (image.set 7 1).length = 260) ∧
    Served (asked (setF running F.FW_STAT_STATE 2) 0x0C02 []) 0 0x0C02 (· == 0) ∧
    (fwState (firmware 3) = 3 ∧ cpIsRunning (firmware 3) = true ∧ verifyImage (firmware 3) (stagedImage (firmware 3)) = some (0x0C20, 0)) ∧
    (let s := asked (setF running F.FW_STAT_STATE 4) 0x0C03 []
     Served s 0 0x0C03 (· == 0) ∧ fwState s = 4 ∧ engineWork s = false ∧ s.sec.activating = false) ∧
    Served (asked (setF running F.FW_STAT_STATE 4) 0x0C04 []) 0 0x0C04 (· == 0) ∧
    (let s := asked (fusing 4) 0x0C05 []
     Served s 0 0x0C05 (· == 0) ∧ getF s F.SEC_STAT_ROLLBACK < s.sec.runRollback ∧ s.sec.fuses = some ⟨4, 96, [0]⟩) ∧
    ((fusing 4).sec.fuses = some ⟨4, 96, [0]⟩ ∧ 96 ≤ (fusing 4).sctr.toNat ∧ 4 ≤ getF (fuseStep (fusing 4)) F.SEC_STAT_ROLLBACK ∧
      getF (fuseStep (fusing 5)) F.SEC_STAT_ROLLBACK < 5) ∧
    autoDue { (setF (fusing 5) F.SEC_CFG_COMMIT_AUTO 1) with
      sctr := 5760000, sec := { (fusing 5).sec with autoPending := true, autoAt := 0, fuses := none } } = true ∧
    Served (asked running 0x0C06 (List.replicate 32 7)) 0 0x0C06 (· == 32) ∧
    Served (asked running 0x0C07 [2, 0, 0, 0]) 0 0x0C07 (· == 4) ∧ Served (asked running 0x0C08 []) 0 0x0C08 (· == 0) ∧
    (let s := asked (challenged 15) 0x0C09 (token.set 4 1)
     Served s 0 0x0C09 (fun n => n == 108 || n == 172) ∧ getF s F.SEC_STAT_DBG_FAILS < 16 ∧ tokenOk s (reqOf s 0).payload = false ∧
     2 ≤ s.sec.nonceFails) ∧
    (let s := asked (challenged 16) 0x0C09 token
     Served s 0 0x0C09 (fun n => n == 108 || n == 172) ∧ 16 ≤ getF s F.SEC_STAT_DBG_FAILS) ∧
    Served (asked (otpNode 0 none) 0x0C0A []) 0 0x0C0A (· == 0) ∧
    (let s := asked (otpNode 0 none) 0x0C0B ([1, 0, 0, 0] ++ List.replicate 32 9)
     Served s 0 0x0C0B (· == 36) ∧ debugTwo s = true ∧ arg s 0 0 1 = 1 ∧ s.sec.otp.keyA = none) ∧
    (let s := asked (otpNode 0 (some [9])) 0x0C0B ([1, 0, 0, 0] ++ List.replicate 32 9)
     Served s 0 0x0C0B (· == 36) ∧ arg s 0 0 1 = 1 ∧ s.sec.otp.keyA ≠ none) ∧
    (let s := asked (otpNode 1 (some [9])) 0x0C0C [2]
     Served s 0 0x0C0C (· == 1) ∧ debugTwo s = true ∧ getF s F.SEC_STAT_RUN_SLOT ≠ arg s 0 0 1) ∧
    (let s := asked (otpNode 1 (some [9])) 0x0C0C [1]
     Served s 0 0x0C0C (· == 1) ∧ getF s F.SEC_STAT_RUN_SLOT = arg s 0 0 1) ∧
    (let s := asked (otpNode 1 (some [9])) 0x0C0D []
     Served s 0 0x0C0D (· == 0) ∧ debugTwo s = true ∧ ¬ (getF s F.SEC_STAT_RUN_SLOT = 0 ∨ (slotKey s 1 = none ∧ slotKey s 2 = none))) ∧
    (let s := asked (otpNode 0 none) 0x0C0D []
     Served s 0 0x0C0D (· == 0) ∧ getF s F.SEC_STAT_RUN_SLOT = 0) := by dsimp only; decide +kernel

/-- Where the vendor's key verifies the token, the token unlocks (the curve is an opaque function of the model). -/
theorem test_FirmwareCommands_token_applies
    (h : Config.ecdsaVerify Config.vendorKey (Config.sha256 (token.take 44)) ((token.drop 44).take 64) = true) :
    tokenOk (challenged 0) token = true := by
  have hv : isF (challenged 0) F.SEC_STAT_VENDOR_OFF = false := by decide +kernel
  have hk : leAt token 1 1 = 0 := by decide +kernel
  have hs : (leAt token 4 8 == serial (challenged 0) && (challenged 0).sec.nonce == some ((token.drop 12).take 32) && token.length == 108) = true := by
    decide +kernel
  simp only [tokenOk, hk, if_true, hs, keyChecks, hv, Bool.false_eq_true, if_false, h, Option.isNone_none, Bool.and_self]

/-- A node of the pair without a session key, its side of the handshake in a state; `idx` 0 begins (R558). -/
def shaking (idx hs : Nat) (hello reply : List Byte) : State :=
  let s := setF (pairNode roleStandby 96000) F.PAIR_CFG_NODE_IDX idx
  { s with pair := { s.pair with ses := { Session.reset with hs := hs, hello := hello, reply := reply, id := 5 } } }

/-- A handshake message in one frame, without a TAG: no session is open (R557). -/
def shake (subtype : Nat) (pay : List Byte) : HsFrames :=
  .pair [{ linkFrame subtype 96000 pay with tag := List.replicate 8 0 }]

/-- HELLO or REPLY with a certificate of two bytes. -/
def hsMsg : List Byte := List.replicate 96 7 ++ le 2 2 ++ [1, 2] ++ List.replicate 64 3

theorem test_SessionHandshakes_applies :
    (linkOn (shaking 0 0 [] []) .pair = true ∧ begins (shaking 0 0 [] []) .pair = true ∧ hsIdle (shaking 0 0 [] []) .pair = true ∧
      (sesOf (shaking 0 0 [] []) .pair).key = none) ∧
    (begins (shaking 1 0 hsMsg []) .pair = false ∧ (sesOf (shaking 1 0 hsMsg []) .pair).hs = 0 ∧
      98 ≤ (sesOf (shaking 1 0 hsMsg []) .pair).hello.length) ∧
    ((sesOf (shaking 0 1 hsMsg hsMsg) .pair).reply ≠ [] ∧
      (shaking 0 1 hsMsg hsMsg).sctr.toNat + 96 ≤ extendSctr (shaking 0 1 hsMsg hsMsg) (96096 : BitVec 32).toNat) ∧
    ((sesOf (shaking 1 3 hsMsg hsMsg) .pair).hs = 3 ∧ begins (shaking 1 3 hsMsg hsMsg) .pair = false) ∧
    (hsTake (shaking 1 0 [] []) .pair 0x10 (.omzor [])).2 = none ∧
    ((hsTake (shaking 1 0 [] []) .pair 0x10 (shake 0x10 hsMsg)).2 = some hsMsg ∧
      (let u := (hsTake (shaking 1 0 [] []) .pair 0x10 (shake 0x10 hsMsg)).1
       linkOn u .pair = true ∧ begins u .pair = false ∧ (sesOf u .pair).hs = 0)) ∧
    ((hsTake (shaking 0 1 hsMsg []) .pair 0x11 (shake 0x11 hsMsg)).2 = some hsMsg ∧
      (let u := (hsTake (shaking 0 1 hsMsg []) .pair 0x11 (shake 0x11 hsMsg)).1
       linkOn u .pair = true ∧ (sesOf u .pair).hs = 1 ∧ (sesOf u .pair).reply = [])) ∧
    ((hsTake (shaking 1 2 hsMsg hsMsg) .pair 0x12 (shake 0x12 (List.replicate 72 7))).2 = some (List.replicate 72 7) ∧
      (let u := (hsTake (shaking 1 2 hsMsg hsMsg) .pair 0x12 (shake 0x12 (List.replicate 72 7))).1
       linkOn u .pair = true ∧ (sesOf u .pair).hs = 2)) ∧
    ((hsTake (shaking 0 3 hsMsg hsMsg) .pair 0x13 (shake 0x13 (le 4 5))).2 = some (le 4 5) ∧
      (let u := (hsTake (shaking 0 3 hsMsg hsMsg) .pair 0x13 (shake 0x13 (le 4 5))).1
       linkOn u .pair = true ∧ (sesOf u .pair).hs = 3 ∧ begins u .pair = true ∧ leAt (le 4 5) 0 4 = (sesOf u .pair).id.toNat)) ∧
    hsOver (shaking 0 1 hsMsg []) .pair = true ∧
    rekeyDue { pairNode roleStandby 9 with pair := { (pairNode roleStandby 9).pair with
      ses := { Session.reset with key := some [0x4B], txSeq := [(1, 2 ^ 31)] } } } = true := by dsimp only; decide +kernel

/-- A REPLY whose certificate chains is of a trusted peer: a pair link asks for no serial number (R558). -/
theorem test_SessionHandshakes_reply_applies (h : Config.certChains (hsCert hsMsg) = true) :
    certFault (hsTake (shaking 0 1 hsMsg []) .pair 0x11 (shake 0x11 hsMsg)).1 .pair (hsCert hsMsg) = none := by
  simp only [certFault, h, Bool.not_true, Bool.false_eq_true, if_false, wantSerial]

end Sys2Proof.Tests
end

section
/-! PROOFS. What reports and mailbox answers keep: the mailbox areas, the units, and every register outside their own. -/

namespace Sys2Proof.Machine

/-! ### Events and the mailbox areas -/

@[simp] theorem refreshFaults_cp (s : State) : (refreshFaults s).cp = s.cp := by
  unfold refreshFaults
  simp only [apply_ite State.cp, raiseIrq_cp, setF_cp, setR_cp, ite_self]

@[simp] theorem setFault_cp (s : State) (c b : Nat) : (setFault s c b).cp = s.cp := by
  simp [setFault, setFaults]

@[simp] theorem countDrop_cp (s : State) (v : Nat) : (countDrop s v).cp = s.cp := by
  simp [countDrop]

@[simp] theorem refreshFifo_cp (s : State) : (refreshFifo s).cp = s.cp := rfl

@[simp] theorem enqueue_cp (s : State) (e : Rec) : (enqueue s e).cp = s.cp := by
  unfold enqueue
  split
  · rfl
  · dsimp only
    split
    · split <;> simp
    · exact countDrop_cp _ _

@[simp] theorem offer_cp (s : State) (e : Rec) : (offer s e).cp = s.cp := by
  unfold offer
  split
  · rfl
  · split
    · rfl
    · split
      · rfl
      · exact enqueue_cp _ _

/-- An event leaves the CP and the mailbox areas. -/
@[simp] theorem logEv_cp (s : State) (code source sev : Nat) (args : List Byte) :
    (logEv s code source sev args).cp = s.cp := offer_cp _ _

/-! ### Units -/

theorem Reported.audioKept {s t : State} (h : Reported s t) : AudioKept s t :=
  ⟨h.dsp, h.eng, h.net, h.sap, h.conv, h.paired, h.psc⟩

theorem Reported.controlKept {s t : State} (h : Reported s t) : ControlKept s t :=
  ⟨h.clock, h.sec, h.pm, h.pair, h.wit, h.rs, h.tw⟩

theorem Reported.foldl {α : Type} {g : State → α → State} (hg : ∀ s x, Reported s (g s x)) (l : List α) (s : State) :
    Reported s (l.foldl g s) := by
  induction l generalizing s with
  | nil => exact .refl s
  | cons x l ih => exact (hg s x).trans (ih (g s x))

/-! ### Registers -/

theorem RegsKept.trans {s t u : State} {own : Nat → Bool} (h : RegsKept s t own) (k : RegsKept t u own) :
    RegsKept s u own := fun o hr ho => (k o hr ho).trans (h o hr ho)

theorem accept_regsKept (s : State) (c : Nat) : RegsKept s (accept s c) (channelReg c) :=
  fun o _ hc => getR_accept s c o hc

theorem finish_regsKept (s : State) (c : Nat) (r : Reply) (hw : Bool) : RegsKept s (finish s c r hw) (channelReg c) :=
  fun o hr hc => getR_finish s c r hw o hr hc

theorem logEv_regsKept (s : State) (code source sev : Nat) (args : List Byte) (own : Nat → Bool) (h : sev < 8) :
    RegsKept s (logEv s code source sev args) own :=
  fun o hr _ => getR_logEv s code source sev args o h hr

/-! ### Answers -/

/-- A served command's reply stands in the response area of its channel, under the tag of the request (R415). -/
theorem finish_answered {s u : State} {c : Nat} (r : Reply) (hw : Bool) (hmb : s.cp.mbx = u.cp.mbx) (h : c < 8) :
    Answered (finish u c r hw) c r.status r.code (reqOf s c).tag r.detail r.payload := by
  rw [reqOf_congr hmb]
  exact finishWith_answered _ _ _ _ _ _ _ h

end Sys2Proof.Machine
end

section
/-! PROOFS. Clearing press faults (R90, R93, R94): what it does to the presses of a mask, and what it leaves the others. -/

namespace Sys2Proof.Machine

/-- The registers that hold the fault state and the captures of press `p` (R90, R91). -/
def pressFaultRegs (p : Nat) : List Nat := [R.PRESS_STAT p, R.MISM_INFO p, R.ECC_UNC_INFO p]

theorem mem_pressFaultRegs {p o : Nat} :
    o ∈ pressFaultRegs p ↔ o = 0x5000 + 0x40 * p ∨ o = 0x5014 + 0x40 * p ∨ o = 0x5024 + 0x40 * p := by
  simp [pressFaultRegs, R.PRESS_STAT, R.MISM_INFO, R.ECC_UNC_INFO]

/-- The fault state and the captures of press `p` are as they were. -/
def PressFaultKept (s t : State) (p : Nat) : Prop := ∀ o ∈ pressFaultRegs p, getR t o = getR s o

/-- Press `p` shows no fault and holds no capture (R90). -/
def PressFaultFree (t : State) (p : Nat) : Prop :=
  isF t (F.PRESS_STAT_FAULTED p) = false ∧ isF t (F.PRESS_STAT_MISMATCH p) = false ∧
  isF t (F.PRESS_STAT_ECC_UNC p) = false ∧ isF t (F.PRESS_STAT_MUTED p) = false ∧
  getR t (R.MISM_INFO p) = 0 ∧ getR t (R.ECC_UNC_INFO p) = 0

theorem PressFaultKept.refl (s : State) (p : Nat) : PressFaultKept s s p := fun _ _ => rfl

theorem PressFaultKept.trans {s t u : State} {p : Nat} (h : PressFaultKept s t p) (k : PressFaultKept t u p) :
    PressFaultKept s u p := fun o ho => (k o ho).trans (h o ho)

theorem PressFaultKept.stat {s t : State} {p : Nat} (h : PressFaultKept s t p) :
    getR t (R.PRESS_STAT p) = getR s (R.PRESS_STAT p) := h _ (by simp [pressFaultRegs])

theorem PressFaultKept.mism {s t : State} {p : Nat} (h : PressFaultKept s t p) :
    getR t (R.MISM_INFO p) = getR s (R.MISM_INFO p) := h _ (by simp [pressFaultRegs])

theorem PressFaultKept.eccUnc {s t : State} {p : Nat} (h : PressFaultKept s t p) :
    getR t (R.ECC_UNC_INFO p) = getR s (R.ECC_UNC_INFO p) := h _ (by simp [pressFaultRegs])

/-- A press that shows no fault shows none while its registers are kept. -/
theorem PressFaultFree.of_kept {s t : State} {p : Nat} (k : PressFaultKept s t p) (h : PressFaultFree s p) :
    PressFaultFree t p := by
  have hf : ∀ lo w, isF t ⟨R.PRESS_STAT p, lo, w⟩ = isF s ⟨R.PRESS_STAT p, lo, w⟩ := fun lo w => by
    simp only [isF, getF, k.stat]
  obtain ⟨hfaulted, hmismatch, hecc, hmuted, hmism, hunc⟩ := h
  exact ⟨(hf _ _).trans hfaulted, (hf _ _).trans hmismatch, (hf _ _).trans hecc, (hf _ _).trans hmuted,
    k.mism.trans hmism, k.eccUnc.trans hunc⟩

/-- Reports and the registers of a mailbox channel lie apart from those of a press. -/
theorem RegsKept.pressFaultKept {s t : State} {c p : Nat} (h : RegsKept s t (channelReg c)) (hc : c < 8) (hp : p < 4) :
    PressFaultKept s t p := by
  intro o ho
  rw [mem_pressFaultRegs] at ho
  refine h o ?_ ?_
  · simp [reports, R.IRQ_STATUS, R.MSIX_PBA, R.LOG_STAT, R.LOG_MERGES, R.TWT_STAT]
    omega
  · have hout : ¬ o < R.MB_STAT c + 28 := by simp only [R.MB_STAT]; omega
    simp [channelReg, hout]

/-! ### One press -/

theorem clearPress_reported (s : State) (p : Nat) : Reported s (clearPress s p) :=
  (((((setF_reported _ _ _).trans (setF_reported _ _ _)).trans (setF_reported _ _ _)).trans (setF_reported _ _ _)).trans
    (setR_reported _ _ _)).trans (setR_reported _ _ _)

theorem clearPress_cp (s : State) (p : Nat) : (clearPress s p).cp = s.cp := by
  simp only [clearPress, setR_cp, setF_cp]

/-- `PRESS_STAT` after a clearing: the four fault bits written 0, one after the other. -/
theorem getR_clearPress_stat (s : State) (p : Nat) :
    getR (clearPress s p) (R.PRESS_STAT p) = fldSet (fldSet (fldSet (fldSet (getR s (R.PRESS_STAT p))
      (F.PRESS_STAT_FAULTED p) 0) (F.PRESS_STAT_MISMATCH p) 0) (F.PRESS_STAT_ECC_UNC p) 0) (F.PRESS_STAT_MUTED p) 0 := by
  have hmism : R.MISM_INFO p ≠ R.PRESS_STAT p := by simp only [R.MISM_INFO, R.PRESS_STAT]; omega
  have hunc : R.ECC_UNC_INFO p ≠ R.PRESS_STAT p := by simp only [R.ECC_UNC_INFO, R.PRESS_STAT]; omega
  simp [clearPress, setF, F.PRESS_STAT_FAULTED, F.PRESS_STAT_MISMATCH, F.PRESS_STAT_ECC_UNC, F.PRESS_STAT_MUTED,
    hmism, hunc]

theorem clearPress_faultFree (s : State) (p : Nat) : PressFaultFree (clearPress s p) p := by
  have hcap : R.ECC_UNC_INFO p ≠ R.MISM_INFO p := by simp only [R.ECC_UNC_INFO, R.MISM_INFO]; omega
  refine ⟨?faulted, ?mismatch, ?eccUnc, ?muted, by simp [clearPress, hcap], by simp [clearPress]⟩
  all_goals
    simp [isF, getF, F.PRESS_STAT_FAULTED, F.PRESS_STAT_MISMATCH, F.PRESS_STAT_ECC_UNC, F.PRESS_STAT_MUTED,
      getR_clearPress_stat, fldGet_fldSet, fldGet_fldSet_other]

/-- Clearing a press leaves every register of another press. -/
theorem clearPress_kept_other (s : State) {p q : Nat} (h : q ≠ p) : PressFaultKept s (clearPress s q) p := by
  intro o ho
  rw [mem_pressFaultRegs] at ho
  have hstat : R.PRESS_STAT q ≠ o := by simp only [R.PRESS_STAT]; omega
  have hmism : R.MISM_INFO q ≠ o := by simp only [R.MISM_INFO]; omega
  have hunc : R.ECC_UNC_INFO q ≠ o := by simp only [R.ECC_UNC_INFO]; omega
  unfold clearPress
  rw [getR_setR_other _ _ _ _ hunc, getR_setR_other _ _ _ _ hmism, getR_setF_other _ _ _ _ hstat,
    getR_setF_other _ _ _ _ hstat, getR_setF_other _ _ _ _ hstat, getR_setF_other _ _ _ _ hstat]

/-! ### The presses of a mask -/

/-- Clear the presses of mask `m` among those listed, in the order of the list: the loop of `execPressFaultClear`. -/
def clearPresses (m : Nat) (l : List Nat) (s : State) : State :=
  l.foldl (fun s p => if m / 2 ^ p % 2 = 1 then clearPress s p else s) s

theorem clearPresses_cons (m p : Nat) (l : List Nat) (s : State) :
    clearPresses m (p :: l) s = clearPresses m l (if m / 2 ^ p % 2 = 1 then clearPress s p else s) := rfl

theorem clearPresses_reported (m : Nat) (l : List Nat) (s : State) : Reported s (clearPresses m l s) :=
  .foldl (fun s p => .ite (clearPress_reported s p) (.refl s)) l s

theorem clearPresses_cp (m : Nat) (l : List Nat) (s : State) : (clearPresses m l s).cp = s.cp := by
  induction l generalizing s with
  | nil => rfl
  | cons p l ih =>
    rw [clearPresses_cons, ih]
    split
    · exact clearPress_cp s p
    · rfl

/-- A press outside the mask keeps its fault state. -/
theorem clearPresses_kept_unselected {m p : Nat} (hm : m / 2 ^ p % 2 = 0) (l : List Nat) (s : State) :
    PressFaultKept s (clearPresses m l s) p := by
  induction l generalizing s with
  | nil => exact .refl s p
  | cons q l ih =>
    rw [clearPresses_cons]
    refine .trans ?_ (ih _)
    split
    · rename_i hq
      exact clearPress_kept_other s (by rintro rfl; omega)
    · exact .refl s p

/-- Clearing any press makes or keeps a press free of faults. -/
theorem clearPress_keeps_faultFree {s : State} {p : Nat} (q : Nat) (h : PressFaultFree s p) :
    PressFaultFree (clearPress s q) p := by
  by_cases hq : q = p
  · exact hq ▸ clearPress_faultFree s q
  · exact h.of_kept (clearPress_kept_other s hq)

theorem clearPresses_keeps_faultFree {s : State} {p : Nat} (m : Nat) (l : List Nat) (h : PressFaultFree s p) :
    PressFaultFree (clearPresses m l s) p := by
  induction l generalizing s with
  | nil => exact h
  | cons q l ih =>
    rw [clearPresses_cons]
    split
    · exact ih (clearPress_keeps_faultFree q h)
    · exact ih h

/-- A listed press of the mask comes out free of faults. -/
theorem clearPresses_faultFree {m p : Nat} (hm : m / 2 ^ p % 2 = 1) {l : List Nat} (hl : p ∈ l) (s : State) :
    PressFaultFree (clearPresses m l s) p := by
  induction l generalizing s with
  | nil => cases hl
  | cons q l ih =>
    rw [clearPresses_cons]
    rcases List.mem_cons.mp hl with rfl | hl
    · rw [if_pos hm]
      exact clearPresses_keeps_faultFree m l (clearPress_faultFree s p)
    · exact ih hl _

/-! ### The command -/

/-- The state in which a mask that is accepted is answered: its presses cleared, `PRESS_FAULT_CLEARED` logged (R95). -/
def pressFaultCleared (s : State) (c m : Nat) : State :=
  logEv (clearPresses m (List.range 4) (accept s c)) 0x06E7 0x40 sevInfo (le 1 m)

/-- R94: a mask that is zero or has a bit in [7:4] is refused at once. -/
theorem exec_pressFaultClear_refused {s : State} {c : Fin 8} (hs : Served s c 0x06F0 (· == 1))
    (hm : arg s c 0 1 = 0 ∨ 16 ≤ arg s c 0 1) :
    exec (.pressFaultClear c) s = .next (finish (accept s c) c (.refused 0x06F8 0) false) := by
  obtain ⟨ht, hh⟩ := hs
  unfold arg at hm
  change execPressFaultClear c s = _
  unfold execPressFaultClear
  rw [serve_replies _ _ _ _ _ ht hh (by simp [hm])]
  simp [hm]

/-- R93: a mask of presses is cleared and answered OK, whatever the role and apply-at. -/
theorem exec_pressFaultClear_ok {s : State} {c : Fin 8} (hs : Served s c 0x06F0 (· == 1))
    (hm : ¬ (arg s c 0 1 = 0 ∨ 16 ≤ arg s c 0 1)) :
    exec (.pressFaultClear c) s = .next (finish (pressFaultCleared s c (arg s c 0 1)) c (.ok []) false) := by
  obtain ⟨ht, hh⟩ := hs
  unfold arg at hm
  change execPressFaultClear c s = _
  unfold execPressFaultClear
  rw [serve_replies _ _ _ _ _ ht hh (by simp [hm])]
  simp only [hm, if_false]
  rfl

theorem pressFaultCleared_reported (s : State) (c m : Nat) : Reported s (pressFaultCleared s c m) :=
  ((accept_reported s c).trans (clearPresses_reported m _ _)).trans (logEv_reported _ _ _ _ _)

/-- Nothing that follows the clearing touches the fault state of a press. -/
theorem finish_pressFaultCleared_kept (s : State) (c m : Nat) (r : Reply) {p : Nat} (hc : c < 8) (hp : p < 4) :
    PressFaultKept (clearPresses m (List.range 4) (accept s c)) (finish (pressFaultCleared s c m) c r false) p :=
  ((logEv_regsKept _ _ _ _ _ _ (by decide)).trans (finish_regsKept _ _ _ _)).pressFaultKept hc hp

/-- Settles O52: a refused mask touches its channel alone; an accepted one clears its presses in turn, and neither the clearing of
another press nor the report and the answer that follow reach the registers of a press. -/
theorem pressFaultClear : Obligations.PressFaultClear := by
  unfold Obligations.PressFaultClear
  intro s c p hs
  dsimp only
  by_cases hm : arg s c 0 1 = 0 ∨ 16 ≤ arg s c 0 1
  · have hrep : Reported s (finish (accept s c) c (.refused 0x06F8 0) false) :=
      (accept_reported s c).trans (finish_reported _ _ _ _)
    refine ⟨_, exec_pressFaultClear_refused hs hm, hrep.audioKept, hrep.controlKept, fun _ => ⟨⟨0, ?_⟩, ?_⟩,
      fun h0 h16 => by omega⟩
    · exact finish_answered (s := s) _ _ rfl c.isLt
    · exact (accept_regsKept s c).trans (finish_regsKept _ _ _ _)
  · have hrep : Reported s (finish (pressFaultCleared s c (arg s c 0 1)) c (.ok []) false) :=
      (pressFaultCleared_reported s c _).trans (finish_reported _ _ _ _)
    have hafter := finish_pressFaultCleared_kept s c (arg s c 0 1) (.ok []) c.isLt p.isLt
    refine ⟨_, exec_pressFaultClear_ok hs hm, hrep.audioKept, hrep.controlKept, fun h => absurd h hm,
      fun _ _ => ⟨?_, fun hsel => ?_, fun hsel => ?_⟩⟩
    · exact finish_answered (s := s) _ _ (by simp [pressFaultCleared, clearPresses_cp, accept]) c.isLt
    · exact (clearPresses_faultFree hsel (by simp) _).of_kept hafter
    · have hkept : PressFaultKept s _ p :=
        (((accept_regsKept s c).pressFaultKept c.isLt p.isLt).trans (clearPresses_kept_unselected hsel _ _)).trans hafter
      exact ⟨hkept.stat, hkept.mism⟩

end Sys2Proof.Machine
end

section
/-! PROOFS. A press issues an instruction (R68, R73 to R75, R96): what the results that become visible, the queueing of new results in
the lanes, and the checks after the effect do to the press and to the registers. -/

namespace Sys2Proof.Machine

/-! ### Presses -/

@[simp] theorem press_setPress (s : State) (x : Press) {p : Nat} (hp : p < 4) : press (setPress s p x) p = x := by
  simp [press, setPress, Vector.getD, hp]

theorem Reported.press {s t : State} (h : Reported s t) (p : Nat) : press t p = press s p := by
  unfold Machine.press
  rw [h.dsp]

/-- A compute lane's flag register shows no event, no sticky fault and no upset (R88, R91). -/
theorem flagReg_apart (p : Fin 4) (f : LFlag) : reports (f.reg p) = false ∧ upsetReg p (f.reg p) = false := by
  cases f <;> revert p <;> decide

/-! ### Results that become visible (R69) -/

/-- Fresh check bits of a word leave the codes of another memory. -/
theorem markOf_unmark_other (x : Press) (k i : Nat) {m n : Nat} (h : m ≠ n) : markOf (unmark x m k) n i = markOf x n i := by
  unfold markOf unmark
  rw [List.find?_filter]
  congr 2
  funext e
  by_cases he : e.1 = n
  · simp [he, Ne.symm h, beq_eq_decide]
  · simp [he]

/-- What a press fetches by, and its check lanes' flags, are the same in `y` as in `x`. -/
structure FetchKept (x y : Press) : Prop where
  slot : y.slot = x.slot
  prog : y.prog = x.prog
  checkFlags : y.checkFlags = x.checkFlags
  code : ∀ k, markOf y 2 k = markOf x 2 k

theorem applyWr_fetchKept (x : Press) (w : Wr) : FetchKept x (applyWr x w) := by
  cases w with
  | st l a w => exact ⟨rfl, rfl, rfl, fun k => markOf_unmark_other _ _ _ (by decide)⟩
  | _ => exact ⟨rfl, rfl, rfl, fun _ => rfl⟩

theorem commitPend_fetchKept (x : Press) (t : Nat) : FetchKept x (commitPend x t) := by
  have hall : ∀ (l : List (Nat × Wr)) (y : Press), FetchKept x y → FetchKept x (l.foldl (fun y e => applyWr y e.2) y) := by
    intro l
    induction l with
    | nil => exact fun _ h => h
    | cons e l ih =>
      intro y h
      have hw := applyWr_fetchKept y e.2
      exact ih _ ⟨hw.slot.trans h.slot, hw.prog.trans h.prog, hw.checkFlags.trans h.checkFlags,
        fun k => (hw.code k).trans (h.code k)⟩
  exact hall _ _ ⟨rfl, rfl, rfl, fun _ => rfl⟩

theorem readyPress_regs (s : State) (p : Nat) : (readyPress s p).regs = s.regs := rfl

theorem readyPress_fetchKept (s : State) {p : Nat} (hp : p < 4) : FetchKept (press s p) (press (readyPress s p) p) := by
  have h := commitPend_fetchKept (press s p) (press s p).slot
  unfold readyPress
  rw [press_setPress _ _ hp]
  exact ⟨h.slot, h.prog, h.checkFlags, h.code⟩

/-! ### The word fetched (R130) -/

theorem areaWords_readyPress (s : State) (b a : Nat) {p : Nat} (hp : p < 4) :
    areaWords (readyPress s p) b p a = areaWords s b p a := by
  unfold areaWords
  rw [(readyPress_fetchKept s hp).prog]
  rfl

theorem fetchAt_readyPress (s : State) (b a n k : Nat) {p : Nat} (hp : p < 4) :
    fetchAt (readyPress s p) b p a n k = fetchAt s b p a n k := by
  unfold fetchAt
  rw [areaWords_readyPress s b a hp]

theorem fetchRoutine_readyPress (s : State) (b t : Nat) {p : Nat} (hp : p < 4) :
    fetchRoutine (readyPress s p) b p t = fetchRoutine s b p t := by
  unfold fetchRoutine
  simp only [fetchAt_readyPress s b _ _ _ hp]
  rfl

/-- The results that become visible in a slot do not change what the press fetches there. -/
theorem fetch_readyPress (s : State) {p : Nat} (hp : p < 4) : fetch (readyPress s p) p = fetch s p := by
  unfold fetch
  simp only [(readyPress_fetchKept s hp).slot, fetchAt_readyPress s _ _ _ _ hp, fetchRoutine_readyPress s _ _ hp]
  rfl

/-! ### Issue -/

/-- An instruction that can issue, struck by no upset, acts on the press made ready for its slot, and then its reads and its check
lanes are checked. -/
theorem issue_of_issues {s : State} {i : Instr} {h : Issue} (hi : Issues s i h) (f : State → Nat → Word → State) :
    issue i h s f =
      retire (f (readyPress s h.p.val) (press s h.p.val).slot (effMask (readyPress s h.p.val) h)) h := by
  obtain ⟨⟨w, hw, hcan⟩, hclean, hup⟩ := hi
  have hready : ready s h = readyPress s h.p.val := by simp [ready, hup, readyPress]
  have hcode : ∀ k, (fetch s h.p.val).key = some k → markOf (press (readyPress s h.p.val) h.p.val) 2 k = none :=
    fun k hk => ((readyPress_fetchKept s h.p.isLt).code k).trans (hclean k hk)
  have hgood : badFetch (readyPress s h.p.val) h.p.val = false := by
    unfold badFetch
    rw [fetch_readyPress s h.p.isLt]
    split
    · rename_i k hk
      simp [hcode k hk]
    · rfl
  have hcheck : ∀ t, checkFetch (readyPress s h.p.val) h.p.val t = readyPress s h.p.val := by
    intro t
    unfold checkFetch
    rw [fetch_readyPress s h.p.isLt]
    split
    · rename_i k hk
      simp [eccCheck, hcode k hk]
    · rfl
  simp [issue, hw, hcan, hready, hgood, hcheck]

/-! ### New results in the lanes (R69) -/

/-- From `s` to `t` results of press `p` were queued: its lanes, its flags and the registers stay, and what waited still waits. -/
structure Queued (p : Nat) (s t : State) : Prop where
  regs : t.regs = s.regs
  lanes : (press t p).lanes = (press s p).lanes
  checkFlags : (press t p).checkFlags = (press s p).checkFlags
  pend : ∀ e ∈ (press s p).pend, e ∈ (press t p).pend

theorem Queued.refl (p : Nat) (s : State) : Queued p s s := ⟨rfl, rfl, rfl, fun _ h => h⟩

theorem Queued.trans {p : Nat} {s t u : State} (h : Queued p s t) (k : Queued p t u) : Queued p s u :=
  ⟨k.regs.trans h.regs, k.lanes.trans h.lanes, k.checkFlags.trans h.checkFlags, fun e he => k.pend e (h.pend e he)⟩

theorem Queued.laneNo {p : Nat} {s t : State} (h : Queued p s t) (j : Nat) : laneNo t p j = laneNo s p j := by
  simp only [Machine.laneNo, getF_congr h.regs]

theorem Queued.vreg {p : Nat} {s t : State} (h : Queued p s t) (j : Nat) (r : Fin 16) : vreg t p j r = vreg s p j r := by
  simp only [Machine.vreg, lane, h.lanes]

theorem mem_pendIns {t : Nat} {w : Wr} {l : List (Nat × Wr)} {e : Nat × Wr} : e ∈ pendIns t w l ↔ e = (t, w) ∨ e ∈ l := by
  induction l with
  | nil => simp [pendIns]
  | cons x l ih =>
    unfold pendIns
    split
    · simp
    · simp [ih, or_left_comm]

theorem push_queued (s : State) (t : Nat) (w : Wr) {p : Nat} (hp : p < 4) : Queued p s (push s p t w) := by
  unfold push
  refine ⟨rfl, ?_, ?_, fun e he => ?_⟩ <;> rw [press_setPress _ _ hp]
  exact mem_pendIns.2 (.inr he)

theorem push_delivers (s : State) (t : Nat) (w : Wr) {p : Nat} (hp : p < 4) : Delivers (push s p t w) p t w := by
  unfold Delivers push
  rw [press_setPress _ _ hp]
  exact mem_pendIns.2 (.inl rfl)

/-- Run `f` in the listed lane entries of the mask, in the order of the list: the loop of `eachLane`. -/
def inLanes (l : List Nat) (s : State) (p : Nat) (m : Word) (f : State → Nat → Nat → State) : State :=
  l.foldl (fun s j => if wbit m (laneNo s p j) then f s j (laneNo s p j) else s) s

theorem eachLane_eq_inLanes (s : State) (p : Nat) (m : Word) (f : State → Nat → Nat → State) :
    eachLane s p m f = inLanes (List.range 34) s p m f := rfl

theorem inLanes_cons (j : Nat) (l : List Nat) (s : State) (p : Nat) (m : Word) (f : State → Nat → Nat → State) :
    inLanes (j :: l) s p m f = inLanes l (if wbit m (laneNo s p j) then f s j (laneNo s p j) else s) p m f := rfl

/-- Where each lane entry's effect queues result `w j`, all selected entries of the list have theirs at the end. -/
theorem inLanes_queued {s : State} {p due : Nat} {m : Word} {f : State → Nat → Nat → State} {w : Nat → Wr}
    (hf : ∀ u j, Queued p s u → Queued p u (f u j (laneNo s p j)) ∧ Delivers (f u j (laneNo s p j)) p due (w j))
    (l : List Nat) {u : State} (hu : Queued p s u) :
    Queued p u (inLanes l u p m f) ∧ ∀ j ∈ l, wbit m (laneNo s p j) = true → Delivers (inLanes l u p m f) p due (w j) := by
  induction l generalizing u with
  | nil => exact ⟨.refl p u, by simp⟩
  | cons i l ih =>
    obtain ⟨hq, hd⟩ := hf u i hu
    rw [inLanes_cons, hu.laneNo]
    by_cases hi : wbit m (laneNo s p i) = true
    · obtain ⟨htail, hdeliv⟩ := ih (hu.trans hq)
      rw [if_pos hi]
      refine ⟨hq.trans htail, fun j hj hsel => ?_⟩
      rcases List.mem_cons.1 hj with rfl | hj
      · exact htail.pend _ hd
      · exact hdeliv j hj hsel
    · obtain ⟨htail, hdeliv⟩ := ih hu
      rw [if_neg hi]
      refine ⟨htail, fun j hj hsel => ?_⟩
      rcases List.mem_cons.1 hj with rfl | hj
      · exact absurd hsel hi
      · exact hdeliv j hj hsel

theorem eachLane_queued {s : State} {p due : Nat} {m : Word} {f : State → Nat → Nat → State} {w : Nat → Wr}
    (hf : ∀ u j, Queued p s u → Queued p u (f u j (laneNo s p j)) ∧ Delivers (f u j (laneNo s p j)) p due (w j)) :
    Queued p s (eachLane s p m f) ∧
      ∀ j < 34, wbit m (laneNo s p j) = true → Delivers (eachLane s p m f) p due (w j) := by
  obtain ⟨hq, hd⟩ := inLanes_queued hf (List.range 34) (m := m) (.refl p s)
  rw [eachLane_eq_inLanes]
  exact ⟨hq, fun j hj => hd j (List.mem_range.2 hj)⟩

/-! ### The checks after the effect (R73 to R75) -/

/-- From `s` to `t` only reports and the upset registers of press `p` change, no waiting result and no flag of a check lane. -/
structure Checked (p : Nat) (s t : State) : Prop where
  regs : ∀ o, reports o = false → upsetReg p o = false → getR t o = getR s o
  pend : (press t p).pend = (press s p).pend
  checkFlags : (press t p).checkFlags = (press s p).checkFlags

theorem Checked.refl (p : Nat) (s : State) : Checked p s s := ⟨fun _ _ _ => rfl, rfl, rfl⟩

theorem Checked.trans {p : Nat} {s t u : State} (h : Checked p s t) (k : Checked p t u) : Checked p s u :=
  ⟨fun o hr hu => (k.regs o hr hu).trans (h.regs o hr hu), k.pend.trans h.pend, k.checkFlags.trans h.checkFlags⟩

theorem Checked.foldl {α : Type} {p : Nat} {g : State → α → State} (hg : ∀ s x, Checked p s (g s x)) (l : List α)
    (s : State) : Checked p s (l.foldl g s) := by
  induction l generalizing s with
  | nil => exact .refl p s
  | cons x l ih => exact (hg s x).trans (ih (g s x))

/-- A report that touches only registers of reports or of upsets is a check's. -/
theorem Reported.checked {p : Nat} {s t : State} (h : Reported s t)
    (hregs : ∀ o, reports o = false → upsetReg p o = false → getR t o = getR s o) : Checked p s t :=
  ⟨hregs, by rw [h.press p], by rw [h.press p]⟩

theorem setR_checked (s : State) (w : Word) {p o : Nat} (ho : upsetReg p o = true) : Checked p s (setR s o w) :=
  (setR_reported s o w).checked fun o' _ hu => getR_setR_other _ _ _ _ (by rintro rfl; simp [ho] at hu)

theorem setPress_checked (s : State) {p : Nat} {x : Press} (hp : p < 4) (hpend : x.pend = (press s p).pend)
    (hflags : x.checkFlags = (press s p).checkFlags) : Checked p s (setPress s p x) :=
  ⟨fun _ _ _ => rfl, by rw [press_setPress _ _ hp, hpend], by rw [press_setPress _ _ hp, hflags]⟩

theorem setFault_checked (p : Nat) (s : State) (b : Nat) {c : Nat} (hc : c < 16) : Checked p s (setFault s c b) :=
  (setFault_reported s c b).checked fun o hr _ => getR_setFault s c b o hc hr

theorem logAt_checked (p : Nat) (s : State) (frac : BitVec 16) (code source : Nat) (args : List Byte) {sev : Nat}
    (hs : sev < 8) : Checked p s (logAt s frac code source sev args) :=
  (logAt_reported s frac code source sev args).checked fun o hr _ => getR_logAt s frac code source sev args o hs hr

theorem pressFault_checked (s : State) (p : Nat) : Checked p s (pressFault s p) :=
  (setR_checked s _ (by simp [upsetReg, F.PRESS_STAT_FAULTED])).trans (setFault_checked p _ p (by decide))

theorem eccCorrected_checked (s : State) (frac : BitVec 16) (p mem l : Nat) : Checked p s (eccCorrected s frac p mem l) := by
  have hnoted : Checked p s { s with rs := { s.rs with eccAt := s.sctr.toNat :: s.rs.eccAt } } :=
    ⟨fun _ _ _ => rfl, rfl, rfl⟩
  exact (hnoted.trans (setR_checked _ _ (by simp [upsetReg]))).trans (logAt_checked p _ frac _ _ _ (by decide))

theorem eccUncorrectable_checked (s : State) (frac : BitVec 16) (p mem l addr : Nat) (scrub : Bool) :
    Checked p s (eccUncorrectable s frac p mem l addr scrub) :=
  ((((setR_checked s _ (by simp [upsetReg, F.PRESS_STAT_ECC_UNC])).trans (setR_checked _ _ (by simp [upsetReg]))).trans
    (pressFault_checked _ p)).trans (setFault_checked p _ 4 (by decide))).trans (logAt_checked p _ frac _ _ _ (by decide))

theorem eccCheck_checked (s : State) (f : BitVec 16) (m k : Nat) (scrub : Bool) {p : Nat} (hp : p < 4) :
    Checked p s (eccCheck s f p m k scrub) := by
  have hunmark : Checked p s (setPress s p (unmark (press s p) m k)) := setPress_checked s hp rfl rfl
  unfold eccCheck
  split
  · exact .refl p s
  · exact hunmark.trans (eccCorrected_checked _ f p m _)
  · exact eccUncorrectable_checked s f p m _ _ scrub

theorem checkMismatch_checked (s : State) (p t c e : Nat) : Checked p s (checkMismatch s p t c e) := by
  have hcount : Checked p s (bump s (R.MISM_CNT p)) := setR_checked s _ (by simp [upsetReg])
  unfold checkMismatch
  dsimp only
  split
  · exact hcount
  · exact ((((hcount.trans (setR_checked _ _ (by simp [upsetReg, F.PRESS_STAT_MISMATCH]))).trans
      (setR_checked _ _ (by simp [upsetReg]))).trans (setR_checked _ _ (by simp [upsetReg]))).trans
      (pressFault_checked _ p)).trans (logAt_checked p _ (fracOf t) _ _ _ (by decide))

theorem compareLanes_checked (s : State) (p t : Nat) : Checked p s (compareLanes s p t) := by
  refine .foldl (fun s c => .foldl (fun s e => ?_) _ s) _ s
  split
  · exact .refl p s
  · exact checkMismatch_checked s p t c e

theorem checkReads_checked (s : State) (t : Nat) {p : Nat} (hp : p < 4) : Checked p s (checkReads s p t) :=
  .foldl (fun s (x : Nat × Nat) => eccCheck_checked s (fracOf t) x.1 x.2 false hp) _ s

theorem nextSlot_checked (s : State) (t : Nat) {p : Nat} (hp : p < 4) :
    Checked p s (setPress s p { press s p with slot := t, trace := [] }) := setPress_checked s hp rfl rfl

/-- The end of an issue that no upset strikes keeps the results that wait and the lane flags. -/
theorem retire_checked (s : State) {h : Issue} (hup : h.upsets = []) : Checked h.p.val s (retire s h) := by
  simp only [retire, hup, List.foldl_nil]
  exact ((checkReads_checked s _ h.p.isLt).trans (compareLanes_checked _ _ _)).trans (nextSlot_checked _ _ h.p.isLt)

/-! ### An instruction that delivers results and sets no flag -/

/-- The effect of an issue queues results only: no flag of a compute or a check lane changes, and what the effect queued waits when
the instruction has issued. -/
theorem issue_queued {s u : State} {i : Instr} {h : Issue} {f : State → Nat → Word → State} (hi : Issues s i h)
    (hf : f (readyPress s h.p.val) (press s h.p.val).slot (effMask (readyPress s h.p.val) h) = u)
    (hu : Queued h.p.val (readyPress s h.p.val) u) :
    (∀ g : LFlag, getR (issue i h s f) (g.reg h.p.val) = getR s (g.reg h.p.val)) ∧
      (press (issue i h s f) h.p.val).checkFlags = (press s h.p.val).checkFlags ∧
      ∀ t w, Delivers u h.p.val t w → Delivers (issue i h s f) h.p.val t w := by
  have ⟨_, _, hup⟩ := hi
  have hend := retire_checked u hup
  rw [issue_of_issues hi f, hf]
  refine ⟨fun g => ?_, ?_, fun t w hw => ?_⟩
  · obtain ⟨hrep, hups⟩ := flagReg_apart h.p g
    exact (hend.regs _ hrep hups).trans (getR_congr (hu.regs.trans (readyPress_regs s _)) _)
  · exact hend.checkFlags.trans (hu.checkFlags.trans (readyPress_fetchKept s h.p.isLt).checkFlags)
  · unfold Delivers
    rw [hend.pend]
    exact hw

end Sys2Proof.Machine
end

section
/-! PROOFS. `EXPX` (R119): the exponent by the class of its operand (R77), and its delivery. -/

namespace Sys2Proof.Machine

/-- The biased exponent of R77 as `expOf` takes it from the word. -/
theorem biasedExponent_toNat (w : Word) : ((w >>> 23) &&& 0xFF).toNat = w.toNat / 2 ^ 23 % 256 := by
  simp only [BitVec.toNat_and, BitVec.toNat_ushiftRight, Nat.shiftRight_eq_div_pow]
  exact Nat.and_two_pow_sub_one_eq_mod _ 8

theorem expOf_normal {w : Word} (h0 : 0 < w.toNat / 2 ^ 23 % 256) (h255 : w.toNat / 2 ^ 23 % 256 < 255) :
    expOf w = ((w.toNat / 2 ^ 23 % 256 : Nat) : Int) - 127 := by
  unfold expOf
  rw [biasedExponent_toNat]
  simp only [if_neg (Nat.ne_of_gt h0), if_neg (Nat.ne_of_lt h255)]

theorem expOf_zeroOrSubnormal {w : Word} (h : w.toNat / 2 ^ 23 % 256 = 0) : expOf w = -127 := by
  unfold expOf
  rw [biasedExponent_toNat, h]
  rfl

theorem expOf_infOrNan {w : Word} (h : w.toNat / 2 ^ 23 % 256 = 255) : expOf w = 128 := by
  unfold expOf
  rw [biasedExponent_toNat, h]
  rfl

/-- The effect of `EXPX` on the lanes: each selected entry queues the exponent of its operand. -/
theorem eachLane_expx (r : State) (t : Nat) (m : Word) (d a : Fin 16) {p : Nat} (hp : p < 4) :
    let u := eachLane r p m (fun s j _ => setV s p t j d (BitVec.ofInt 32 (expOf (vreg s p j a))))
    Queued p r u ∧ ∀ j < 34, wbit m (laneNo r p j) = true →
      Delivers u p (t + 4) (.v j d.val (BitVec.ofInt 32 (expOf (vreg r p j a)))) :=
  eachLane_queued fun u j hu => by
    rw [hu.vreg]
    exact ⟨push_queued u _ _ hp, push_delivers u _ _ hp⟩

/-- Settles O20: issuing `EXPX` queues the exponents and nothing else, the checks after it touch no flag, and the exponent is R119's in
each class of its operand. -/
theorem exponentInstruction : Obligations.ExponentInstruction := by
  unfold Obligations.ExponentInstruction
  intro s h d a hi
  obtain ⟨hqueued, hlanes⟩ := eachLane_expx (readyPress s h.p.val) (press s h.p.val).slot
    (effMask (readyPress s h.p.val) h) d a h.p.isLt
  obtain ⟨hflags, hcheck, hwaits⟩ := issue_queued hi
    (f := fun s t m => eachLane s h.p.val m (fun s j _ =>
      setV s h.p.val t j d (BitVec.ofInt 32 (expOf (vreg s h.p.val j a))))) rfl hqueued
  refine ⟨_, rfl, hflags, hcheck, fun j hsel => ?_⟩
  obtain ⟨hj, hmask⟩ := hsel
  have hgives := hwaits _ _ (hlanes j hj hmask)
  refine ⟨fun h0 h255 => ?_, fun h0 => ?_, fun h255 => ?_⟩
  · exact expOf_normal h0 h255 ▸ hgives
  · exact expOf_zeroOrSubnormal h0 ▸ hgives
  · exact expOf_infOrNan h255 ▸ hgives

end Sys2Proof.Machine
end

section
/-! PROOFS. `SWAP_CANCEL` (R173): its answer in each state of the swap, and that the banks stay as they are. -/

namespace Sys2Proof.Machine

/-! ### Registers of the banks and of the swap -/

/-- The registers of the banks and of the swap (R153, R193) are neither reporting ones nor of a mailbox channel. -/
theorem RegsKept.engineReg {s t : State} {c o : Nat} (h : RegsKept s t (channelReg c)) (hc : c < 8) (hlo : 0x5200 ≤ o)
    (hhi : o < 0x5400) : getR t o = getR s o := by
  refine h o ?_ ?_
  · simp [reports, R.IRQ_STATUS, R.MSIX_PBA, R.LOG_STAT, R.LOG_MERGES, R.TWT_STAT]
    omega
  · have hout : ¬ o < R.MB_STAT c + 28 := by simp only [R.MB_STAT]; omega
    simp [channelReg, hout]

theorem bankField_off (b : Nat) : (bankField b).off = R.ENG_BANK_STAT := by
  unfold bankField
  split <;> rfl

theorem RegsKept.bankState {s t : State} {c : Nat} (h : RegsKept s t (channelReg c)) (hc : c < 8) (b : Nat) :
    bankState t b = bankState s b := by
  refine congrArg (fldGet · (bankField b)) ?_
  rw [bankField_off]
  exact h.engineReg hc (by decide) (by decide)

theorem RegsKept.swapState {s t : State} {c : Nat} (h : RegsKept s t (channelReg c)) (hc : c < 8) :
    swapState t = swapState s :=
  congrArg (fldGet · F.SWAP_STAT_STATE) (h.engineReg hc (by decide) (by decide))

theorem RegsKept.swapAt {s t : State} {c : Nat} (h : RegsKept s t (channelReg c)) (hc : c < 8) :
    swapAt t = swapAt s := by
  have hlow : getR t R.SWAP_SCTR_LO = getR s R.SWAP_SCTR_LO := h.engineReg hc (by decide) (by decide)
  have hhigh : getR t R.SWAP_SCTR_HI = getR s R.SWAP_SCTR_HI := h.engineReg hc (by decide) (by decide)
  unfold Machine.swapAt
  rw [hlow, hhigh]

/-! ### A refusal -/

/-- The state after a request that is refused outright: taken and answered. -/
def refusedAtOnce (s : State) (c code detail : Nat) : State := finish (accept s c) c (.refused code detail) false

theorem refusedAtOnce_reported (s : State) (c code detail : Nat) : Reported s (refusedAtOnce s c code detail) :=
  (accept_reported s c).trans (finish_reported _ _ _ _)

theorem refusedAtOnce_regsKept (s : State) (c code detail : Nat) :
    RegsKept s (refusedAtOnce s c code detail) (channelReg c) :=
  (accept_regsKept s c).trans (finish_regsKept _ _ _ _)

theorem refusedAtOnce_answered (s : State) {c : Nat} (code detail : Nat) (hc : c < 8) :
    AnsweredRefused s (refusedAtOnce s c code detail) c code detail :=
  finish_answered (s := s) _ _ rfl hc

/-! ### The swap returned to IDLE -/

/-- The pending swap is IDLE again, and `SWAP_CANCELLED` is logged. -/
def swapCancelled (s : State) : State :=
  engEv (setF s F.SWAP_STAT_STATE 0) 0x06C9 sevInfo (le 1 (swapBank s))

/-- The state after a cancel that is accepted. -/
def swapCancelOk (s : State) (c : Nat) : State := finish (swapCancelled (accept s c)) c (.ok []) false

theorem swapCancelOk_reported (s : State) (c : Nat) : Reported s (swapCancelOk s c) :=
  (((accept_reported s c).trans (setF_reported _ _ _)).trans (logEv_reported _ _ _ _ _)).trans (finish_reported _ _ _ _)

/-- The report and the answer follow the change of `SWAP_STAT` and touch no register of the engine. -/
theorem swapCancelOk_regsKept (s : State) (c : Nat) :
    RegsKept (setF (accept s c) F.SWAP_STAT_STATE 0) (swapCancelOk s c) (channelReg c) :=
  (logEv_regsKept _ _ _ _ _ _ (by decide)).trans (finish_regsKept _ _ _ _)

theorem swapState_swapCancelOk (s : State) {c : Nat} (hc : c < 8) : swapState (swapCancelOk s c) = 0 :=
  ((swapCancelOk_regsKept s c).swapState hc).trans (getF_setF_same _ _ _ (by decide))

theorem bankState_swapCancelOk (s : State) {c : Nat} (hc : c < 8) (b : Nat) :
    bankState (swapCancelOk s c) b = bankState s b := by
  have hapart : F.SWAP_STAT_STATE.off ≠ (bankField b).off := by
    rw [bankField_off]
    decide
  calc bankState (swapCancelOk s c) b
      = bankState (setF (accept s c) F.SWAP_STAT_STATE 0) b := (swapCancelOk_regsKept s c).bankState hc b
    _ = bankState (accept s c) b := getF_setF_reg _ _ _ _ hapart
    _ = bankState s b := (accept_regsKept s c).bankState hc b

theorem swapCancelOk_answered (s : State) {c : Nat} (hc : c < 8) : AnsweredOk s (swapCancelOk s c) c [] :=
  finish_answered (s := s) _ _ (by simp [swapCancelled, engEv, accept]) hc

/-! ### The command -/

/-- What `SWAP_CANCEL` leaves, by the swap it finds: none pending, one due in less than 2 sp, one that can still be cancelled. -/
theorem exec_swapCancel {s : State} {c : Fin 8} (hs : Served s c 0x0606 (· == 0)) :
    exec (.swapCancel c) s = .next (
      if swapState s ≠ 1 then refusedAtOnce s c 0x0638 0
      else if swapAt s < s.sctr.toNat + 2 then refusedAtOnce s c 0x0639 (swapAt s % 2 ^ 32)
      else swapCancelOk s c) := by
  obtain ⟨ht, hh⟩ := hs
  have hstate : swapState (accept s c) = swapState s := (accept_regsKept s c).swapState c.isLt
  have hat : swapAt (accept s c) = swapAt s := (accept_regsKept s c).swapAt c.isLt
  change execSwapCancel c s = _
  unfold execSwapCancel
  rw [serve_replies _ _ _ _ _ ht hh (by split_ifs <;> simp)]
  simp only [hstate, hat, accept_sctr]
  split_ifs <;> rfl

/-- Settles O29: a refusal touches its channel alone; a cancel writes `SWAP_STAT.STATE`, reports and answers, and none of these reaches
the states of the banks. -/
theorem swapCancel : Obligations.SwapCancel := by
  unfold Obligations.SwapCancel
  intro s c hs
  refine ⟨_, exec_swapCancel hs, ?_⟩
  by_cases hpending : swapState s = 1
  · by_cases hlate : swapAt s < s.sctr.toNat + 2
    · rw [if_neg (not_not.mpr hpending), if_pos hlate]
      have hrep := refusedAtOnce_reported s c 0x0639 (swapAt s % 2 ^ 32)
      have hkept := refusedAtOnce_regsKept s c 0x0639 (swapAt s % 2 ^ 32)
      exact ⟨hrep.eng, hrep.dsp, hkept.bankState c.isLt, fun h => absurd hpending h,
        fun _ _ => ⟨⟨_, refusedAtOnce_answered s _ _ c.isLt⟩, (hkept.swapState c.isLt).trans hpending⟩,
        fun _ h => absurd hlate (Nat.not_lt.mpr h)⟩
    · rw [if_neg (not_not.mpr hpending), if_neg hlate]
      have hrep := swapCancelOk_reported s c
      exact ⟨hrep.eng, hrep.dsp, bankState_swapCancelOk s c.isLt, fun h => absurd hpending h, fun _ h => absurd h hlate,
        fun _ _ => ⟨swapCancelOk_answered s c.isLt, swapState_swapCancelOk s c.isLt⟩⟩
  · rw [if_pos hpending]
    have hrep := refusedAtOnce_reported s c 0x0638 0
    have hkept := refusedAtOnce_regsKept s c 0x0638 0
    exact ⟨hrep.eng, hrep.dsp, hkept.bankState c.isLt,
      fun _ => ⟨⟨_, refusedAtOnce_answered s _ _ c.isLt⟩, hkept.swapState c.isLt⟩,
      fun h => absurd h hpending, fun h => absurd h hpending⟩

end Sys2Proof.Machine
end

section
/-! PROOFS. A digest difference during a restrike (R395): what the receive path counts of a frame that passes it, what the pair logic
keeps of a frame that it takes, and that the comparison then only ends the agreement run. -/

namespace Sys2Proof.Machine

/-! ### A frame passes the receive path (R235) -/

/-- The registers of the port counters (R249). -/
def portCounter (o : Nat) : Bool := decide (R.ETH_CNT 0 0 ≤ o) && decide (o < R.ETH_CNT 4 0)

theorem portCounter_ethCnt {p k : Nat} (hp : p < 4) (hk : k < 64) : portCounter (R.ETH_CNT p k) = true := by
  simp [portCounter, R.ETH_CNT]
  omega

/-- `t` is `s` but for what counting a frame touches: the network part and the port counters. -/
structure FrameCounted (s t : State) : Prop where
  parts : ∃ r n, t = { s with regs := r, net := n }
  regs : ∀ o, portCounter o = false → getR t o = getR s o

theorem FrameCounted.refl (s : State) : FrameCounted s s := ⟨⟨_, _, rfl⟩, fun _ _ => rfl⟩

theorem FrameCounted.trans {s t u : State} (h : FrameCounted s t) (k : FrameCounted t u) : FrameCounted s u := by
  refine ⟨?_, fun o ho => (k.regs o ho).trans (h.regs o ho)⟩
  obtain ⟨r, n, rfl⟩ := h.parts
  obtain ⟨r', n', rfl⟩ := k.parts
  exact ⟨r', n', rfl⟩

theorem FrameCounted.ite {s t u : State} {c : Prop} [Decidable c] (h : FrameCounted s t) (k : FrameCounted s u) :
    FrameCounted s (if c then t else u) := by
  split <;> assumption

theorem FrameCounted.getF {s t : State} (h : FrameCounted s t) (f : Fld) (hf : portCounter f.off = false) :
    getF t f = getF s f := congrArg (fldGet · f) (h.regs f.off hf)

theorem FrameCounted.pair {s t : State} (h : FrameCounted s t) : t.pair = s.pair := by
  obtain ⟨r, n, rfl⟩ := h.parts
  rfl

theorem FrameCounted.sctr {s t : State} (h : FrameCounted s t) : t.sctr = s.sctr := by
  obtain ⟨r, n, rfl⟩ := h.parts
  rfl

theorem FrameCounted.log {s t : State} (h : FrameCounted s t) : t.log = s.log := by
  obtain ⟨r, n, rfl⟩ := h.parts
  rfl

theorem FrameCounted.out {s t : State} (h : FrameCounted s t) : t.out = s.out := by
  obtain ⟨r, n, rfl⟩ := h.parts
  rfl

theorem setEthPort_frameCounted (s : State) (p : Nat) (x : EthPort) : FrameCounted s (setEthPort s p x) :=
  ⟨⟨_, _, rfl⟩, fun _ _ => rfl⟩

theorem ethCount_frameCounted (s : State) {p k : Nat} (n : Nat) (hp : p < 4) (hk : k < 64) :
    FrameCounted s (ethCount s p k n) := by
  refine ⟨⟨_, _, rfl⟩, fun o ho => getR_bump_other _ _ _ _ ?_⟩
  rintro rfl
  simp [portCounter_ethCnt hp hk] at ho

theorem rxCounted_frameCounted (s : State) {p cast : Nat} (len tag : Nat) (hp : p < 4) (hc : cast < 64) :
    FrameCounted s (rxCounted s p len cast tag) := by
  have count : ∀ (t : State) (k n : Nat), k < 64 → FrameCounted t (ethCount t p k n) :=
    fun t k n hk => ethCount_frameCounted t n hp hk
  have hcast := (count s 0 1 (by decide)).trans (count _ cast 1 hc)
  have hlong := hcast.trans (.ite (c := 1518 + tag < len) (count _ 8 1 (by decide)) (.refl _))
  exact (hlong.trans (.ite (count _ 1 _ (by decide)) (.refl _))).trans (setEthPort_frameCounted _ _ _)

/-- A frame that passes the early checks is counted, and nothing else is done to it. -/
theorem rxEarly_frameCounted {s : State} {p : Nat} {x : RxSeen} (hp : p < 4) (h : (rxEarly s p x).2 = true) :
    FrameCounted s (rxEarly s p x).1 := by
  unfold rxEarly at h ⊢
  split_ifs at h ⊢
  all_goals exact rxCounted_frameCounted s _ _ hp (by decide)

/-- A frame of the pair EtherType that passes the late checks is counted among those of the pair link. -/
theorem rxLate_pair_frameCounted {s : State} {p : Nat} {x : RxSeen} (hp : p < 4) (hx : x.etype = 0x88B5)
    (h : (rxLate s p x).2 = true) : FrameCounted s (rxLate s p x).1 := by
  unfold rxLate at h ⊢
  simp only [hx, if_true] at h ⊢
  split_ifs at h ⊢
  exact ethCount_frameCounted s 1 hp (by decide)

theorem rxGate_pair_frameCounted {s : State} {p : Nat} {x : RxSeen} (hp : p < 4) (hx : x.etype = 0x88B5)
    (h : (rxGate s p x).2 = true) : FrameCounted s (rxGate s p x).1 := by
  have hcontrol : ¬ x.etype = 0x8808 := by simp [hx]
  cases hearly : (rxEarly s p x).2 with
  | false => simp [rxGate, hearly] at h
  | true =>
    simp only [rxGate, hearly, hcontrol, Bool.not_true, Bool.false_eq_true, if_false] at h ⊢
    exact (rxEarly_frameCounted hp hearly).trans (rxLate_pair_frameCounted hp hx h)

theorem rxHead_pair_frameCounted {s : State} {h : RxHead} {sub : Nat} (hr : (rxHead s h 0x88B5 sub).2 = true) :
    FrameCounted s (rxHead s h 0x88B5 sub).1 := by
  by_cases hup : ethUp s h.port.val = true
  · simp only [rxHead, if_pos hup] at hr ⊢
    exact rxGate_pair_frameCounted h.port.isLt rfl hr
  · simp [rxHead, hup] at hr

/-! ### A frame is taken by the pair logic (R357) -/

/-- The pair logic keeps the SEQ of a frame that it takes. -/
def seqTaken (s : State) (f : PairFrame) (subtype : Nat) : State :=
  { s with pair := { s.pair with ses := { s.pair.ses with rxSeq := setSeq s.pair.ses.rxSeq subtype f.seq.toNat } } }

/-- The state after a pair-link frame has passed the receive path and the checks of R357. -/
def frameTaken (s : State) (f : PairFrame) (subtype : Nat) : State :=
  seqTaken (rxHead s f.head 0x88B5 subtype).1 f subtype

/-- What counting a frame touches decides nothing in the checks of the pair logic. -/
theorem pairCheckIn_of_frameOk {s t : State} {f : PairFrame} {subtype : Nat} (hok : FrameOk s f subtype)
    (hc : FrameCounted s t) :
    pairCheckIn t f subtype = (seqTaken t f subtype, some (extendSctr s f.sctrLo.toNat)) := by
  obtain ⟨⟨_, hfn, hrole⟩, hsrc, hid, hseq, hver, htag⟩ := hok
  have hfn' : fnOn t 0x48 = true := by
    simpa only [fnOn, fnState, hc.getF _ (by decide : portCounter (F.FN_CTL_STATE 0x48).off = false)] using hfn
  have hunp : unpaired t = unpaired s :=
    congrArg (fun r => decide (r ≤ 2)) (hc.getF F.PAIR_STAT_ROLE (by decide))
  have hpeer : pairPeer t = pairPeer s := by
    simp only [pairPeer, hc.getF F.PAIR_PEER_HI_PEER_HI (by decide), hc.regs R.PAIR_PEER_LO (by decide)]
  have hext : extendSctr t f.sctrLo.toNat = extendSctr s f.sctrLo.toNat := by simp only [extendSctr, hc.sctr]
  have hpass : (decide (subtype < 0x10) && unpaired s) = false := by
    rcases hrole with h | h
    · simp [Nat.not_lt.mpr h]
    · simp [h]
  have htag' : pairTagOk t f subtype (extendSctr s f.sctrLo.toNat) = true := by
    simpa only [pairTagOk, hc.pair, hc.sctr] using htag
  have hid' : f.pairId = getR t R.PAIR_ID := hid.trans (hc.regs R.PAIR_ID (by decide)).symm
  have hseq' : ¬ f.seq.toNat ≤ seqOf t.pair.ses.rxSeq subtype := by
    rw [hc.pair]
    exact Nat.not_le.mpr hseq
  simp [pairCheckIn, seqTaken, hext, hfn', hunp, hpass, hpeer, hsrc, ← hid', hseq', hver, htag']

/-- A frame that reaches the pair logic and passes its checks is handed on. -/
theorem pairTake_of_frameOk {s : State} {f : PairFrame} {subtype : Nat} (hok : FrameOk s f subtype)
    (g : State → Nat → State) :
    pairTake s f subtype g = g (frameTaken s f subtype) (extendSctr s f.sctrLo.toNat) := by
  have hr : (rxHead s f.head 0x88B5 subtype).2 = true := hok.1.1
  simp only [pairTake, hr, if_true, pairDeliver, pairCheckIn_of_frameOk hok (rxHead_pair_frameCounted hr), frameTaken]

theorem getR_frameTaken (s : State) (f : PairFrame) (subtype o : Nat) :
    getR (frameTaken s f subtype) o = getR (rxHead s f.head 0x88B5 subtype).1 o := rfl

theorem frameTaken_pair {s : State} {f : PairFrame} {subtype : Nat} (hok : FrameOk s f subtype) :
    (frameTaken s f subtype).pair =
      { s.pair with ses := { s.pair.ses with rxSeq := setSeq s.pair.ses.rxSeq subtype f.seq.toNat } } := by
  simp only [frameTaken, seqTaken, (rxHead_pair_frameCounted hok.1.1).pair]

theorem frameTaken_log {s : State} {f : PairFrame} {subtype : Nat} (hok : FrameOk s f subtype) :
    (frameTaken s f subtype).log = s.log := (rxHead_pair_frameCounted hok.1.1).log

theorem frameTaken_out {s : State} {f : PairFrame} {subtype : Nat} (hok : FrameOk s f subtype) :
    (frameTaken s f subtype).out = s.out := (rxHead_pair_frameCounted hok.1.1).out

/-- A field outside the port counters reads as before when a frame has been taken. -/
theorem getF_frameTaken {s : State} {f : PairFrame} {subtype : Nat} (hok : FrameOk s f subtype) (g : Fld)
    (hg : portCounter g.off = false) : getF (frameTaken s f subtype) g = getF s g :=
  (rxHead_pair_frameCounted hok.1.1).getF g hg

/-! ### The comparison of one digest (R362, R395) -/

/-- A digest that has been compared is held no longer. -/
def digestDropped (s : State) (d : Digest) : State :=
  { s with pair := { s.pair with digOwn := s.pair.digOwn.filter (· != d), digDue := s.pair.digDue.filter (· != d) } }

@[simp] theorem digestDropped_log (s : State) (d : Digest) : (digestDropped s d).log = s.log := rfl
@[simp] theorem digestDropped_out (s : State) (d : Digest) : (digestDropped s d).out = s.out := rfl
@[simp] theorem digestDropped_omQ (s : State) (d : Digest) : (digestDropped s d).pair.omQ = s.pair.omQ := rfl

theorem getR_digestDropped (s : State) (d : Digest) (o : Nat) : getR (digestDropped s d) o = getR s o := rfl

/-- A digest frame of one entry, on a STANDBY. -/
theorem takeDigests_one {f : PairFrame} {s : State} (n : Nat) (hrole : roleOf s = roleStandby)
    (hone : leAt f.payload 0 2 = 1) :
    takeDigests f s n =
      compareDigest s (leAt f.payload 4 2) (leAt f.payload 8 4) (BitVec.ofNat 32 (leAt f.payload 12 4)) := by
  simp [takeDigests, hrole, hone, List.range_one]

theorem compareDigest_differs {s : State} {g lo : Nat} {crc : Word} {d : Digest}
    (hfind : (s.pair.digOwn ++ s.pair.digDue).find? (fun d => d.group == g && d.end_ % 2 ^ 32 == lo) = some d)
    (hne : d.crc ≠ crc) : compareDigest s g lo crc = digMismatch (digestDropped s d) d crc := by
  simp only [compareDigest, hfind, if_neg hne, digestDropped]

@[simp] theorem agreeReset_log (s : State) (why : Nat) : (agreeReset s why).log = s.log := rfl
@[simp] theorem agreeReset_out (s : State) (why : Nat) : (agreeReset s why).out = s.out := rfl
@[simp] theorem agreeReset_omQ (s : State) (why : Nat) : (agreeReset s why).pair.omQ = s.pair.omQ := rfl

@[simp] theorem rsState_agreeReset (s : State) (why : Nat) : rsState (agreeReset s why) = rsState s :=
  getF_setR_other _ _ _ _ (by decide)

/-- While a restrike runs a difference does no more than end the agreement run. -/
theorem digMismatch_restriking {s : State} (d : Digest) (active : Word) (h : rsState s ≠ 0) :
    digMismatch s d active = agreeReset s 1 := by
  simp only [digMismatch, rsState_agreeReset, if_pos h]

theorem getR_agreeReset_same (s : State) (why : Nat) : getR (agreeReset s why) R.PAIR_AGREE = 0 :=
  getR_setR_same _ _ _

theorem getR_agreeReset_other (s : State) (why : Nat) {o : Nat} (h : o ≠ R.PAIR_AGREE) :
    getR (agreeReset s why) o = getR s o := getR_setR_other _ _ _ _ h.symm

/-- A digest frame of one entry that differs, on a STANDBY that restrikes: its reception, the held digest dropped, the run ended. -/
theorem exec_digestReceive_restriking {s : State} {f : PairFrame} {d : Digest} (hok : FrameOk s f 3)
    (hrole : roleOf s = roleStandby) (hrs : rsState s ≠ 0) (hone : leAt f.payload 0 2 = 1)
    (hfind : (s.pair.digOwn ++ s.pair.digDue).find?
      (fun d => d.group == leAt f.payload 4 2 && d.end_ % 2 ^ 32 == leAt f.payload 8 4) = some d)
    (hne : d.crc ≠ BitVec.ofNat 32 (leAt f.payload 12 4)) :
    exec (.digestReceive f) s = .next (agreeReset (digestDropped (frameTaken s f 3) d) 1) := by
  have hrole' : roleOf (frameTaken s f 3) = roleStandby := (getF_frameTaken hok F.PAIR_STAT_ROLE (by decide)).trans hrole
  have hrs' : rsState (digestDropped (frameTaken s f 3) d) ≠ 0 := by
    have hstate : rsState (digestDropped (frameTaken s f 3) d) = rsState s :=
      getF_frameTaken hok F.RS_STAT_STATE (by decide)
    rwa [hstate]
  change Host.Outcome.next (pairTake s f 3 (takeDigests f)) = _
  rw [pairTake_of_frameOk hok, takeDigests_one _ hrole' hone, compareDigest_differs (by rwa [frameTaken_pair hok]) hne,
    digMismatch_restriking d _ hrs']

/-- Settles O46: the comparison only writes `PAIR_AGREE`, and the reception before it only counts. -/
theorem digestInRestrike : Obligations.DigestInRestrike := by
  unfold Obligations.DigestInRestrike
  intro s f d hok hrole hrs hone hfind hne
  have hregs : ∀ o, o ≠ R.PAIR_AGREE →
      getR (agreeReset (digestDropped (frameTaken s f 3) d) 1) o = getR (rxHead s f.head 0x88B5 3).1 o := by
    intro o ho
    rw [getR_agreeReset_other _ _ ho, getR_digestDropped, getR_frameTaken]
  have hstat : getR (rxHead s f.head 0x88B5 3).1 R.PAIR_STAT = getR s R.PAIR_STAT :=
    (rxHead_pair_frameCounted hok.1.1).regs _ (by decide)
  refine ⟨_, exec_digestReceive_restriking hok hrole hrs hone hfind hne, getR_agreeReset_same _ _, ?_, ?_, ?_, ?_, hregs⟩
  · rw [agreeReset_log, digestDropped_log, frameTaken_log hok]
  · rw [agreeReset_out, digestDropped_out, frameTaken_out hok]
  · rw [agreeReset_omQ, digestDropped_omQ, frameTaken_pair hok]
  · exact congrArg (fun w => fldGet w F.PAIR_STAT_DIVERGED == 1) ((hregs R.PAIR_STAT (by decide)).trans hstat)

end Sys2Proof.Machine
end
